-- ==== Sys2Proof/Word.lean ====
section
/-!
DEFINITION. The words of the LJ3240: registers are 32 bits wide, addresses are byte addresses and data are
little-endian (R9). A field of a register is a run of bits of its word (R9's [msb:lsb]).
-/

namespace Sys2Proof

/-- A register or process-image word (R9). -/
abbrev Word := BitVec 32

/-- One byte of a frame, an image or a memory window. -/
abbrev Byte := BitVec 8

/-- A host seat (R8's table of seats): 0 SPI0, 1 SPI1, 2 MGMT, 3 ring-head commands. -/
abbrev Seat := Fin 4

/-- A bank, with its field die (R8). -/
abbrev Bank := Fin 4

/-- A channel CHn and its cell (R8). -/
abbrev Chan := Fin 32

/-- A statistics unit STAT[u] (R8). -/
abbrev Unit96 := Fin 96

/-- A DMA channel. -/
abbrev DmaCh := Fin 16

/-- A ring port: 0 is port A, 1 is port B. -/
abbrev Port := Fin 2

end Sys2Proof
end

