-- ==== Sys2Proof/Machine/Types.lean ====
section
/-!
DEFINITION. The named alternatives of the spec that the state and the commands are made of: cell states and causes
(R27, R28), the causes the logic side owns and the transaction steps a command word carries (R29), device modes (R5,
R165), function codes and families (R16), the resets (R12), and what the two barrier queues carry.
-/

namespace Sys2Proof.Machine

/-- The states of a cell (R27); the code of STATE.STATE is `CellState.code`. -/
inductive CellState | off | config | active | hold | safe | limp | fault
  deriving DecidableEq, Repr

/-- The code of a cell state in STATE.STATE (R27). -/
def CellState.code : CellState → Nat
  | .off => 0 | .config => 1 | .active => 2 | .hold => 3 | .safe => 4 | .limp => 5 | .fault => 6

/-- Why a cell is in its state (R28). -/
inductive Cause
  | none | bootConfig | txn | silenceRun | silence | lossRun | loss | recoveryHold | recoveryTimeout
  | pairHold | pairRelease | mismatch | votive | protection | fuseStall | limpMap
  deriving DecidableEq, Repr

/-- The code of a cause in STATE.CAUSE (R28). -/
def Cause.code : Cause → Nat
  | .none => 0 | .bootConfig => 1 | .txn => 2 | .silenceRun => 3 | .silence => 4 | .lossRun => 5 | .loss => 6
  | .recoveryHold => 7 | .recoveryTimeout => 8 | .pairHold => 9 | .pairRelease => 10 | .mismatch => 11
  | .votive => 12 | .protection => 13 | .fuseStall => 14 | .limpMap => 15

/-- The cause with a code of R28. -/
def Cause.ofCode : Nat → Cause
  | 1 => .bootConfig | 2 => .txn | 3 => .silenceRun | 4 => .silence | 5 => .lossRun | 6 => .loss
  | 7 => .recoveryHold | 8 => .recoveryTimeout | 9 => .pairHold | 10 => .pairRelease | 11 => .mismatch
  | 12 => .votive | 13 => .protection | 14 => .fuseStall | 15 => .limpMap | _ => .none

/-- The causes the logic side owns and sends in a command word (R29). -/
inductive LogicCause | none | silenceRun | silence | mismatch | votive
  deriving DecidableEq, Repr

/-- The cause code a logic-side cause gives a cell in SAFE (R28). -/
def LogicCause.cause : LogicCause → Cause
  | .none => .none | .silenceRun => .silenceRun | .silence => .silence | .mismatch => .mismatch | .votive => .votive

/-- The step of a staged transaction a command word carries for a cell (R29, R202). -/
inductive TxnStep | none | hold | config
  deriving DecidableEq, Repr

/-- The device and bank modes (R5); the codes are those of SYS.MODE.MODE (R165). -/
inductive Mode | boot | startup | run | test | recovery | votive
  deriving DecidableEq, Repr

/-- The code of a mode. -/
def Mode.code : Mode → Nat
  | .boot => 0 | .startup => 1 | .run => 2 | .test => 3 | .recovery => 4 | .votive => 5

/-- The mode with a code. -/
def Mode.ofCode : Nat → Mode
  | 1 => .startup | 2 => .run | 3 => .test | 4 => .recovery | 5 => .votive | _ => .boot

/-- The reset classes of R12. -/
inductive ResetClass | por | bor | wdr | cmr | hfr | pin | fbr
  deriving DecidableEq, Repr

/-- The code of a reset class in RESET_CAUSE.CLASS (table CLASS). -/
def ResetClass.code : ResetClass → Nat
  | .por => 0 | .bor => 1 | .wdr => 2 | .cmr => 3 | .hfr => 4 | .pin => 5 | .fbr => 6

/-- Function codes of CELL[n].CFG.FUNC (R16). -/
def FN_OFF : Nat := 0x0
def FN_DI : Nat := 0x1
def FN_DI_COUNT : Nat := 0x2
def FN_DO_HS : Nat := 0x3
def FN_DO_LAMP : Nat := 0x4
def FN_DO_PWM : Nat := 0x5
def FN_AI_V : Nat := 0x6
def FN_AI_I : Nat := 0x7
def FN_AO_I : Nat := 0x8
def FN_AO_V : Nat := 0x9
def FN_DI_NAMUR : Nat := 0xA

/-- The family of a function: 0 none, 1 input, 2 output (R16, the FAMILY table). -/
def family (fn : Nat) : Nat :=
  if fn = 0x1 ∨ fn = 0x2 ∨ fn = 0x6 ∨ fn = 0x7 ∨ fn = 0xA then 1
  else if fn = 0x3 ∨ fn = 0x4 ∨ fn = 0x5 ∨ fn = 0x8 ∨ fn = 0x9 then 2
  else 0

/-- The functions that drive the high-side switch (R16). -/
def isSwitchFn (fn : Nat) : Bool := fn == 0x3 || fn == 0x4 || fn == 0x5

/-- The loop outputs (R16). -/
def isLoopFn (fn : Nat) : Bool := fn == 0x8 || fn == 0x9

/-- The bits of FLAGS, LIVE and EVT_EN (the shared layout of the three registers). -/
abbrev FL_OPEN_LOAD : Nat := 0
abbrev FL_WIRE_BREAK : Nat := 1
abbrev FL_SHORT_VF : Nat := 2
abbrev FL_XFEED : Nat := 3
abbrev FL_PARALLEL_SEEN : Nat := 4
abbrev FL_ILIM : Nat := 5
abbrev FL_FUSE_TRIP : Nat := 6
abbrev FL_TWARN : Nat := 7
abbrev FL_TSD : Nat := 8
abbrev FL_INRUSH_CUT : Nat := 9
abbrev FL_COMPLIANCE : Nat := 10
abbrev FL_READBACK_MISMATCH : Nat := 11
abbrev FL_UV_OFF : Nat := 12
abbrev FL_VF_LOW : Nat := 13
abbrev FL_OVR : Nat := 14
abbrev FL_DIRTY : Nat := 15
abbrev FL_PLAUS_FAIL : Nat := 16
abbrev FL_STALE : Nat := 17

/-- The flags of a cell, one bit each. -/
abbrev FlagBits := BitVec 18

/-- What a switch trip waits for in an automatic restart (R51). -/
inductive TripKind | limit | tsd
  deriving DecidableEq, Repr

/-- What was in effect for a cell when the logic side was lost (R43, R110): safe code, safe value, limp-home map entry; LOOP_ALM.SEL,
the alarm currents AO_ALM gives, COMPLY_POLICY and NE43_CLAMP. -/
structure Kept where
  code : Nat
  value : Nat
  limp : Nat
  almSel : Nat
  almLo : Nat
  almHi : Nat
  policy : Nat
  ne43 : Nat
  deriving DecidableEq, Repr

/-- What a field die holds for one of its cells: the safe-state logic, the protections, the fuse-model state, the
diagnostics, the Wick generator, the input slice and the loop output (R15). Everything here is kept through resets
of the logic side and lost in an FBR, but for what R162 says the logic side restores. -/
structure FCell where
  /-- State, cause, adopt bit and TOKEN (R27, R28, table CELL[n].STATE). -/
  state : CellState := .config
  cause : Cause := .bootConfig
  adopted : Bool := false
  token : BitVec 16 := 0
  /-- What governs the output from a loss of the logic side until the cell is adopted (R43). -/
  kept : Option Kept := none
  /-- The causes and the transaction step of the last command word (R29). -/
  logicCause : LogicCause := .none
  txn : TxnStep := .none
  /-- A latched protection and a fuse stall (R29, R31). -/
  latched : Bool := false
  stalled : Bool := false
  /-- The commanded value and the value the state applies (R28, R31). -/
  commanded : Nat := 0
  applied : Nat := 0
  /-- The DAC of a loop output was off when its state froze it (R27, R42). -/
  offHeld : Bool := false
  /-- The switch conducts, since a time in 0.25 us; a phase-aligned turn-on waits (R63). -/
  on : Bool := false
  onAt : Nat := 0
  phaseWait : Bool := false
  /-- The switch is held off: by a restart off-time (R52), by TSD while off (R52), by UV_OFF (R158, R159). -/
  retryOff : Option TripKind := none
  tsdHold : Bool := false
  uvHeld : Bool := false
  retryCnt : Nat := 0
  inLimit : Bool := false
  inrush : Bool := false
  /-- The live conditions, and the flag occurrences no upward frame has reported yet. -/
  live : FlagBits := 0
  occ : FlagBits := 0
  /-- Trips no upward frame has reported yet (R34, R51). -/
  repIlim : Nat := 0
  repTsd : Nat := 0
  repFuse : Nat := 0
  /-- The fuse model state (R57): modelled temperature, its base, ambient and neighbour term in degrees, the hold
  current in mA (none: no step since the die started, R34), whether a first step has been taken (R61). -/
  tWire : Rat := 0
  tBase : Rat := 0
  tAmb : Rat := 0
  tNb : Rat := 0
  iHold : Option Nat := none
  modelled : Bool := false
  /-- Consecutive fuse-step markers, and the us of downward frames since the last (R31, R35). -/
  markers : Nat := 0
  sinceMarker : Nat := 0
  /-- Off-to-on transitions not collected yet (R365). -/
  cycles : Nat := 0
  /-- Load current, temperature and its validity. -/
  currentMa : Nat := 0
  temp : Int := 0
  tempValid : Bool := false
  /-- Off-state tests (R72, R73): blanking, own slot running, consecutive rounds above and below, terminal voltage
  code, XFEED candidate, candidates reported so far, partner. -/
  blanking : Bool := false
  slot : Bool := false
  olHigh : Nat := 0
  olLow : Nat := 0
  vterm : Int := 0
  xfeedSrc : Option Chan := none
  xfeedSeen : List Chan := []
  parWith : Option Chan := none
  /-- The Wick generator (R66 to R70): started, effective duty, on-time of the period in field-die clocks of 31.25 ns, the
  duty held in HOLD or SAFE with code HOLD, phase in force, soft-start ramp, whether it limits the duty, and its start. -/
  wickRun : Bool := false
  duty : Nat := 0
  onTicks : Nat := 0
  heldDuty : Option Nat := none
  phase : Nat := 0
  perSel : Nat := 0
  period : Nat := 0
  stretch : Nat := 0
  softOn : Bool := false
  softLim : Bool := false
  softT : Nat := 0
  softFrom : Nat := 0
  /-- The input slice (R81 to R90): comparator level, accepted comparator level, first level accepted, LEVEL, edges,
  COUNT, GAP, rising edges of the running gate, FREQ and its validity, fault band entered (0 BREAK, 3 SHORT), LEVEL before it,
  I_UA. -/
  raw : Bool := false
  acc : Bool := false
  fresh : Bool := false
  untaken : Bool := false
  level : Bool := false
  edgeCnt : BitVec 16 := 0
  count : BitVec 32 := 0
  gap : Bool := false
  gate : Nat := 0
  freq : Nat := 0
  freqOk : Bool := false
  faultBand : Option (Fin 4) := none
  preBand : Bool := false
  iUa : Nat := 0
  /-- The loop output (R95 to R111): the applied value is an alarm current; readback mean, readback conversions of the running
  ms, terminal voltage in mV; the output the thermal clamp leaves, and TCLAMP as last reported; load estimate in ohm, the
  times of R105 in ms, policy action in force and whether it is OFF, headroom exhausted. -/
  alarm : Bool := false
  rb : Nat := 0
  rbSum : Nat := 0
  rbCnt : Nat := 0
  vtermMv : Nat := 0
  clampOut : Option Rat := none
  tclamp : Bool := false
  rEst : Nat := 1275
  tComp : Nat := 0
  tRb : Nat := 0
  compOk : Nat := 0
  rbOk : Nat := 0
  policyAct : Bool := false
  policyOff : Bool := false
  exhausted : Bool := false
  deriving DecidableEq, Repr

/-- The value a cell applies at its terminal (R174): for a generator that has started, its effective duty. -/
def FCell.shown (c : FCell) : Nat := if c.wickRun then c.duty else c.heldDuty.getD c.applied

/-- The supply bands the field die distinguishes on its way down and up (R155, R156). -/
inductive VfBand | starting | belowUv | low | normal | high
  deriving DecidableEq, Repr

/-- The code of a band in SUP_STAT.BAND. -/
def VfBand.code : VfBand → Nat
  | .starting => 0 | .belowUv => 1 | .low => 2 | .normal => 3 | .high => 4

/-- The bands of an OWN_n line (R302); between bands it is treated as HIGH. -/
inductive LineBand | low | released | high | undefined
  deriving DecidableEq, Repr

/-- The line counts as HIGH: UNDEFINED is treated so (R302). -/
def LineBand.isHigh : LineBand → Bool
  | .high | .undefined => true
  | _ => false

/-- What a field die finds at its OWN_n line (R302): a holding unit the current of its sink, which shows no partner (0), a partner
(1) or a requesting partner (2); any other unit the band, both behind their filters. -/
inductive OwnSense
  | sink (k : Fin 3)
  | line (band : LineBand)
  deriving DecidableEq, Repr

/-- A Lantern rail (R100, R102): setpoint in mV (0 while disabled), measured voltage in mV, AT_MAX, DROPOUT, and the
dissipation of its output stages in mW (R103). -/
structure Rail where
  setpoint : Nat := 0
  meas : Nat := 0
  atMax : Bool := false
  dropout : Bool := false
  enabled : Bool := false
  pdiss : Nat := 0
  deriving DecidableEq, Repr

/-- What a field die holds for its bank. `copy` is its field-side copy of the bank's CELL, WICK and BANK image fields
(R40, R43), keyed by host address. -/
structure FBank where
  /-- VF_n is at or above the FBR level and the die runs (R36 rank 1, R155). -/
  running : Bool := false
  mode : Mode := .boot
  /-- Loss of the logic side (R25, R26): declared, heartbeats missed in a row, heartbeats received in a row, and whether
  the next downward frame is to carry one. -/
  lost : Bool := false
  missed : Nat := 0
  present : Nat := 0
  hbNext : Bool := true
  /-- Frames sent since the last start of the die (R25), and what its next frame has to report. -/
  frameNo : Nat := 0
  fbrReport : Bool := false
  lossReport : Bool := false
  /-- The die has acted on the POR marker (R346). -/
  porActed : Bool := false
  /-- The bank configuration is not complete (R29 configuring). -/
  configuring : Bool := true
  /-- The command words carry the VOTIVE marker (R354). -/
  votive : Bool := false
  /-- RECOVERY_TIMEOUT and PAIR_HOLD have run out since the declaration of loss (R173, R309). -/
  recoveryOver : Bool := false
  pairHoldOver : Bool := false
  /-- Supply supervision: band, VF_n in mV, VF_LOW live, UV_OFF latched, restore running, cells still to release. -/
  band : VfBand := .starting
  vfMv : Nat := 0
  vfLow : Bool := false
  uvLatched : Bool := false
  restoring : Bool := false
  restoreMet : Bool := false
  repVfLow : Nat := 0
  repUvOff : Nat := 0
  /-- Pins: limp-home, ISEL, alarm strap (R75, R78, R108). -/
  lha : Bool := false
  lhb : Bool := false
  isel : Fin 8 := 0
  alm : Fin 3 := 2
  /-- The Lantern rails A and B. -/
  rails : Vector Rail 2 := Vector.replicate 2 {}
  /-- The setpoint in mV a staged transaction has raised a rail to for its new set (R202 order 3); 0 for none. -/
  joinMv : Vector Nat 2 := Vector.replicate 2 0
  /-- The arbiter (R64) and the aggregate current of the last fuse step (R47). -/
  tbwarn : Bool := false
  tDie : Rat := 0
  aggMa : Nat := 0
  /-- The ownership interlock (R302 to R306): paired, holding, releasing with the grace running, clamp applied, line
  band, partner seen, take request in and out, take enabled, release commanded. -/
  paired : Bool := false
  holds : Bool := false
  releasing : Bool := false
  /-- The 10 us after the partner took in which the switches stay as they are (R305), and the time in 0.25 us of the last
  start of the bank's Wick period, with the period in us it has taken (R69). -/
  opening : Bool := false
  wickAt : Nat := 0
  wickPer : Nat := 0
  /-- The bank periods the die has been given, newest first, each with the time in 0.25 us it came at (R69). -/
  wickPers : List (Nat × Nat) := []
  clamp : Bool := true
  /-- The time in 0.25 us at which the release grace started (R305). -/
  graceAt : Nat := 0
  line : LineBand := .high
  partnerSeen : Bool := false
  takeReqIn : Bool := false
  takeReqOut : Bool := false
  takeEnable : Bool := false
  releaseCmd : Bool := false
  /-- The field-side copy (R43). -/
  copy : List (Nat × Word) := []
  deriving DecidableEq, Repr

/-- The bank mode a die holds after a command (R165, R168): until the device enters STARTUP, a bank in RECOVERY or VOTIVE
stays in it. -/
def FBank.modeAfter (k : FBank) (m : Mode) : Mode :=
  if m = .boot ∧ (k.mode = .recovery ∨ k.mode = .votive) then k.mode else m

/-- The fuse model of a cell at one step (R57): modelled temperature, base, ambient and neighbour term in degrees. -/
structure FuseCopy where
  tWire : Rat
  tBase : Rat
  tAmb : Rat
  tNb : Rat
  deriving DecidableEq, Repr

/-- What the logic side holds for a cell beside its registers: the causes it owns (R29), MISMATCH apart from the others
(R277), the requests the next command word carries, a COUNT clear for the one after it (R86), and the transaction step. -/
structure LCell where
  cause : LogicCause := .none
  mismatch : Bool := false
  txn : TxnStep := .none
  adopt : Bool := false
  faultClr : Bool := false
  ctrClr : Bool := false
  ctrLate : Bool := false
  /-- The cell's OUT was written by its owner since the last frame (R31, R159 STAY_OFF). -/
  wrote : Bool := false
  /-- OUT waits for the value the field die has taken at an adoption (R174). -/
  syncing : Bool := false
  /-- The fuse-step marker is due (R35), and the engine's own copy of the last fuse step (R61). -/
  marker : Bool := false
  fuse : Option FuseCopy := none
  deriving DecidableEq, Repr

/-- One command word (R18 step 5): what a downward frame carries for a cell. `held`: the value is not to be taken, because
an adoption has set it (R174). -/
structure CmdWord where
  value : Nat := 0
  held : Bool := false
  cause : LogicCause := .none
  txn : TxnStep := .none
  adopt : Bool := false
  faultClr : Bool := false
  ctrClr : Bool := false
  wrote : Bool := false
  marker : Bool := false
  deriving DecidableEq, Repr

/-- A command word repeated (R20): what it has ordered once is not ordered again. -/
def CmdWord.repeated (w : CmdWord) : CmdWord :=
  { w with adopt := false, faultClr := false, ctrClr := false, wrote := false, marker := false }

/-- What the plant gives a field die for its next upward frame: VF_n in mV, 1 ms mean, and the sensor current of each
cell in uA (R89). -/
structure FrameMeas where
  vfMv : Nat
  iUa : Vector Nat 8
  deriving DecidableEq, Repr

/-- A downward barrier frame (R24): one command word per cell, the bank's mode, the markers, and the bank
configuration held on the logic side (R43). -/
structure DownFrame where
  heartbeat : Bool
  por : Bool := false
  votive : Bool := false
  mode : Mode := .boot
  configured : Bool := false
  words : Vector CmdWord 8
  /-- none while the logic side has no configuration for the bank: in VOTIVE, and until it has read the bank's back. -/
  copy : Option (List (Nat × Word)) := none
  deriving DecidableEq, Repr

/-- An upward barrier frame (R24): what the field die reports of its bank and its eight cells. -/
structure UpFrame where
  heartbeat : Bool
  bank : FBank
  cells : Vector FCell 8
  /-- V_NEED of each cell, in mV (R99). -/
  needs : Vector Nat 8
  deriving DecidableEq, Repr

/-- What the logic side holds for a bank beside its registers. -/
structure LBank where
  /-- The bank mode commanded is RECOVERY (R165). -/
  recovery : Bool := false
  /-- The field die has reported RECOVERY since RESET_INTENT (R172). -/
  reported : Bool := false
  /-- Upward heartbeats missed in a row, whether the next upward frame is to carry one (R25), whether the die reports that
  it has declared the logic side lost (R436), and frames of the two queues (R24). -/
  missed : Nat := 0
  hbNext : Bool := true
  dieLost : Bool := false
  down : List DownFrame := []
  up : List UpFrame := []
  /-- The command words and the configuration of the last frame, for an engine that overruns (R20). -/
  last : Vector CmdWord 8 := Vector.replicate 8 {}
  lastCopy : Option (List (Nat × Word)) := none
  /-- The POR marker is still to be sent (R346). -/
  porMarker : Bool := false
  /-- The mode of a paired bank, as the holder's snapshots carry it (R315). -/
  mirrored : Option Mode := none
  /-- us since the last loss, once there was one (LINK.SINCE_LOSS counts ms). -/
  sinceLoss : Option Nat := none
  /-- Upward frames of the running 10^6, and those of them with a wrong CRC (R324). -/
  frames : Nat := 0
  frameErrs : Nat := 0
  deriving DecidableEq, Repr

/-- An image load's part of a transaction (R196): the digest it leaves in effect, and the Ring Node Table words that
differ. -/
structure LoadPart where
  digest : List Byte
  rnt : List (Nat × Word)
  deriving DecidableEq, Repr

/-- Where a transaction of a seat stands (R198, R201, R202). -/
inductive TxnPhase | checking | checkOnly | waiting | staging
  deriving DecidableEq, Repr

/-- A transaction that is being checked, waits for T0, or runs its steps (R198 to R203): the seat it is of, its records,
the load it applies, whether it was open, whether it is staged, its T0 in 0.25 us, and what its steps still have to do:
cells in HOLD, of these the ones that only move their rail, cells in CONFIG and of these the connected ones, rails
rising, rails that lose cells, rails falling, banks whose sequence records wait; whether a bank's steps were ended
(R205); its log, each entry with the time in 0.25 us its step ended, and whether entries were lost (R203). -/
structure TxnRun where
  seat : Seat
  recs : List (Nat × Word)
  load : Option LoadPart := none
  opened : Bool := true
  staged : Bool := false
  phase : TxnPhase := .checking
  t0 : Nat := 0
  holding : List Chan := []
  swap : List Chan := []
  configuring : List Chan := []
  connected : List Chan := []
  rising : List (Bank × Fin 2) := []
  losing : List (Bank × Fin 2) := []
  falling : List (Bank × Fin 2) := []
  seqBanks : List Bank := []
  aborted : Bool := false
  log : List (Nat × Word) := []
  full : Bool := false
  deriving DecidableEq, Repr

/-- The modes of a load (R193). -/
inductive LoadMode | install | apply | installApply | reconcile
  deriving DecidableEq, Repr

/-- Where a load stands (LOAD_STAT.STATE). -/
inductive LoadPhase | receiving | validating | programming | applying
  deriving DecidableEq, Repr

/-- A running load: its seat, mode, the bytes received in order, and its phase (R193, R194). -/
structure Load where
  seat : Seat
  mode : LoadMode
  bytes : List Byte := []
  phase : LoadPhase
  deriving DecidableEq, Repr

/-- A SEC command whose OTP write or key store runs (R386). -/
inductive SecRun
  | program (k : Fin 4) (hash : List Byte) (use : BitVec 3)
  | store (k : Fin 4) (key : List Byte)
  | revoke (k : Fin 4)
  | fwLevel (l : Nat)
  | fabLevel (l : Nat)
  | debugLevel (l : Nat)
  deriving DecidableEq, Repr

/-- A running NV read (R430): the seat, region, byte offset, length and mailbox offset. -/
structure NvRead where
  seat : Seat
  region : Nat
  ofs : Nat
  len : Nat
  mbOfs : Nat
  deriving DecidableEq, Repr

/-- A record of the configuration words (R426). -/
structure CwRec where
  clkMode : Nat
  xdrive : Nat
  seats : Nat
  autoLock : Nat
  deriving DecidableEq, Repr

/-- The wear of a 4 KiB sector in its place of a region (R365, R370): its erase count, whether the region goes on without it, and
the spare sector, 0 to 7, that has taken its place. -/
structure Wear where
  erases : Nat := 0
  retired : Bool := false
  spare : Option Nat := none
  deriving DecidableEq, Repr

/-- The NV offset of a sector (R430): its own place's, or that of the spare sector in its place. -/
def Wear.offset (w : Wear) (place : Nat) : Nat := match w.spare with
  | some k => 0x1F8000 + 4096 * k
  | none => place

/-- A sector of the Candle log (R368 to R370): what has been written since its last erase, and its wear. -/
structure LogSector where
  bytes : List Byte := []
  wear : Wear := {}
  deriving DecidableEq, Repr

/-- The kinds of record of the calibration and configuration words (R370). -/
inductive WordKind
  | cal (b : Bank)
  | trims (x : Seat)
  | baseline | epoch | cw
  deriving DecidableEq, Repr

/-- The bytes a record of the calibration and configuration words takes: the frame of R368 and its values (log entry 64). -/
def WordKind.size : WordKind → Nat
  | .cal _ => 52
  | .trims _ => 148
  | .baseline => 180
  | .epoch | .cw => 24

/-- A sector of the calibration and configuration words (R370): the kinds whose newest record it holds, the bytes it has
programmed since its erase, its wear. -/
structure WordSector where
  live : List WordKind := []
  used : Nat := 0
  wear : Wear := {}
  deriving DecidableEq, Repr

/-- The contents of NV memory (R430, R431): the fabric and firmware slots as far as they are programmed (empty when
erased), the OTP rows as they read, the key store, the newest valid records of the calibration and configuration words
(R370), the Candle log, and the NV epoch (R318). -/
structure Nv where
  fab : Vector (List Byte) 2 := Vector.replicate 2 []
  fw : Vector (List Byte) 2 := Vector.replicate 2 []
  hash : Vector (List Byte) 4 := Vector.replicate 4 []
  use : Vector (BitVec 3) 4 := Vector.replicate 4 0
  revoked : Vector Bool 4 := Vector.replicate 4 false
  store : Vector (List Byte) 4 := Vector.replicate 4 []
  /-- The thermometer bits that read 1 (R431). -/
  fwBits : BitVec 64 := 0
  fabBits : BitVec 64 := 0
  dbgBits : BitVec 2 := 0
  /-- Rows that fail their ECC (R432): identity, hash rows, USE rows, REVOKED rows. -/
  identBad : Bool := false
  hashBad : Vector Bool 4 := Vector.replicate 4 false
  useBad : Vector Bool 4 := Vector.replicate 4 false
  revBad : Vector Bool 4 := Vector.replicate 4 false
  /-- Stored trims (R116), calibration factors with the powered hour they were stored in (R371), configuration words. -/
  trims : Vector Word 32 := Vector.replicate 32 0
  cal : Vector (Option (List Word × Nat)) 4 := Vector.replicate 4 none
  cw : Option CwRec := some { clkMode := 0, xdrive := 1, seats := 7, autoLock := 0 }
  /-- The factory baseline: R_REF of each channel in uOhm, and P_OFFSET and P_GAIN[0] of each bank (R365, R367). -/
  rRef : Vector Nat 32 := Vector.replicate 32 75000
  calBase : Vector (Int × Int) 4 := Vector.replicate 4 (0, 0)
  log : Vector LogSector 64 := Vector.replicate 64 {}
  /-- The sectors of the calibration and configuration words with the one being written, the spare sectors left, and the erases
  of the sectors of fabric slots A and B and firmware slots A and B (R365, R370). -/
  words : Vector WordSector 16 := (Vector.replicate 16 {}).set 0 { live := [.baseline, .cw], used := 228 }
  wordSector : Nat := 0
  spares : Nat := 8
  slotErases : Vector Nat 4 := Vector.replicate 4 0
  epoch : Nat := 0
  deriving DecidableEq, Repr

/-- What Candle keeps for a channel beside its registers (R365 to R367, R378): the thermal-cycle procedure of R366 with
temperatures in 1/16 degree, half cycles per bin, energy in uJ below the next whole J, R_ON as last sampled and R_REF samples of
the running hour in uOhm, damage at the ends of past hours (newest first), the derating values last planned (R373). -/
structure CandleCh where
  seen : Bool := false
  dirUp : Bool := true
  tExt : Int := 0
  tStart : Int := 0
  half : Vector Nat 3 := Vector.replicate 3 0
  energyUj : Nat := 0
  rOn : Option Nat := none
  ronSum : Rat := 0
  ronCnt : Nat := 0
  damage : List Rat := []
  plan : Nat × Nat := (2000, 100)
  deriving DecidableEq, Repr

/-- What Candle keeps beside its registers (chapter 11). -/
structure Candle where
  /-- The channels, and the device's damage at the ends of past hours (newest first; R378). -/
  ch : Vector CandleCh 32 := Vector.replicate 32 {}
  damage : List Rat := []
  /-- The calibrations of each bank that R375 counts, newest first: offset, gain, powered second. -/
  cals : Vector (List (Int × Int × Nat)) 4 := Vector.replicate 4 []
  /-- The log: the next record's sequence number less 1 and the sector it goes to; a fold that runs, hourly or not; the hours of
  powered time folded (R367, R368). -/
  seq : Nat := 0
  sector : Nat := 0
  fold : Option Bool := none
  hours : Nat := 0
  /-- Per ring port: the hours it has been up, the hourly minimum EYE of its first 1,000 hours and then EYE_REF, the hourly mean EQ
  of its last 24 (newest first), the code-group errors since the last hourly fold (R376). -/
  portHours : Vector Nat 2 := Vector.replicate 2 0
  eyeHist : Vector (List Nat) 2 := Vector.replicate 2 []
  eyeRef : Vector (Option Nat) 2 := Vector.replicate 2 none
  eqHist : Vector (List Nat) 2 := Vector.replicate 2 []
  hourErrs : Vector Nat 2 := Vector.replicate 2 0
  /-- The calendar: its 40-bit count of seconds with what TRIM has added below the next second in 0.1 us, the time in 0.25 us of
  its last change, the SEC_HI written, and the seconds UNSYNC has stayed 0 since the last trim (R379). -/
  calSec : Nat := 0
  calPart : Nat := 0
  calAt : Nat := 0
  calHi : Nat := 0
  syncS : Nat := 0
  deriving DecidableEq, Repr

/-- What an hour's fold measures beside the accumulators (R365, R376): the drifts of the main clock and of the calendar
crystal in 0.01 ppm, and per ring port whether it was up, its minimum EYE and mean EQ. -/
structure FoldMeas where
  mainPpm : Int
  xtalPpm : Int
  up : Vector Bool 2
  eye : Vector Nat 2
  eq : Vector Nat 2
  deriving DecidableEq, Repr

/-- A primary conversion that runs (R124, R129): injected or of the sequence, its index, input, gain, sampling time
and start in 0.25 us, target unit, and what held when its sampling began: DIRTY (R137), no sense path (R122), member
of the plausibility ring (R141), check converter busy (R143). -/
structure RunConv where
  inj : Bool
  idx : Nat
  input : Nat
  gain : Nat
  ts : Nat
  start : Nat
  unit : Nat
  dirty : Bool
  skip : Bool
  pl : Bool
  ckBusy : Bool
  deriving DecidableEq, Repr

/-- A readback conversion of a loop output that has not entered its mean yet (R143): the cell's position, its start, and its
corrected reading in uA or mV. -/
structure RbConv where
  pos : Fin 8
  start : Nat
  val : Nat
  deriving DecidableEq, Repr

/-- Why a window closed (R145). -/
inductive CloseCause | window | host | reconfig | full | link | power
  deriving DecidableEq, Repr

/-- Where a calibration is (R133): none, queued behind the conversion in progress, draining the injected entries that
were pending, running. -/
inductive CalPhase | none | queued | draining | busy
  deriving DecidableEq, Repr

/-- What a field die holds for its converters (chapter 04). Times are in 0.25 us, as State.now counts. -/
structure Meas where
  /-- The sequence entries and the length in effect (R126, R127). -/
  seq : Vector Word 16 := Vector.replicate 16 0
  len : Nat := 0
  /-- A pass runs: its next entry and its start (R124, R125). -/
  passing : Bool := false
  next : Nat := 0
  passStart : Nat := 0
  cur : Option RunConv := none
  /-- Pending and held injected entries with the times of their triggers, in the order these arrived (R129, R133); entries an
event of the die will trigger, with the earliest time (R128). -/
  pending : List (Fin 8 × Nat) := []
  held : List (Fin 8 × Nat) := []
  due : List (List (Fin 8) × Nat) := []
  /-- Device time has been stepped since the last period tick (R125). -/
  stepped : Bool := false
  /-- End of the dirty window, and of the 50 us after a range or function change of a cell (R94, R123, R137). -/
  dirtyEnd : Nat := 0
  cellDirty : Vector Nat 8 := Vector.replicate 8 0
  /-- The plausibility ring (R141, R142): first entry to try, tried in this pass, consecutive results per entry. -/
  ring : Nat := 0
  tried : Bool := false
  matchRun : Vector Nat 16 := Vector.replicate 16 0
  missRun : Vector Nat 16 := Vector.replicate 16 0
  /-- End of the check converter's plausibility conversion (R117) and of its readback group, and the group's conversions
  (R143). -/
  plEnd : Nat := 0
  rbEnd : Nat := 0
  rbRun : List RbConv := []
  /-- Calibration: where it is, the start-up calibration still due (R132), the time of the last completed one (the start of
  the die where there has been none since) and of the end of the last failed one. -/
  cal : CalPhase := .none
  startDue : Bool := true
  calAt : Nat := 0
  failedAt : Option Nat := none
  /-- An FBR aborted a calibration; the next report says so (R132). -/
  abortReport : Bool := false
  deriving DecidableEq, Repr

/-- A statistics unit's open window (R144 to R146): its totals, opening time in 0.25 us, marks, the number of the last
window closed, and whether slot 1 holds the newest snapshot. -/
structure StatAcc where
  sum : Int := 0
  count : Nat := 0
  ovr : Nat := 0
  dirty : Nat := 0
  min : Int := 0
  max : Int := 0
  isOpen : Bool := false
  openedAt : Nat := 0
  cal : Bool := false
  skipped : Bool := false
  /-- After a link loss no window is open until the first sample (R151). -/
  afterLoss : Bool := false
  /-- The window has ended, with a cause and at a time, and waits for the sample whose sampling phase had ended in it (R145). -/
  closing : Option (CloseCause × Nat) := none
  /-- STAT[u].SRC has been set since the last full reset (R127). -/
  fed : Bool := false
  w : Nat := 0
  newest1 : Bool := false
  deriving DecidableEq, Repr

/-- What the plant gives a primary conversion, in nV or pA at the input (R120): what the primary converter digitises, its own
errors included, the lowest and the highest value during the sampling phase (R136), and what the check converter digitises
beside it (R141). -/
structure ConvMeas where
  level : Int
  low : Int
  high : Int
  check : Int
  deriving DecidableEq, Repr

/-- The scale of an input at gain x1 (R91, R92, R120): the LSB and the end of the nominal range in nV or pA, signed coding. -/
structure InScale where
  lsb : Nat
  top : Nat
  sgn : Bool
  deriving DecidableEq, Repr

/-- What a calibration finds (R131): offsets in 1/16 LSB, gain corrections in ppm, the difference of the references in
ppm, and the bank die temperature in 1/16 degree. -/
structure CalMeas where
  pOffset : Int
  pGain : Vector Int 5
  cOffset : Int
  cGain : Int
  refPpm : Int
  temp : Int
  deriving DecidableEq, Repr

/-- A service block or a message that waits for one (R258). -/
structure SvcMsg where
  stype : Nat := 0
  flags : Nat := 0
  addr : Nat := 0
  tag : Nat := 0
  frag : Nat := 0
  payload : List Byte := []
  deriving DecidableEq, Repr

/-- What the head writes into a sector of a CYCLE frame (R256): address, HCTL and the OUT slots. -/
structure RSector where
  addr : Nat
  hctl : Nat
  slots : List Nat
  deriving DecidableEq, Repr

/-- A frame the device originates (R254, R255): CYCLE (1) or LINK (2), whose SECTORS field counts the sectors. -/
structure RFrame where
  ftype : Nat := 1
  flags : Nat
  cycleNo : Nat
  tSof : Nat
  claim : Nat
  cycleT : Nat
  loopNs : Nat
  sectors : List RSector
  svc : SvcMsg
  deriving DecidableEq, Repr

/-- A command channel's running command (R292): its bytes, how many are sent, and the cycles it has taken. -/
structure RCmd where
  tag : Nat
  node : Nat
  req : List Byte
  sent : Nat := 0
  cycles : Nat := 0
  deriving DecidableEq, Repr

/-- A returned sector (R256) as it comes, and the WRAPPED flag of its frame. -/
structure SectorCopy where
  bytes : List Byte
  wrapped : Bool
  deriving DecidableEq, Repr

/-- What has returned of a sector when the head comes to publish it (R281): the copy sent from port B, and the one sent from
port A. -/
structure SectorIn where
  primary : Option SectorCopy
  second : Option SectorCopy
  deriving DecidableEq, Repr

/-- A frame as a member meets it (R253 to R258): the port it arrives at, its bytes between SOF and EOF, and the arrival of its
SOF in ns after the last fabric-cycle boundary. -/
structure NodeFrame where
  port : Port
  bytes : List Byte
  arrNs : Fin 10000
  deriving DecidableEq, Repr

/-- What a port has found since the last report of it (R250): the port, and the code-group errors. -/
structure PortErrs where
  p : Port
  errs : BitVec 32
  deriving DecidableEq, Repr

/-- Sector 0 of a node as published (R256, R262, R268): the device time, the input slots, the attention codes of the 32
points, and whether an input is STALE. -/
structure Pub where
  t : Nat
  ins : List Nat
  att : List Nat
  stale : Bool
  deriving DecidableEq, Repr

/-- What the ring functions hold beside their registers (chapter 08). -/
structure RingSt where
  /-- The Fawn bypass is open; a step of device time waits for the boundary, with whether it sets the time; the cycle from
  which turning ends (R251, R283, R286). -/
  bypassOpen : Bool := false
  step : Option (Bool × Int) := none
  unwrapAt : Option Nat := none
  /-- The head: cycles run, the number of the next, 4 T_c of the last in ns, CYCLE_T in force, table writes that wait for T_c
  (R260, R266). -/
  started : Bool := false
  cyc : Nat := 0
  tc4 : Nat := 0
  cycT : Nat := 0
  pend : List (Nat × Word) := []
  /-- The last frames sent from port B and from port A; sectors still out, those of which one copy has come back in vain, any
  late; DUAL sets with the next cycle (R260, R263, R281). -/
  sent : Option RFrame := none
  sentA : Option RFrame := none
  out : List Nat := []
  tried : List Nat := []
  short : Bool := false
  dualDue : Bool := false
  /-- Entries whose OUT words their owner has written (R257); OUT words written lately: address, word and validity before,
  device time of the acceptance in ns (R261). -/
  outValid : List Nat := []
  outNew : List (Nat × Word × Bool × Nat) := []
  /-- Messages to send, entries to ask for their identity, judged entries with their mismatch and whether it is their first
  admission, entries admitted in mismatch, missed cycles per entry, cycles unreached by both copies (R270, R273, R274, R284). -/
  msgs : List SvcMsg := []
  identReq : List Nat := []
  judged : List (Nat × Bool × Bool) := []
  mism : List Nat := []
  missed : List (Nat × Nat) := []
  unreached : List (Nat × Nat) := []
  /-- Cycles since an EMPTY block, the seat served last, the commands, the last tag, a member has reported turning (R259,
  R283, R292). -/
  sinceEmpty : Nat := 0
  rr : Nat := 3
  cmds : Vector (Option RCmd) 4 := Vector.replicate 4 none
  tag : Nat := 0
  wrapSeen : Bool := false
  /-- A node: JOIN sent, rejected (R270). -/
  joinSent : Bool := false
  rejected : Bool := false
  /-- The cycle of the last CYCLE frame met, the one the JOIN went out in, the time of the last processed SOF (R270, R288). -/
  seenCyc : Nat := 0
  joinCyc : Nat := 0
  sofAt : Nat := 0
  /-- Upstream messages, the block it sent on, OUT values accepted with 4 T_{c+1} in ns, the last cycle processed and accepted
  (R259, R262, R271). -/
  upQ : List SvcMsg := []
  svcOut : SvcMsg := {}
  accepted : List (Nat × List Nat) := []
  lastCyc : Option Nat := none
  lastAcc : Option Nat := none
  /-- The last SOF of a CYCLE frame at port A, with the cycle, its device time, LOOP_NS and DUAL, and of a LINK frame at port B;
  LOOP_NS - 320 + t - s and LOOP_NS - 320 of the last 64 cycles that had both; the frequency correction in ppb (R249, R287). -/
  cycAt : Option (Nat × Nat × Nat × Bool) := none
  linkAt : Option (Nat × Nat) := none
  delays : List (Int × Int) := []
  ppb : Int := 0
  /-- The command being reassembled and the complete one, the identity last reported, NSW and slots of the last returned
  sector, publications of sector 0 (newest first), the frame last sent on with its port, and that adoption is due (R262,
  R276, R280, R293). -/
  rx : Option (Nat × Nat × List Byte) := none
  cmdReady : Option (Nat × List Byte) := none
  reported : Option (List Byte × Nat × Nat × Nat) := none
  nsw : Nat := 0
  inSlots : List Nat := []
  pubs : List Pub := []
  fwd : Option (Port × List Byte) := none
  adoptDue : Bool := true
  /-- A standby head: the frame of the active it has seen last: cycle, T_SOF, and CTL of its sectors (R296). -/
  seen : Option (Nat × Nat × List (Nat × Nat)) := none
  deriving DecidableEq, Repr

/-- A HEARTBEAT of the pair partner (R312). -/
structure PairHb where
  hbNo : BitVec 32
  role : BitVec 2
  prio : BitVec 3
  logicOk : Bool
  ready : Bool
  digestMatch : Bool
  fwMatch : Bool
  claim : BitVec 32
  own : BitVec 32
  snapSeq : BitVec 32
  uv : BitVec 4
  up : BitVec 4
  tSof : BitVec 64
  echo : BitVec 64
  deriving DecidableEq, Repr

/-- The CONTROL frames of the pair link (R314, R323). -/
inductive PairCtl
  | baselineReq | handoverReq
  | handoverReady (seq : Nat)
  | handoverGo (b : Nat)
  | handoverEnd
  deriving DecidableEq, Repr

/-- How the partner let a line go that this unit takes (table CAUSE of PAIR.TAKEOVER_INFO). -/
inductive Release | request | holdEnd | unpowered | uv
  deriving DecidableEq, Repr

/-- A snapshot that arrives at the standby (R315, R316): what its OPEN says, the bytes from OPEN on, its data records as
RTYPE and payload, and whether it holds a record that makes it torn. -/
structure Snap where
  seq : Nat
  base : Nat
  taken : Nat
  digest : List Byte
  bytes : List Byte
  recs : List (Nat × List Byte) := []
  bad : Bool := false
  deriving DecidableEq, Repr

/-- What the pair functions hold beside their registers (chapter 09). -/
structure PairSt where
  /-- The link: locked, heartbeats arrive, a loss has been declared, the last heartbeat received, HB_NO of the next and the
  last one sent as a frame, the last Beacon sent, T_SOF of the partner's last one with its EOF in ns of device time, CRC errors and
  late heartbeats since the last Beacon, frames received of the running 10^6 and those with a wrong CRC, the last CONTROL frame sent
  (R310 to R312, R324). -/
  lock : Bool := false
  alive : Bool := false
  lost : Bool := false
  hb : Option PairHb := none
  hbNo : Nat := 0
  hbSent : List Byte := []
  beaconSent : List Byte := []
  echo : Option (Nat × Nat) := none
  crcSince : Nat := 0
  rxFrames : Nat := 0
  rxErrs : Nat := 0
  lateSince : Nat := 0
  ctl : Option PairCtl := none
  /-- The partner's digest and firmware major version, and the time since which it has reported READY (R299, R321). -/
  partnerDigest : Option (List Byte) := none
  partnerFw : Option Nat := none
  readyAt : Option Nat := none
  /-- The sender of snapshots: records and remote sectors of the last one, a baseline is due, the frames of the last one sent, and the last
  SEQ closed by a holder that is no active (R314). -/
  prevRecs : List (Nat × List Byte) := []
  prevOut : List (Nat × Bool × List Nat) := []
  wantBase : Bool := true
  snapSent : List (List Byte) := []
  closed : Nat := 0
  /-- The receiver: applied SEQ, a snapshot has been missed since, the open shadow, the checked one, T_TAKEN of the mirror, the
  RING record (R316, R317). -/
  applied : Option Nat := none
  gap : Bool := false
  shadow : Option Snap := none
  checked : Option Snap := none
  taken : Option Nat := none
  ringNext : Option (Nat × Nat × Nat) := none
  /-- Per bank: TAKE_ENABLE and TAKE_REQ_OUT as commanded, a cold take that the partner has still to confirm with its time,
  one that failed, the last comparison of OWN_n failed (R308). -/
  enable : Vector Bool 4 := Vector.replicate 4 false
  req : Vector Bool 4 := Vector.replicate 4 false
  cold : Vector Bool 4 := Vector.replicate 4 false
  coldAt : Vector Nat 4 := Vector.replicate 4 0
  coldFault : Vector Bool 4 := Vector.replicate 4 false
  cmpFault : Vector Bool 4 := Vector.replicate 4 false
  /-- A planned handover (R323): the time of HANDOVER_REQ at the standby and of the trigger at the active, the boundary B in ns
  that the standby has received and that the active has sent, B passed, and a handover of a divided pair. -/
  frozen : Option Nat := none
  reqAt : Nat := 0
  goAt : Option Nat := none
  bAt : Nat := 0
  passed : Bool := false
  merging : Bool := false
  /-- Class B lost (R320), the highest epoch seen on the ring since the full reset (R318). -/
  demoted : Bool := false
  ringEpoch : Option Nat := none
  /-- Self-test failures and rounds, BSEQ (R324, R325), and the fabric cycle of the last take. -/
  testFail : BitVec 7 := 0
  rounds : Nat := 0
  bseq : Nat := 0
  takeCycle : Option Nat := none
  deriving DecidableEq, Repr

/-- A chain that runs on a DMA channel (R236 to R240): the descriptor in progress with its fields, whether its words have
been read and found good, bytes done, attempts under GEN_CHECK with the generation word read before the first beat, whether
the destination generation word has been made odd, and the process-image words held until the last beat. -/
structure DmaRun where
  desc : Nat
  src : Nat := 0
  dst : Nat := 0
  len : Nat := 0
  ctrl : BitVec 6 := 0
  next : Nat := 0
  srcGen : Nat := 0
  dstGen : Nat := 0
  done : Nat := 0
  attempts : Nat := 0
  before : Option Word := none
  opened : Bool := false
  held : List (Nat × Word) := []
  deriving DecidableEq, Repr

/-- The DMA controller (R235 to R241): the chains that run; per priority the channel served last and the beats it has had in
a row; words for remote sectors that wait for the boundary, and those accepted less than 2 us before one (R237); an engine
whose beat has met its MPU, with the address, until MARKHOR acts on it (R243). -/
structure DmaSt where
  run : Vector (Option DmaRun) 16 := Vector.replicate 16 none
  turn : Vector (Nat × Nat) 8 := Vector.replicate 8 (15, 16)
  pi : List (Nat × Word) := []
  piLate : List (Nat × Word) := []
  mpuHit : Option (Fin 11 × Nat) := none
  deriving DecidableEq, Repr

/-- What the plant gives a fuse step: the mean of i^2 over the step for every channel in mA^2 (R58), the cell
temperatures in 1/16 degree (R45), the bank die temperatures in 1/16 degree, the aggregate currents in mA (R47), the
cells whose fuse step did not complete because their engine overran (R20); what each field die has kept of a channel since its
last collection (R365): the sum of i^2 over its 50 us steps in mA^2, the demagnetisation energy in uJ, the temperature extremes
in the order they came in; and VF_n less the terminal voltage in uV (R367). -/
structure FuseMeas where
  i2 : Vector Nat 32
  temp : Vector Int 32
  die : Vector Int 4
  agg : Vector Nat 4
  incomplete : List Chan
  i2Sum : Vector Nat 32
  demagUj : Vector Nat 32
  extremes : Vector (List Int) 32
  dropUv : Vector Nat 32
  deriving DecidableEq, Repr

/-- A load current that meets the limit of a switch (R51): the channel, and the current in mA in either direction. -/
structure LimitMeas where
  n : Chan
  ma : Nat
  deriving DecidableEq, Repr

/-- What the plant gives the 1 ms check of a loop output: load current in uA and terminal voltage in mV (1 ms means),
and whether an AO_V output is in its current limit. -/
structure RbMeas where
  loadUa : Nat
  vtermMv : Nat
  inLimit : Bool
  deriving DecidableEq, Repr

/-- The 1 ms readback of a bank: its cells, and the measured voltages of its two rails in mV. -/
structure BankRb where
  cells : Vector RbMeas 8
  railMv : Vector Nat 2
  deriving DecidableEq, Repr

/-- The JTAG instructions of the boundary scan (R388, R417). -/
inductive ScanInstr | bypass | idcode | sample | extest
  deriving DecidableEq, Repr

/-- What the JTAG port holds for the boundary scan (R416, R417): the instruction in force, what the last scan shifted out, and
the levels last shifted into the boundary-scan register. -/
structure Scan where
  instr : ScanInstr := .idcode
  out : BitVec 32 := 0
  latch : BitVec 24 := 0
  deriving DecidableEq, Repr

/-- Who writes a watchdog key (R335): a seat, or MARKHOR, and whether every running engine has then reported progress within 1 ms. -/
inductive WdgAgent
  | seat (x : Seat)
  | markhor (progress : Bool)
  deriving DecidableEq, Repr

/-- The groups of engine-private registers, and how many each holds (R434). -/
inductive PrivGroup | fieldWords | linkQueues | ibexLocal | oryxPhy | markhor
  deriving DecidableEq, Repr

def PrivGroup.count : PrivGroup → Nat
  | .fieldWords => 1536
  | .linkQueues => 256
  | .ibexLocal => 768
  | .oryxPhy => 320
  | .markhor => 104

/-- What a debugger does through JTAG (R388): an access to a register, or to an engine-private one (R434); a scan under an instruction, with the levels at the
lands of the boundary-scan register and the levels shifted in; or the TAP's Test-Logic-Reset (R416). -/
inductive JtagAccess
  | reg (a : Word)
  | priv (g : PrivGroup) (i : Nat)
  | scan (i : ScanInstr) (pins : BitVec 24) (shift : BitVec 24)
  | tapReset
  deriving DecidableEq, Repr

/-- The level of an event pin (R233, R234). -/
inductive PinLevel | low | high | highZ
  deriving DecidableEq, Repr

/-- The wake sources of R362; the code is the bit of PWR_STAT.WAKE_SRC. -/
inductive WakeSrc
  | watchdog | spi | mgmt
  | cell (n : Chan)
  | link | band
  deriving DecidableEq, Repr

/-- The seat of a DMA channel: channels 8 + 2s and 9 + 2s are seat s's, channels 0 to 7 the engines' (R235). -/
def seatOfCh (c : DmaCh) : Option Seat := if 8 ≤ c.val then some (Fin.ofNat 4 ((c.val - 8) / 2)) else none

/-- Who starts a DMA channel (R235): a seat, or vendor firmware with the words of CTRL and DESC. -/
inductive DmaBy
  | seat (x : Seat)
  | firmware (ctrl : BitVec 16) (desc : Word)
  deriving DecidableEq, Repr

end Sys2Proof.Machine
end

