-- ==== Sys2Proof/Syntax.lean ====
section
/-!
DEFINITION. The commands and events of the LJ3240: one constructor for each row of the spec's table, with what the command
carries or the event finds. q is the offset of an event in its fabric cycle, in 0.25 us.
-/

namespace Sys2Proof

open Sys2Proof.Machine

/-- A command or event (opcode_table.json), each cited with its rule. -/
inductive Instr
  /-- HOST_FRAME (R215): the bytes of the frame as they arrive. -/
  | hostFrame (x : Seat) (bytes : List Byte) (q : Fin 40)
  /-- FRAME_ABORT (R214). -/
  | frameAbort (x : Seat)
  /-- REGISTER_WRITE (R216): an address and a word. -/
  | registerWrite (x : Seat) (a : Word) (w : Word) (q : Fin 40)
  /-- FABRIC_CYCLE_BOUNDARY (R18): the engines that have overrun, and what the clock monitor finds. -/
  | fabricCycleBoundary (ovrn : BitVec 8) (xtalOk : Bool) (dev : BitVec 8)
  /-- FUSE_STEP (R57): what the field dies measured over the step. -/
  | fuseStep (m : FuseMeas)
  /-- DOWNWARD_FRAME_RECEIVED (R25). -/
  | downwardFrameReceived (b : Bank) (crcOk : Bool)
  /-- UPWARD_FRAME (R24). -/
  | upwardFrame (b : Bank) (m : FrameMeas)
  /-- UPWARD_FRAME_RECEIVED (R24). -/
  | upwardFrameReceived (b : Bank) (crcOk : Bool)
  /-- LOGIC_SIDE_LOSS (R26). -/
  | logicSideLoss (b : Bank)
  /-- FIELD_DIE_LOSS (R26). -/
  | fieldDieLoss (b : Bank)
  /-- LOGIC_SIDE_RETURN (R436). -/
  | logicSideReturn (b : Bank)
  /-- FUSE_STALL (R35). -/
  | fuseStall (n : Chan)
  /-- HOLD_CURRENT_TRIP (R34): the mirrored load current in mA. -/
  | holdCurrentTrip (n : Chan) (ma : Nat)
  /-- CELL_OUT_WRITE (R33). -/
  | cellOutWrite (x : Seat) (n : Chan) (v : BitVec 16) (q : Fin 40)
  /-- CELL_ADOPT (R174). -/
  | cellAdopt (x : Seat) (n : Chan) (token : BitVec 16) (q : Fin 40)
  /-- FAULT_CLR (R31). -/
  | faultClr (x : Seat) (n : Chan) (q : Fin 40)
  /-- SEAT_TIMEOUT (R170). -/
  | seatTimeout (x : Seat)
  /-- RECOVERY_TIMEOUT_END (R173). -/
  | recoveryTimeoutEnd (b : Bank)
  /-- PAIR_HOLD_END (R309). -/
  | pairHoldEnd (b : Bank)
  /-- ILIM_ENTRY (R51): the channel and its load current. -/
  | ilimEntry (m : LimitMeas)
  /-- ILIM_EXIT (R51). -/
  | ilimExit (n : Chan)
  /-- LIMIT_TIMEOUT (R51). -/
  | limitTimeout (n : Chan)
  /-- TSD_TRIP (R52). -/
  | tsdTrip (n : Chan)
  /-- TSD_OFF_HOLD (R52). -/
  | tsdOffHold (n : Chan)
  /-- TSD_RELEASE (R52). -/
  | tsdRelease (n : Chan)
  /-- RESTART_WAIT_END (R51). -/
  | restartWaitEnd (n : Chan)
  /-- RETRY_COUNT_RESET (R51). -/
  | retryCountReset (n : Chan)
  /-- TWARN (R53). -/
  | twarn (n : Chan)
  /-- INRUSH_WINDOW_END (R62). -/
  | inrushWindowEnd (n : Chan)
  /-- ARBITER_TBWARN (R64). -/
  | arbiterTbwarn (b : Bank)
  /-- ARBITER_COOLED (R64). -/
  | arbiterCooled (b : Bank)
  /-- PHASE_POINT_TURN_ON (R63). -/
  | phasePointTurnOn (n : Chan)
  /-- WICK_PERIOD_START (R69). -/
  | wickPeriodStart (n : Chan)
  /-- WICK_EDGE (R68). -/
  | wickEdge (n : Chan) (rising : Bool)
  /-- BLANKING_END (R72). -/
  | blankingEnd (n : Chan)
  /-- OFF_STATE_SLOT (R72): whether the slot starts or ends, and the terminal voltage code. -/
  | offStateSlot (n : Chan) (starts : Bool) (vterm : Int)
  /-- OFF_STATE_FLAG_TIMER (R73): whether the terminal was high or low, the cells whose terminals match, and the terminal voltage code. -/
  | offStateFlagTimer (n : Chan) (high : Bool) (near : List Chan) (vterm : Int)
  /-- OPEN_LOAD_ON_TIMER (R74): the mean current in mA. -/
  | openLoadOnTimer (n : Chan) (ma : Nat)
  /-- LIMP_PIN_EDGE (R77). -/
  | limpPinEdge (b : Bank) (pin : Fin 2) (level : Bool)
  /-- ISEL_CHANGE (R75). -/
  | iselChange (b : Bank) (k : Fin 8)
  /-- COMPARATOR_CHANGE (R81). -/
  | comparatorChange (n : Chan) (level : Bool)
  /-- DEBOUNCE_ACCEPT (R82). -/
  | debounceAccept (n : Chan)
  /-- WIRE_BREAK_TIMER (R83). -/
  | wireBreakTimer (n : Chan) (below : Bool)
  /-- COUNTER_CLEAR (R86). -/
  | counterClear (x : Seat) (n : Chan) (q : Fin 40)
  /-- FREQ_GATE_END (R87). -/
  | freqGateEnd (n : Chan)
  /-- NAMUR_BAND_TIMER (R90): none: out of both fault bands; else whether it is SHORT. -/
  | namurBandTimer (n : Chan) (band : Option Bool)
  /-- READBACK_CHECK (R105). -/
  | readbackCheck (b : Bank) (m : BankRb)
  /-- RAIL_SETPOINT_FALL (R100). -/
  | railSetpointFall (b : Bank) (r : Fin 2)
  /-- RAIL_DROPOUT (R102). -/
  | railDropout (b : Bank) (r : Fin 2)
  /-- ALARM_STRAP_CHANGE (R108). -/
  | alarmStrapChange (b : Bank) (r : Fin 3)
  /-- THERMAL_CLAMP_STEP (R111): the cell temperature in 1/16 degree. -/
  | thermalClampStep (n : Chan) (temp : Int)
  /-- TRIM_PRESS (R113): button Z (0) or S (1). -/
  | trimPress (p : Fin 2)
  /-- TRIM_REPEAT (R113): button Z (0) or S (1). -/
  | trimRepeat (p : Fin 2)
  /-- TRIM_SEL_WRITE (R114). -/
  | trimSelWrite (x : Seat) (w : Word) (q : Fin 40)
  /-- TRIM_STORE (R116). -/
  | trimStore (x : Seat) (key : BitVec 16) (q : Fin 40)
  /-- TRIM_STORE_DONE (R116): 0, or the NV error code. -/
  | trimStoreDone (err : BitVec 4)
  /-- SEQUENCE_PASS_START (R125). -/
  | sequencePassStart (b : Bank) (q : Fin 40)
  /-- CONVERSION_END (R144). -/
  | conversionEnd (b : Bank) (m : ConvMeas)
  /-- TIME_WINDOW_CLOSE (R145). -/
  | timeWindowClose (u : Unit96)
  /-- STAT_CLOSE (R145). -/
  | statClose (x : Seat) (u : Unit96) (q : Fin 40)
  /-- DIRTY_WINDOW_END (R137). -/
  | dirtyWindowEnd (b : Bank)
  /-- INJ_TRIGGER (R129). -/
  | injTrigger (b : Bank) (k : Fin 8) (q : Fin 40)
  /-- INJ_TRIG_WRITE (R152). -/
  | injTrigWrite (x : Seat) (b : Bank) (mask : BitVec 8) (q : Fin 40)
  /-- INJ_TIMER_TICK (R128). -/
  | injTimerTick (b : Bank) (q : Fin 40)
  /-- CAL_START (R132). -/
  | calStart (x : Seat) (b : Bank) (q : Fin 40)
  /-- CAL_AUTO_CHECK (R132): the bank die temperature in 1/16 degree. -/
  | calAutoCheck (b : Bank) (temp : Int)
  /-- CAL_BEGIN (R133). -/
  | calBegin (b : Bank)
  /-- CAL_END (R131). -/
  | calEnd (b : Bank) (m : CalMeas) (q : Fin 40)
  /-- READBACK_GROUP (R143). -/
  | readbackGroup (b : Bank) (rb : Vector Nat 8) (q : Fin 40)
  /-- VF_LOW_SET (R155): VF_n in mV. -/
  | vfLowSet (b : Bank) (mv : Nat)
  /-- VF_LOW_CLEAR (R155): VF_n in mV. -/
  | vfLowClear (b : Bank) (mv : Nat)
  /-- UV_OFF_TRIP (R158): VF_n in mV. -/
  | uvOffTrip (b : Bank) (mv : Nat)
  /-- RESTORE_START (R159): VF_n in mV. -/
  | restoreStart (b : Bank) (mv : Nat)
  /-- STAGGER_RELEASE (R160). -/
  | staggerRelease (b : Bank)
  /-- FIELD_BANK_RESET (R162). -/
  | fieldBankReset (b : Bank)
  /-- FIELD_DIE_RELEASE (R155): VF_n in mV. -/
  | fieldDieRelease (b : Bank) (mv : Nat)
  /-- MODE_CMD_RUN (R165). -/
  | modeCmdRun (x : Seat) (q : Fin 40)
  /-- MODE_CMD_TEST (R165). -/
  | modeCmdTest (x : Seat) (q : Fin 40)
  /-- RESET_INTENT (R172). -/
  | resetIntent (x : Seat) (key : BitVec 16) (q : Fin 40)
  /-- REC_REQ (R165). -/
  | recReq (x : Seat) (b : Bank) (q : Fin 40)
  /-- REC_END (R165). -/
  | recEnd (x : Seat) (b : Bank) (q : Fin 40)
  /-- LOAD_START_INSTALL (R193). -/
  | loadStartInstall (x : Seat) (q : Fin 40)
  /-- LOAD_START_APPLY (R193). -/
  | loadStartApply (x : Seat) (q : Fin 40)
  /-- LOAD_START_INSTALL_APPLY (R193). -/
  | loadStartInstallApply (x : Seat) (q : Fin 40)
  /-- LOAD_START_RECONCILE (R193). -/
  | loadStartReconcile (x : Seat) (q : Fin 40)
  /-- LOAD_DATA (R194). -/
  | loadData (x : Seat) (w : Word) (q : Fin 40)
  /-- LOAD_END (R194). -/
  | loadEnd (x : Seat) (q : Fin 40)
  /-- LOAD_CANCEL (R194). -/
  | loadCancel (x : Seat) (q : Fin 40)
  /-- VALIDATION_DONE (R187). -/
  | validationDone
  /-- INSTALL_DONE (R192): 0, or the NV error code. -/
  | installDone (err : BitVec 4)
  /-- TXN_OPEN (R197). -/
  | txnOpen (x : Seat) (q : Fin 40)
  /-- TXN_COMMIT (R198). -/
  | txnCommit (x : Seat) (q : Fin 40)
  /-- TXN_CHECK (R198). -/
  | txnCheck (x : Seat) (q : Fin 40)
  /-- TXN_ABORT (R198). -/
  | txnAbort (x : Seat) (q : Fin 40)
  /-- TXN_CHECK_DONE (R201): the transaction of seat 0 to 3, or a load (4). -/
  | txnCheckDone (t : Fin 5)
  /-- TXN_T0 (R202). -/
  | txnT0 (t : Fin 5)
  /-- TXN_RAIL_UP_END (R202). -/
  | txnRailUpEnd (t : Fin 5) (b : Bank) (r : Fin 2) (q : Fin 40)
  /-- TXN_RAIL_UP_TIMEOUT (R202). -/
  | txnRailUpTimeout (t : Fin 5) (b : Bank) (r : Fin 2)
  /-- TXN_RAIL_SWAP (R202). -/
  | txnRailSwap (t : Fin 5) (b : Bank)
  /-- TXN_CONNECT (R202). -/
  | txnConnect (t : Fin 5) (n : Chan) (q : Fin 40)
  /-- TXN_RELEASE (R202). -/
  | txnRelease (t : Fin 5)
  /-- TXN_SEQ (R202). -/
  | txnSeq (t : Fin 5) (b : Bank) (q : Fin 40)
  /-- TXN_RAIL_DOWN (R202). -/
  | txnRailDown (t : Fin 5) (b : Bank) (r : Fin 2) (q : Fin 40)
  /-- FAULT_ECC_CLEAR (R234). -/
  | faultEccClear (x : Seat) (q : Fin 40)
  /-- ECC_UNCORRECTABLE (R234): whether it is in MARKHOR's own memory. -/
  | eccUncorrectable (markhor : Bool)
  /-- DMA_START (R241): by a seat, or by vendor firmware. -/
  | dmaStart (x : DmaBy) (c : DmaCh) (q : Fin 40)
  /-- DMA_STOP (R240): by a seat, or by vendor firmware (none). -/
  | dmaStop (x : Option Seat) (c : DmaCh) (q : Fin 40)
  /-- DMA_TRIGGER (R241). -/
  | dmaTrigger (c : DmaCh)
  /-- DMA_BEAT (R238): whether the beat meets an uncorrectable ECC error. -/
  | dmaBeat (ecc : Bool) (q : Fin 40)
  /-- DMA_DESCRIPTOR_END (R239). -/
  | dmaDescriptorEnd (c : DmaCh) (q : Fin 40)
  /-- MPU_FAULT (R243). -/
  | mpuFault (e : Fin 11) (kind : BitVec 2) (priv : Bool) (addr : Word)
  /-- LOCKSTEP_DISAGREE (R342). -/
  | lockstepDisagree
  /-- CYCLE_START (R260): the loop time in ns. -/
  | cycleStart (loopNs : BitVec 32)
  /-- NODE_SECTOR_PROCESS (R262). -/
  | nodeSectorProcess (f : NodeFrame)
  /-- NODE_OUT_APPLY (R275). -/
  | nodeOutApply
  /-- SECTOR_PUBLISH (R263). -/
  | sectorPublish (k : Fin 2048) (sec : SectorIn)
  /-- SECTOR_LATE (R263). -/
  | sectorLate (k : Fin 2048)
  /-- PORT_LOCK (R250): how far the equaliser has come from where it started, the eye, the polarity. -/
  | portLock (p : Port) (adapt : Int) (eye : BitVec 8) (inv : Bool)
  /-- PORT_DOWN (R250). -/
  | portDown (e : PortErrs)
  /-- PORT_REDRIVE (R250). -/
  | portRedrive (p : Port)
  /-- UNWRAP_FORWARD (R283). -/
  | unwrapForward
  /-- BYPASS_OPEN (R251). -/
  | bypassOpen
  /-- JOIN_SEND (R270). -/
  | joinSend
  /-- JOIN_RETRY (R270). -/
  | joinRetry
  /-- JOIN_ANSWER (R270). -/
  | joinAnswer (uid : BitVec 64)
  /-- ASSIGN_RECEIVED (R270). -/
  | assignReceived (uid : BitVec 64) (addr : BitVec 16)
  /-- REJECT_RECEIVED (R270). -/
  | rejectReceived (uid : BitVec 64)
  /-- REJECT_RETRY (R270). -/
  | rejectRetry
  /-- LEAVE_RECEIVED (R270). -/
  | leaveReceived
  /-- NODE_TABLE_WRITE (R266): entry k, word j. -/
  | nodeTableWrite (x : Seat) (k : Fin 2048) (j : Fin 8) (w : Word) (q : Fin 40)
  /-- HOLDOVER_UNSYNC (R288). -/
  | holdoverUnsync
  /-- TIME_SET (R286). -/
  | timeSet (x : Seat) (lo : Word) (q : Fin 40)
  /-- SCHED_ARM (R291). -/
  | schedArm (x : Seat) (k : Fin 8) (n : Chan) (q : Fin 40)
  /-- SCHED_CANCEL (R291). -/
  | schedCancel (x : Seat) (k : Fin 8) (q : Fin 40)
  /-- SCHED_APPLY (R291). -/
  | schedApply (k : Fin 8)
  /-- CMD_START (R292). -/
  | cmdStart (x : Seat) (q : Fin 40)
  /-- CMD_ABORT (R292). -/
  | cmdAbort (x : Seat) (q : Fin 40)
  /-- CMD_TIMEOUT (R292). -/
  | cmdTimeout (x : Seat)
  /-- CMD_DONE (R292): the RSP fragments as they came. -/
  | cmdDone (x : Seat) (frags : List SvcMsg)
  /-- NODE_CMD_RUN (R293). -/
  | nodeCmdRun (q : Fin 40)
  /-- CLAIM_CLEAR (R279). -/
  | claimClear (x : Seat) (key : BitVec 16) (q : Fin 40)
  /-- OWN_RELEASE (R305). -/
  | ownRelease (b : Bank) (takeReq : Bool)
  /-- OWN_TAKE (R305). -/
  | ownTake (b : Bank) (how : Release) (q : Fin 40)
  /-- PARTNER_TAKEN (R305). -/
  | partnerTaken (b : Bank)
  /-- OUTGOING_SWITCH_OPEN (R305). -/
  | outgoingSwitchOpen (b : Bank)
  /-- GRACE_END (R305). -/
  | graceEnd (b : Bank)
  /-- CLAMP_REMOVE (R305). -/
  | clampRemove (b : Bank)
  /-- COLD_TAKE (R308). -/
  | coldTake (b : Bank) (q : Fin 40)
  /-- COLD_TAKE_TIMEOUT (R308). -/
  | coldTakeTimeout (b : Bank)
  /-- PAIR_HEARTBEAT_SEND (R312). -/
  | pairHeartbeatSend (ns : Fin 10000)
  /-- PAIR_HEARTBEAT_RECEIVED (R312). -/
  | pairHeartbeatReceived (codesOk : Bool) (f : List Byte) (ns : Fin 10000) (late : Bool)
  /-- PAIR_HEARTBEAT_LOST (R316). -/
  | pairHeartbeatLost
  /-- PAIR_LINK_DOWN (R310). -/
  | pairLinkDown
  /-- SNAPSHOT_CLOSE (R314). -/
  | snapshotClose
  /-- SNAP_RECORD_RECEIVED (R316). -/
  | snapRecordReceived (codesOk : Bool) (f : List Byte)
  /-- SNAPSHOT_APPLY (R316). -/
  | snapshotApply
  /-- BASELINE_REQ (R314). -/
  | baselineReq
  /-- HANDOVER_START (R323). -/
  | handoverStart (x : Seat) (key : BitVec 16) (q : Fin 40)
  /-- HANDOVER_READY (R323). -/
  | handoverReady (seq : BitVec 32)
  /-- HANDOVER_BOUNDARY (R323). -/
  | handoverBoundary
  /-- HANDOVER_END (R323). -/
  | handoverEnd
  /-- HANDOVER_TIMEOUT (R323). -/
  | handoverTimeout
  /-- AUTO_MERGE (R321). -/
  | autoMerge
  /-- BEACON_SEND (R325). -/
  | beaconSend (ns : Fin 10000)
  /-- BEACON_RECEIVED (R325). -/
  | beaconReceived (codesOk : Bool) (f : List Byte)
  /-- SELF_TEST (R324). -/
  | selfTest (ran : BitVec 7) (fail : BitVec 7)
  /-- CRYSTAL_STOPPED (R331). -/
  | crystalStopped
  /-- CRYSTAL_OFF_FREQUENCY (R331). -/
  | crystalOffFrequency
  /-- MAIN_CLOCK_STOPPED (R331). -/
  | mainClockStopped
  /-- PLL_UNLOCK (R331). -/
  | pllUnlock
  /-- MONITOR_RC_STOPPED (R331). -/
  | monitorRcStopped
  /-- CLOCK_RESTORE (R332). -/
  | clockRestore (x : Seat) (q : Fin 40)
  /-- CLOCK_RESTORE_SWITCH (R332). -/
  | clockRestoreSwitch
  /-- XTAL_SWITCH (R328). -/
  | xtalSwitch
  /-- WDG_KEY_A (R337): seat 0 to 3, or MARKHOR (4). -/
  | wdgKeyA (agent : WdgAgent) (key : BitVec 16) (q : Fin 40)
  /-- WDG_KEY_B (R337). -/
  | wdgKeyB (agent : WdgAgent) (key : BitVec 16) (q : Fin 40)
  /-- WDG_WINDOW_OPEN (R334). -/
  | wdgWindowOpen
  /-- WDG_EXPIRED (R337). -/
  | wdgExpired
  /-- WDG_ARM_DISCARD (R337). -/
  | wdgArmDiscard
  /-- POWER_ON_RESET (R343): whether VBAT was below 1.6 V too. -/
  | powerOnReset (aonLost : Bool)
  /-- BROWN_OUT_RESET (R343). -/
  | brownOutReset
  /-- RESET_CMD (R343). -/
  | resetCmd (x : Seat) (key : BitVec 16) (q : Fin 40)
  /-- PIN_RESET (R343). -/
  | pinReset
  /-- NV_GRACE_END (R347): the length of the wait in us. -/
  | nvGraceEnd (us : Nat)
  /-- RESET_RELEASE (R349): the straps, and a block of memory that fails its check. -/
  | resetRelease (bootSel : Bool) (memBad : Option (BitVec 8)) (prio : Fin 8)
  /-- BOOT_OK (R350): ms since the release. -/
  | bootOk (ms : Nat)
  /-- BOOT_DEADLINE (R350). -/
  | bootDeadline
  /-- BOOT_RETRY (R355). -/
  | bootRetry (x : Seat) (key : BitVec 16) (q : Fin 40)
  /-- PWR_ACTIVE (R360). -/
  | pwrActive (x : Seat) (q : Fin 40)
  /-- PWR_IDLE (R360). -/
  | pwrIdle (x : Seat) (q : Fin 40)
  /-- PWR_STANDBY (R360). -/
  | pwrStandby (x : Seat) (q : Fin 40)
  /-- PWR_SLEEP (R360). -/
  | pwrSleep (x : Seat) (q : Fin 40)
  /-- WAKE (R362). -/
  | wake (src : WakeSrc)
  /-- LOCK_KEY (R424). -/
  | lockKey (x : Seat) (key : BitVec 16) (q : Fin 40)
  /-- CW_STORE (R427). -/
  | cwStore (x : Seat) (key : BitVec 16) (q : Fin 40)
  /-- CW_STORE_DONE (R427). -/
  | cwStoreDone (err : BitVec 4)
  /-- CANDLE_SECOND (R365): the die temperatures of the second: field dies 0 to 3, then the logic die. -/
  | candleSecond (temps : Vector Int 5)
  /-- FOLD (R368). -/
  | fold (m : FoldMeas)
  /-- FOLD_CMD (R368). -/
  | foldCmd (x : Seat) (q : Fin 40)
  /-- CALENDAR_SET (R379). -/
  | calendarSet (x : Seat) (lo : Word) (q : Fin 40)
  /-- CALENDAR_AUTO_TRIM (R379). -/
  | calendarAutoTrim (trim : Int)
  /-- FW_LOAD_START (R382). -/
  | fwLoadStart (x : Seat) (q : Fin 40)
  /-- FW_LOAD_DATA (R382). -/
  | fwLoadData (x : Seat) (w : Word) (q : Fin 40)
  /-- FW_LOAD_END (R382). -/
  | fwLoadEnd (x : Seat) (q : Fin 40)
  /-- FW_LOAD_CANCEL (R382). -/
  | fwLoadCancel (x : Seat) (q : Fin 40)
  /-- FW_INSTALL_DONE (R382). -/
  | fwInstallDone (err : BitVec 4)
  /-- NV_READ (R430). -/
  | nvRead (x : Seat) (region : BitVec 3) (q : Fin 40)
  /-- SEC_PROGRAM_SLOT (R386). -/
  | secProgramSlot (x : Seat) (k : Fin 4) (q : Fin 40)
  /-- SEC_STORE_KEY (R386). -/
  | secStoreKey (x : Seat) (k : Fin 4) (q : Fin 40)
  /-- SEC_REVOKE (R386). -/
  | secRevoke (x : Seat) (k : Fin 4) (q : Fin 40)
  /-- SEC_RAISE_FW_LEVEL (R386). -/
  | secRaiseFwLevel (x : Seat) (q : Fin 40)
  /-- SEC_RAISE_FAB_LEVEL (R386). -/
  | secRaiseFabLevel (x : Seat) (q : Fin 40)
  /-- SEC_RAISE_DEBUG_LEVEL (R386). -/
  | secRaiseDebugLevel (x : Seat) (l : Fin 3) (q : Fin 40)
  /-- DEBUG_NONCE (R388). -/
  | debugNonce
  /-- DEBUG_AUTHENTICATE (R388): the signature (r, s). -/
  | debugAuthenticate (r : BitVec 256) (t : BitVec 256)
  /-- PORT_LOCK_LOST (R250). -/
  | portLockLost (e : PortErrs)
  /-- PAIR_LINK_LOCK (R310). -/
  | pairLinkLock
  /-- SECOND_COPY_START (R296). -/
  | secondCopyStart (c : BitVec 32)
  /-- VDDIO_CHANGE (R359). -/
  | vddioChange (valid : Bool)
  /-- RAIL_DROPOUT_END (R102). -/
  | railDropoutEnd (b : Bank) (r : Fin 2)
  /-- TRIM_PIN_RELEASE (R113): button Z (0) or S (1). -/
  | trimPinRelease (p : Fin 2)
  /-- SEC_CMD_DONE (R386). -/
  | secCmdDone (err : BitVec 4)
  /-- NV_READ_DONE (R430). -/
  | nvReadDone (err : BitVec 4)
  /-- FOLD_DONE (R368). -/
  | foldDone (err : BitVec 4)
  /-- JTAG_RESET (R343). -/
  | jtagReset
  /-- DEBUG_REGISTER_ACCESS (R388, R417): an address, and the word where it is a write; or a boundary scan. -/
  | debugRegisterAccess (a : JtagAccess) (w : Option Word) (q : Fin 40)
  /-- HANDOVER_REQ_RECEIVED (R323). -/
  | handoverReqReceived
  /-- HANDOVER_GO_RECEIVED (R323). -/
  | handoverGoReceived (ns : BitVec 64)
  /-- TWARN_CLEAR (R53). -/
  | twarnClear (n : Chan)
  /-- PARTNER_SEEN_CHANGE (R302). -/
  | partnerSeenChange (b : Bank) (x : OwnSense)
  deriving DecidableEq, Repr

end Sys2Proof
end

