-- ==== Sys2Proof/Decode.lean ====
section
/-!
DEFINITION. The commands that a word spells by the bits of spec/opcode_table.json. No row of the table gives any bits, so no
word spells a command: commands come from outside the block as they are (log entry 1).
-/

namespace Sys2Proof

/-- The command that a word of nbits bits spells by the table: none. -/
def decodeTableWord (_nbits _w : Nat) : Option Instr := none

end Sys2Proof
end

