-- ==== Sys2Proof/Machine/Sparse.lean ====
section
/-!
DEFINITION. Sparse tables: an association list with a default for every key that has no entry. The register file,
the field-side copies and the memory windows are such tables (log entry 7). The canonical form is: keys strictly
rising, no entry equal to the default of its key; so equal tables are equal data. Also the bit-field helpers of a word.
-/

namespace Sys2Proof.Machine

/-- The entry of a key, if the list has one. -/
def assocGet {α : Type} : List (Nat × α) → Nat → Option α
  | [], _ => none
  | e :: t, k => if e.1 = k then some e.2 else assocGet t k

/-- The list with the entry of a key put in its place. -/
def assocInsert {α : Type} : List (Nat × α) → Nat → α → List (Nat × α)
  | [], k, v => [(k, v)]
  | e :: t, k, v =>
    if k < e.1 then (k, v) :: e :: t
    else if e.1 = k then (k, v) :: t
    else e :: assocInsert t k v

/-- The list without any entry of a key. -/
def assocErase {α : Type} : List (Nat × α) → Nat → List (Nat × α)
  | [], _ => []
  | e :: t, k => if e.1 = k then assocErase t k else e :: assocErase t k

/-- What a table holds at a key: its entry, or the default of the key. -/
def sparseGet {α : Type} (d : Nat → α) (m : List (Nat × α)) (k : Nat) : α :=
  (assocGet m k).getD (d k)

/-- The table with a value at a key; writing the default removes the entry. -/
def sparseSet {α : Type} [DecidableEq α] (d : Nat → α) (m : List (Nat × α)) (k : Nat) (v : α) : List (Nat × α) :=
  if v = d k then assocErase m k else assocInsert m k v

/-- The canonical form of a table. -/
abbrev SparseWf {α : Type} (d : Nat → α) (m : List (Nat × α)) : Prop :=
  m.Pairwise (fun a b => a.1 < b.1) ∧ ∀ e ∈ m, e.2 ≠ d e.1

/-- What a byte of a memory window reads as that nothing has written (log entry 7). -/
def memDefault (_ : Nat) : Byte := 0

/-- The canonical form of memory. -/
abbrev Memory.wf (m : List (Nat × Byte)) : Prop := SparseWf memDefault m

/-- Bits [lo+w-1:lo] of a word, as a number. -/
def bits {n : Nat} (x : BitVec n) (lo w : Nat) : Nat := (x.extractLsb' lo w).toNat

/-- A word with its bits [lo+w-1:lo] replaced by the low w bits of a number. -/
def setBits {n : Nat} (x : BitVec n) (lo w v : Nat) : BitVec n :=
  let m : BitVec n := (BitVec.allOnes w).setWidth n <<< lo
  (x &&& ~~~m) ||| ((BitVec.ofNat n v <<< lo) &&& m)

/-- One bit of a bit vector set or cleared. -/
def setBit {n : Nat} (x : BitVec n) (i : Nat) (b : Bool) : BitVec n :=
  if b then x ||| (1#n <<< i) else x &&& ~~~(1#n <<< i)

/-- A number of w bits read as two's complement. -/
def signed (w v : Nat) : Int := if v % 2 ^ w < 2 ^ (w - 1) then (v % 2 ^ w : Nat) else (v % 2 ^ w : Nat) - (2 ^ w : Nat)

/-- The w-bit two's complement code of an integer. -/
def toCode (w : Nat) (x : Int) : Nat := (x % (2 ^ w : Nat)).toNat

/-- An integer held to a range. -/
def clampInt (lo hi x : Int) : Int := if x < lo then lo else if hi < x then hi else x

/-- The nearest integer of a rational, halves upward (log entry 9). -/
def roundNear (x : Rat) : Int := (x + 1 / 2).floor

/-- The integer square root, one bit of the root at a time from bit k - 1 down. -/
def isqrtFrom : Nat → Nat → Nat → Nat
  | 0, _, r => r
  | k + 1, n, r => isqrtFrom k n (if (r + 2 ^ k) * (r + 2 ^ k) ≤ n then r + 2 ^ k else r)

/-- The integer square root of a number. -/
def isqrt (n : Nat) : Nat := isqrtFrom (n.log2 / 2 + 1) n 0

/-- The nearest integer of the square root of a rational that is at least 0 (log entry 9): the largest n with
(2n - 1)^2 ≤ 4x. -/
def sqrtNear (x : Rat) : Nat := (isqrt (4 * x).floor.toNat + 1) / 2

/-- A count that stops at its highest value. -/
def satAdd (w v k : Nat) : Nat := min (v + k) (2 ^ w - 1)

/-- The bytes of a word, least significant first (R9). -/
def wordBytes (w : Word) : List Byte :=
  [w.extractLsb' 0 8, w.extractLsb' 8 8, w.extractLsb' 16 8, w.extractLsb' 24 8]

/-- The word of four bytes, least significant first; missing bytes read 0. -/
def bytesWord (bs : List Byte) : Word :=
  (bs.getD 3 0) ++ (bs.getD 2 0) ++ (bs.getD 1 0) ++ (bs.getD 0 0)

end Sys2Proof.Machine
end

