-- ==== Sys2Proof/Machine/Crypto.lean ====
section
/-!
DEFINITION. The checks the spec names over byte strings: CRC-16 of frames (R212), CRC-32 of images and log records (R178),
SHA-256 and ECDSA P-256 of images and debug authentication (R185, R186, R388). The spec names SHA-256 and ECDSA P-256 by
their standards and does not restate them: PRESUMED from FIPS 180-4 and FIPS 186 (log entry 14).
-/

namespace Sys2Proof.Machine

/-- One bit of CRC-16/CCITT (R212). -/
def crc16Bit (c : BitVec 16) : BitVec 16 := if c.getLsbD 15 then (c <<< 1) ^^^ 0x1021 else c <<< 1

/-- One byte of CRC-16/CCITT. -/
def crc16Byte (c : BitVec 16) (b : Byte) : BitVec 16 :=
  (List.range 8).foldl (fun c _ => crc16Bit c) (c ^^^ (b.setWidth 16 <<< 8))

/-- CRC-16/CCITT, polynomial 0x1021, initial value 0xFFFF (R212). -/
def crc16 (l : List Byte) : BitVec 16 := l.foldl crc16Byte 0xFFFF

/-- One byte of CRC-32, reflected (R178). -/
def crc32Byte (c : Word) (b : Byte) : Word :=
  (List.range 8).foldl (fun c _ => if c.getLsbD 0 then (c >>> 1) ^^^ 0xEDB88320 else c >>> 1) (c ^^^ b.setWidth 32)

/-- CRC-32 of R178. -/
def crc32 (l : List Byte) : Word := ~~~ l.foldl crc32Byte 0xFFFFFFFF

/-- A number of a byte string, most significant byte first. -/
def beNat (l : List Byte) : Nat := l.foldl (fun a b => 256 * a + b.toNat) 0

/-- A number of a byte string, least significant byte first. -/
def leNat (l : List Byte) : Nat := l.foldr (fun b a => b.toNat + 256 * a) 0

/-- The k bytes of a number, most significant first. -/
def beBytes (k n : Nat) : List Byte := (List.range k).map (fun i => BitVec.ofNat 8 (n / 256 ^ (k - 1 - i)))

/-- The k bytes of a number, least significant first. -/
def leBytes (k n : Nat) : List Byte := (List.range k).map (fun i => BitVec.ofNat 8 (n / 256 ^ i))

/-- The first 64 primes. -/
def shaPrimes : List Nat := (List.range 312).filter (fun p => decide (2 ≤ p) && (List.range 18).all (fun d => d < 2 || p ≤ d || p % d != 0))

/-- The integer cube root of a number below 2 ^ (3 k), one bit of the root at a time. -/
def icbrtFrom : Nat → Nat → Nat → Nat
  | 0, _, r => r
  | k + 1, n, r => let t := r + 2 ^ k; icbrtFrom k n (if t * t * t ≤ n then t else r)

/-- The round constants: the first 32 bits after the point of the cube roots of the first 64 primes (FIPS 180-4). -/
def shaK : List Word := shaPrimes.map (fun p => BitVec.ofNat 32 (icbrtFrom 35 (p * 2 ^ 96) 0))

/-- The initial hash: the first 32 bits after the point of the square roots of the first eight primes (FIPS 180-4). -/
def shaInit : List Word := (shaPrimes.take 8).map (fun p => BitVec.ofNat 32 (isqrt (p * 2 ^ 64)))

/-- The sum modulo 2 of a word's rotations to the right by some amounts. -/
def rotMix (w : Word) (amounts : List Nat) : Word := amounts.foldl (fun x k => x ^^^ w.rotateRight k) 0

/-- The message schedule, newest word first, extended k times from the words 2, 7, 15 and 16 places back. -/
def shaExpand : Nat → List Word → List Word
  | 0, w => w
  | k + 1, w =>
    let back (n : Nat) : Word := w.getD (n - 1) 0
    let near := rotMix (back 2) [17, 19] ^^^ (back 2 >>> 10)
    let far := rotMix (back 15) [7, 18] ^^^ (back 15 >>> 3)
    shaExpand k ((near + back 7 + far + back 16) :: w)

/-- One round of SHA-256 on the eight working words, first word first; kw is the sum of the round's constant and word. -/
def shaRound (v : List Word) (kw : Word) : List Word :=
  let wk (n : Nat) : Word := v.getD n 0
  let choice := wk 6 ^^^ (wk 4 &&& (wk 5 ^^^ wk 6))
  let majority := (wk 0 &&& wk 1) ||| (wk 2 &&& (wk 0 ||| wk 1))
  let low := wk 7 + kw + choice + rotMix (wk 4) [6, 11, 25]
  (low + majority + rotMix (wk 0) [2, 13, 22]) :: (v.take 3 ++ (wk 3 + low) :: (v.drop 4).take 3)

/-- One 64-byte block. -/
def shaBlock (hash : List Word) (block : List Byte) : List Word :=
  let w16 := (List.range 16).map (fun i => BitVec.ofNat 32 (beNat ((block.drop (4 * i)).take 4)))
  let w := (shaExpand 48 w16.reverse).reverse
  let v := (w.zip shaK).foldl (fun v e => shaRound v (e.1 + e.2)) hash
  (hash.zip v).map (fun e => e.1 + e.2)

/-- The blocks of a padded message. -/
def shaBlocks : Nat → List Byte → List Word → List Word
  | 0, _, hash => hash
  | k + 1, m, hash => shaBlocks k (m.drop 64) (shaBlock hash (m.take 64))

/-- SHA-256 (FIPS 180-4). -/
def sha256 (m : List Byte) : List Byte :=
  let zeros := (64 - (m.length + 9) % 64) % 64
  let p := m ++ [0x80] ++ List.replicate zeros 0 ++ beBytes 8 (8 * m.length)
  (shaBlocks (p.length / 64) p shaInit).flatMap (fun w => beBytes 4 w.toNat)

/-- The prime, the order, the coefficient b and the base point of P-256. -/
def p256p : Nat := 0xffffffff00000001000000000000000000000000ffffffffffffffffffffffff
def p256n : Nat := 0xffffffff00000000ffffffffffffffffbce6faada7179e84f3b9cac2fc632551
def p256b : Nat := 0x5ac635d8aa3a93e7b3ebbd55769886bc651d06b0cc53b0f63bce3c3e27d2604b
def p256g : Nat × Nat := (0x6b17d1f2e12c4247f8bce6e563a440f277037d812deb33a0f4a13945d898c296,
  0x4fe342e2fe1a7f9b8ee7eb4a7c0f9e162bce33576b315ececbb6406837bf51f5)

/-- A power modulo m, by the low k bits of the exponent. -/
def powMod (m : Nat) : Nat → Nat → Nat → Nat
  | 0, _, _ => 1 % m
  | k + 1, x, e => let r := powMod m k (x * x % m) (e / 2); if e % 2 = 1 then r * x % m else r

/-- The inverse modulo a 256-bit prime. -/
def invMod (m x : Nat) : Nat := powMod m 256 (x % m) (m - 2)

/-- The sum of two points of P-256; none is the point at infinity. -/
def ecAdd (a b : Option (Nat × Nat)) : Option (Nat × Nat) :=
  match a, b with
  | none, b => b
  | a, none => a
  | some (x1, y1), some (x2, y2) =>
    let p := p256p
    if x1 = x2 ∧ (y1 + y2) % p = 0 then none
    else
      let l := if x1 = x2 then (3 * x1 * x1 + (p - 3)) % p * invMod p (2 * y1) % p
        else (y2 + p - y1) % p * invMod p (x2 + p - x1) % p
      let x3 := (l * l + 2 * p - x1 - x2) % p
      some (x3, (l * ((x1 + p - x3) % p) + p - y1) % p)

/-- A multiple of a point, by the low k bits of the factor. -/
def ecMul : Nat → Nat → Option (Nat × Nat) → Option (Nat × Nat)
  | 0, _, _ => none
  | k + 1, e, a => let r := ecMul k (e / 2) (ecAdd a a); if e % 2 = 1 then ecAdd r a else r

/-- A public key lies on the curve. -/
def onCurve (x y : Nat) : Bool :=
  x < p256p && y < p256p && (y * y % p256p == (x * x * x + (p256p - 3) * x + p256b) % p256p)

/-- The verification equation of ECDSA P-256 for a 32-byte message hash, a 64-byte key (X then Y) and 32-byte r and s,
all big-endian, with 1 ≤ r, s ≤ n - 1 (R186). -/
def ecdsaOk (hash key r s : List Byte) : Bool :=
  let rn := beNat r
  let sn := beNat s
  let x := beNat (key.take 32)
  let y := beNat (key.drop 32)
  if rn = 0 ∨ sn = 0 ∨ p256n ≤ rn ∨ p256n ≤ sn ∨ ¬ onCurve x y then false
  else
    let w := invMod p256n sn
    let u1 := beNat hash * w % p256n
    let u2 := rn * w % p256n
    match ecAdd (ecMul 256 u1 (some p256g)) (ecMul 256 u2 (some (x, y))) with
    | none => false
    | some (x3, _) => x3 % p256n == rn

end Sys2Proof.Machine
end

