-- ==== Sys2Proof/Config.lean ====
section
/-!
DEFINITION. What the spec leaves open: free values without a body, so that nothing can be proved of them but what
holds of every value (log entry 3).
-/

namespace Sys2Proof.Config

/-- The k-th 16-bit number a field die draws as a TOKEN (table CELL[n].STATE: the spec says only that it is drawn
anew). -/
opaque token : Nat → BitVec 16

/-- The code of an EVENT record of each kind (R368 names the kinds, no codes). -/
opaque eventCode : Nat → BitVec 16

/-- The value word of the k-th EVENT record (R368 does not say what it holds). -/
opaque eventValue : Nat → BitVec 32

/-- What the part's current limit lies above 3,825 mA, and its inrush limit above 7,650 mA, in mA: R46 bounds both. -/
opaque ilimOver : Nat → Fin 1351

opaque inrushOver : Nat → Fin 2701

/-- What an erased byte of NV memory reads as. -/
opaque erasedByte : BitVec 8

/-- The bytes of the SHA-256 hash of the vendor's public key in key slot 0 (R385). -/
opaque vendorHash : Nat → BitVec 8

/-- The k-th nonce of a debug authentication: 32 bytes drawn anew for each attempt (R388). -/
opaque nonce : Nat → BitVec 256

/-- Bytes 0x10 to 0x1B of the OTP identity: manufacturing date, lot and wafer code of the part (R431). -/
opaque otpLot : Nat → BitVec 8

/-- Whether the slow phase of an NV operation that the spec bounds in time only has begun when the operation is met by a
CANCEL or a reset: the trailer of an install (R192, R194), the erase of a firmware slot (R382). -/
opaque nvBegun : Nat → Bool

/-- Whether an NV operation that begins with an erase is still at it when it is looked at (R192, R369, table NVM STAT OP). -/
opaque nvErasing : Nat → Bool

/-- How many bytes of a slot an install has programmed when it is looked at before its trailer (R192). -/
opaque nvWritten : Nat → Nat

/-- Where in its fabric cycle, in 0.25 us, an event lies whose command gives no instant. -/
opaque instant : Nat → Fin 40

/-- The boot step that a boot had reached when a reset ended it before BOOT_OK; R349 bounds the steps in time only. -/
opaque bootStep : Nat → Fin 8

/-- What MARKHOR's firmware writes at boot into the region registers of engine e: word i of its 32 (R242). -/
opaque mpuRegion : Nat → Nat → BitVec 32

/-- What the k-th debug read of an engine-private register delivers (R434: its content is no part of the interface). -/
opaque privWord : Nat → BitVec 32

/-- The engine that vendor firmware gives a DMA channel 0 to 7 (table DMA OWN). -/
opaque dmaEngine : Nat → Fin 11

/-- Whether the DMA beats of an engine count as privileged (R242, table MPU PRIV). -/
opaque enginePriv : Fin 11 → Bool

/-- The cause a DMA channel records for a source its seat may not read; R240 names none for it, and none but 0x1 to 0x9 is ever written. -/
opaque dmaSourceCause : Fin 9

end Sys2Proof.Config
end

