-- ==== Sys2Proof/Machine/Regs.lean ====
section
/-!
DEFINITION. The register tables of the spec as data: for every host-visible register its offset, its fields, their
access code (R11), reset value and what they survive, row by row as the register tables of chapters 01 to 13 print
them; and for every field a name, written BLOCK_REGISTER_FIELD after the spec's `BLOCK[index].REGISTER.FIELD` (R10).
Reserved bits have no row: they read 0 (R10). The block bases and strides are those of R419 and R433.
-/

namespace Sys2Proof.Machine

/-- Where a field of a register lies: the word address of the register, its lowest bit and its width. -/
structure Fld where
  addr : Nat
  lo : Nat
  w : Nat
  deriving DecidableEq, Repr

/-- The access codes of R11. -/
inductive Acc | rw | ro | w1c | wo | rwc | rwl
  deriving DecidableEq, Repr

/-- The Reset column: a number, or where the value comes from (R40). -/
inductive Rst
  | num (v : Nat)
  | image   -- the fabric image (R40)
  | stored  -- a stored NV record
  | otp     -- one-time programmable memory
  | log     -- the Candle log
  | token   -- drawn by the field die
  | fixed   -- fixed by the silicon
  | strap   -- strap pins
  deriving DecidableEq, Repr

/-- The Survives column: which reset classes and low-power states leave the field its value. -/
inductive Surv
  | none    -- nothing
  | low     -- IDLE, STANDBY, SLEEP
  | img     -- FBR and the low-power states
  | fld     -- BOR, WDR, CMR, HFR, PIN and the low-power states (held on the field die)
  | notPor  -- everything but a POR
  | all     -- everything
  deriving DecidableEq, Repr

/-- One field of a register table. -/
structure FDesc where
  lo : Nat
  w : Nat
  acc : Acc
  rst : Rst
  surv : Surv
  deriving DecidableEq, Repr

/-- One register (cnt = 1) or an array of cnt registers stride bytes apart, at an offset inside its block. -/
structure RDesc where
  off : Nat
  cnt : Nat
  stride : Nat
  fields : List FDesc
  deriving DecidableEq, Repr

abbrev BANK_LINK_UP (n : Nat) : Fld := ⟨0x50F00 + 0x1000 * n, 0, 1⟩
abbrev BANK_LINK_FIELD_ALIVE (n : Nat) : Fld := ⟨0x50F00 + 0x1000 * n, 1, 1⟩
abbrev BANK_LINK_LOST_CNT (n : Nat) : Fld := ⟨0x50F00 + 0x1000 * n, 8, 8⟩
abbrev BANK_LINK_SINCE_LOSS (n : Nat) : Fld := ⟨0x50F00 + 0x1000 * n, 16, 16⟩
abbrev BANK_LINK_ERR_OVERRUN_A (n : Nat) : Fld := ⟨0x50F04 + 0x1000 * n, 0, 8⟩
abbrev BANK_LINK_ERR_OVERRUN_B (n : Nat) : Fld := ⟨0x50F04 + 0x1000 * n, 8, 8⟩
abbrev BANK_LINK_ERR_CRC_ERR (n : Nat) : Fld := ⟨0x50F04 + 0x1000 * n, 16, 16⟩
abbrev CELL_CFG_FUNC (n : Nat) : Fld := ⟨0x40000 + 0x400 * n, 0, 4⟩
abbrev CELL_CFG_FAMILY (n : Nat) : Fld := ⟨0x40000 + 0x400 * n, 4, 2⟩
abbrev CELL_CFG_CFG_GEN (n : Nat) : Fld := ⟨0x40000 + 0x400 * n, 16, 16⟩
abbrev CELL_STATE_STATE (n : Nat) : Fld := ⟨0x40004 + 0x400 * n, 0, 3⟩
abbrev CELL_STATE_CAUSE (n : Nat) : Fld := ⟨0x40004 + 0x400 * n, 4, 4⟩
abbrev CELL_STATE_ADOPTED (n : Nat) : Fld := ⟨0x40004 + 0x400 * n, 8, 1⟩
abbrev CELL_STATE_LINK_UP (n : Nat) : Fld := ⟨0x40004 + 0x400 * n, 9, 1⟩
abbrev CELL_STATE_TOKEN (n : Nat) : Fld := ⟨0x40004 + 0x400 * n, 16, 16⟩
abbrev CELL_OWN_SEAT (n : Nat) : Fld := ⟨0x40008 + 0x400 * n, 0, 2⟩
abbrev CELL_SAFE_CODE (n : Nat) : Fld := ⟨0x4000C + 0x400 * n, 0, 3⟩
abbrev CELL_SAFE_VALUE (n : Nat) : Fld := ⟨0x4000C + 0x400 * n, 16, 16⟩
abbrev CELL_OUT_VALUE (n : Nat) : Fld := ⟨0x40010 + 0x400 * n, 0, 16⟩
abbrev CELL_FLAGS_OPEN_LOAD (n : Nat) : Fld := ⟨0x40014 + 0x400 * n, 0, 1⟩
abbrev CELL_FLAGS_WIRE_BREAK (n : Nat) : Fld := ⟨0x40014 + 0x400 * n, 1, 1⟩
abbrev CELL_FLAGS_SHORT_VF (n : Nat) : Fld := ⟨0x40014 + 0x400 * n, 2, 1⟩
abbrev CELL_FLAGS_XFEED (n : Nat) : Fld := ⟨0x40014 + 0x400 * n, 3, 1⟩
abbrev CELL_FLAGS_PARALLEL_SEEN (n : Nat) : Fld := ⟨0x40014 + 0x400 * n, 4, 1⟩
abbrev CELL_FLAGS_ILIM (n : Nat) : Fld := ⟨0x40014 + 0x400 * n, 5, 1⟩
abbrev CELL_FLAGS_FUSE_TRIP (n : Nat) : Fld := ⟨0x40014 + 0x400 * n, 6, 1⟩
abbrev CELL_FLAGS_TWARN (n : Nat) : Fld := ⟨0x40014 + 0x400 * n, 7, 1⟩
abbrev CELL_FLAGS_TSD (n : Nat) : Fld := ⟨0x40014 + 0x400 * n, 8, 1⟩
abbrev CELL_FLAGS_INRUSH_CUT (n : Nat) : Fld := ⟨0x40014 + 0x400 * n, 9, 1⟩
abbrev CELL_FLAGS_COMPLIANCE (n : Nat) : Fld := ⟨0x40014 + 0x400 * n, 10, 1⟩
abbrev CELL_FLAGS_READBACK_MISMATCH (n : Nat) : Fld := ⟨0x40014 + 0x400 * n, 11, 1⟩
abbrev CELL_FLAGS_UV_OFF (n : Nat) : Fld := ⟨0x40014 + 0x400 * n, 12, 1⟩
abbrev CELL_FLAGS_VF_LOW (n : Nat) : Fld := ⟨0x40014 + 0x400 * n, 13, 1⟩
abbrev CELL_FLAGS_OVR (n : Nat) : Fld := ⟨0x40014 + 0x400 * n, 14, 1⟩
abbrev CELL_FLAGS_DIRTY (n : Nat) : Fld := ⟨0x40014 + 0x400 * n, 15, 1⟩
abbrev CELL_FLAGS_PLAUS_FAIL (n : Nat) : Fld := ⟨0x40014 + 0x400 * n, 16, 1⟩
abbrev CELL_FLAGS_STALE (n : Nat) : Fld := ⟨0x40014 + 0x400 * n, 17, 1⟩
abbrev CELL_LIVE_OPEN_LOAD (n : Nat) : Fld := ⟨0x40018 + 0x400 * n, 0, 1⟩
abbrev CELL_LIVE_WIRE_BREAK (n : Nat) : Fld := ⟨0x40018 + 0x400 * n, 1, 1⟩
abbrev CELL_LIVE_SHORT_VF (n : Nat) : Fld := ⟨0x40018 + 0x400 * n, 2, 1⟩
abbrev CELL_LIVE_XFEED (n : Nat) : Fld := ⟨0x40018 + 0x400 * n, 3, 1⟩
abbrev CELL_LIVE_PARALLEL_SEEN (n : Nat) : Fld := ⟨0x40018 + 0x400 * n, 4, 1⟩
abbrev CELL_LIVE_ILIM (n : Nat) : Fld := ⟨0x40018 + 0x400 * n, 5, 1⟩
abbrev CELL_LIVE_FUSE_TRIP (n : Nat) : Fld := ⟨0x40018 + 0x400 * n, 6, 1⟩
abbrev CELL_LIVE_TWARN (n : Nat) : Fld := ⟨0x40018 + 0x400 * n, 7, 1⟩
abbrev CELL_LIVE_TSD (n : Nat) : Fld := ⟨0x40018 + 0x400 * n, 8, 1⟩
abbrev CELL_LIVE_INRUSH_CUT (n : Nat) : Fld := ⟨0x40018 + 0x400 * n, 9, 1⟩
abbrev CELL_LIVE_COMPLIANCE (n : Nat) : Fld := ⟨0x40018 + 0x400 * n, 10, 1⟩
abbrev CELL_LIVE_READBACK_MISMATCH (n : Nat) : Fld := ⟨0x40018 + 0x400 * n, 11, 1⟩
abbrev CELL_LIVE_UV_OFF (n : Nat) : Fld := ⟨0x40018 + 0x400 * n, 12, 1⟩
abbrev CELL_LIVE_VF_LOW (n : Nat) : Fld := ⟨0x40018 + 0x400 * n, 13, 1⟩
abbrev CELL_LIVE_OVR (n : Nat) : Fld := ⟨0x40018 + 0x400 * n, 14, 1⟩
abbrev CELL_LIVE_DIRTY (n : Nat) : Fld := ⟨0x40018 + 0x400 * n, 15, 1⟩
abbrev CELL_LIVE_PLAUS_FAIL (n : Nat) : Fld := ⟨0x40018 + 0x400 * n, 16, 1⟩
abbrev CELL_LIVE_STALE (n : Nat) : Fld := ⟨0x40018 + 0x400 * n, 17, 1⟩
abbrev CELL_EVT_EN_OPEN_LOAD (n : Nat) : Fld := ⟨0x4001C + 0x400 * n, 0, 1⟩
abbrev CELL_EVT_EN_WIRE_BREAK (n : Nat) : Fld := ⟨0x4001C + 0x400 * n, 1, 1⟩
abbrev CELL_EVT_EN_SHORT_VF (n : Nat) : Fld := ⟨0x4001C + 0x400 * n, 2, 1⟩
abbrev CELL_EVT_EN_XFEED (n : Nat) : Fld := ⟨0x4001C + 0x400 * n, 3, 1⟩
abbrev CELL_EVT_EN_PARALLEL_SEEN (n : Nat) : Fld := ⟨0x4001C + 0x400 * n, 4, 1⟩
abbrev CELL_EVT_EN_ILIM (n : Nat) : Fld := ⟨0x4001C + 0x400 * n, 5, 1⟩
abbrev CELL_EVT_EN_FUSE_TRIP (n : Nat) : Fld := ⟨0x4001C + 0x400 * n, 6, 1⟩
abbrev CELL_EVT_EN_TWARN (n : Nat) : Fld := ⟨0x4001C + 0x400 * n, 7, 1⟩
abbrev CELL_EVT_EN_TSD (n : Nat) : Fld := ⟨0x4001C + 0x400 * n, 8, 1⟩
abbrev CELL_EVT_EN_INRUSH_CUT (n : Nat) : Fld := ⟨0x4001C + 0x400 * n, 9, 1⟩
abbrev CELL_EVT_EN_COMPLIANCE (n : Nat) : Fld := ⟨0x4001C + 0x400 * n, 10, 1⟩
abbrev CELL_EVT_EN_READBACK_MISMATCH (n : Nat) : Fld := ⟨0x4001C + 0x400 * n, 11, 1⟩
abbrev CELL_EVT_EN_UV_OFF (n : Nat) : Fld := ⟨0x4001C + 0x400 * n, 12, 1⟩
abbrev CELL_EVT_EN_VF_LOW (n : Nat) : Fld := ⟨0x4001C + 0x400 * n, 13, 1⟩
abbrev CELL_EVT_EN_OVR (n : Nat) : Fld := ⟨0x4001C + 0x400 * n, 14, 1⟩
abbrev CELL_EVT_EN_DIRTY (n : Nat) : Fld := ⟨0x4001C + 0x400 * n, 15, 1⟩
abbrev CELL_EVT_EN_PLAUS_FAIL (n : Nat) : Fld := ⟨0x4001C + 0x400 * n, 16, 1⟩
abbrev CELL_EVT_EN_STALE (n : Nat) : Fld := ⟨0x4001C + 0x400 * n, 17, 1⟩
abbrev CELL_TEMP_TEMP (n : Nat) : Fld := ⟨0x40020 + 0x400 * n, 0, 16⟩
abbrev CELL_TEMP_VALID (n : Nat) : Fld := ⟨0x40020 + 0x400 * n, 16, 1⟩
abbrev CELL_CTRL_FAULT_CLR (n : Nat) : Fld := ⟨0x40024 + 0x400 * n, 0, 1⟩
abbrev CELL_CTRL_SHADOW_PENDING (n : Nat) : Fld := ⟨0x40024 + 0x400 * n, 1, 1⟩
abbrev CELL_ADOPT_TOKEN (n : Nat) : Fld := ⟨0x40028 + 0x400 * n, 0, 16⟩
abbrev CELL_SW_CFG_SLEW (n : Nat) : Fld := ⟨0x40100 + 0x400 * n, 0, 3⟩
abbrev CELL_SW_CFG_INRUSH_MS (n : Nat) : Fld := ⟨0x40100 + 0x400 * n, 4, 7⟩
abbrev CELL_SW_CFG_PHASE_ALIGN (n : Nat) : Fld := ⟨0x40100 + 0x400 * n, 16, 1⟩
abbrev CELL_SW_STAT_CURRENT_MA (n : Nat) : Fld := ⟨0x40104 + 0x400 * n, 0, 16⟩
abbrev CELL_SW_STAT_ON (n : Nat) : Fld := ⟨0x40104 + 0x400 * n, 16, 1⟩
abbrev CELL_SW_STAT_IN_LIMIT (n : Nat) : Fld := ⟨0x40104 + 0x400 * n, 17, 1⟩
abbrev CELL_SW_STAT_INRUSH_ACTIVE (n : Nat) : Fld := ⟨0x40104 + 0x400 * n, 18, 1⟩
abbrev CELL_SW_STAT_RETRY_OFF (n : Nat) : Fld := ⟨0x40104 + 0x400 * n, 19, 1⟩
abbrev CELL_SW_STAT_RETRY_CNT (n : Nat) : Fld := ⟨0x40104 + 0x400 * n, 20, 4⟩
abbrev CELL_SW_DERATE_I_CEIL (n : Nat) : Fld := ⟨0x40108 + 0x400 * n, 0, 16⟩
abbrev CELL_SW_DERATE_ILIM_PCT (n : Nat) : Fld := ⟨0x40108 + 0x400 * n, 16, 7⟩
abbrev CELL_FUSE_CFG_WIRE (n : Nat) : Fld := ⟨0x40300 + 0x400 * n, 0, 3⟩
abbrev CELL_FUSE_CFG_INSUL (n : Nat) : Fld := ⟨0x40300 + 0x400 * n, 3, 2⟩
abbrev CELL_FUSE_CFG_ROUTE (n : Nat) : Fld := ⟨0x40300 + 0x400 * n, 5, 1⟩
abbrev CELL_FUSE_CFG_BUNDLE (n : Nat) : Fld := ⟨0x40300 + 0x400 * n, 8, 4⟩
abbrev CELL_FUSE_CFG_K_N (n : Nat) : Fld := ⟨0x40300 + 0x400 * n, 12, 4⟩
abbrev CELL_FUSE_CFG_OFFSET (n : Nat) : Fld := ⟨0x40300 + 0x400 * n, 16, 8⟩
abbrev CELL_FUSE_STAT_T_WIRE (n : Nat) : Fld := ⟨0x40304 + 0x400 * n, 0, 16⟩
abbrev CELL_FUSE_STAT_I_HOLD (n : Nat) : Fld := ⟨0x40304 + 0x400 * n, 16, 16⟩
abbrev CELL_FUSE_AMB_T_AMB (n : Nat) : Fld := ⟨0x40308 + 0x400 * n, 0, 16⟩
abbrev CELL_FUSE_AMB_T_NB (n : Nat) : Fld := ⟨0x40308 + 0x400 * n, 16, 16⟩
abbrev CELL_THERM_CFG_RESTART (n : Nat) : Fld := ⟨0x4030C + 0x400 * n, 0, 1⟩
abbrev CELL_THERM_CFG_RETRIES (n : Nat) : Fld := ⟨0x4030C + 0x400 * n, 4, 4⟩
abbrev CELL_THERM_CFG_LIM_OFF_MS (n : Nat) : Fld := ⟨0x4030C + 0x400 * n, 8, 8⟩
abbrev CELL_PROT_CNT_ILIM_TRIPS (n : Nat) : Fld := ⟨0x40310 + 0x400 * n, 0, 8⟩
abbrev CELL_PROT_CNT_TSD_TRIPS (n : Nat) : Fld := ⟨0x40310 + 0x400 * n, 8, 8⟩
abbrev CELL_PROT_CNT_FUSE_TRIPS (n : Nat) : Fld := ⟨0x40310 + 0x400 * n, 16, 8⟩
abbrev CELL_DIAG_CFG_OL_ON_MA (n : Nat) : Fld := ⟨0x40380 + 0x400 * n, 0, 8⟩
abbrev CELL_DIAG_CFG_OL_OFF_EN (n : Nat) : Fld := ⟨0x40380 + 0x400 * n, 8, 1⟩
abbrev CELL_DIAG_STAT_VTERM (n : Nat) : Fld := ⟨0x40384 + 0x400 * n, 0, 16⟩
abbrev CELL_DIAG_STAT_XFEED_SRC (n : Nat) : Fld := ⟨0x40384 + 0x400 * n, 16, 5⟩
abbrev CELL_DIAG_STAT_XFEED_VALID (n : Nat) : Fld := ⟨0x40384 + 0x400 * n, 21, 1⟩
abbrev CELL_DIAG_STAT_PAR_WITH (n : Nat) : Fld := ⟨0x40384 + 0x400 * n, 22, 5⟩
abbrev CELL_DIAG_STAT_PAR_VALID (n : Nat) : Fld := ⟨0x40384 + 0x400 * n, 27, 1⟩
abbrev WICK_CFG_PER_SEL (n : Nat) : Fld := ⟨0x70000 + 0x40 * n, 0, 1⟩
abbrev WICK_CFG_PHASE (n : Nat) : Fld := ⟨0x70000 + 0x40 * n, 8, 8⟩
abbrev WICK_CFG_SOFT (n : Nat) : Fld := ⟨0x70000 + 0x40 * n, 16, 8⟩
abbrev WICK_PERIOD_PERIOD_US (n : Nat) : Fld := ⟨0x70004 + 0x40 * n, 0, 20⟩
abbrev WICK_STAT_DUTY_NOW (n : Nat) : Fld := ⟨0x70008 + 0x40 * n, 0, 16⟩
abbrev WICK_STAT_RUNNING (n : Nat) : Fld := ⟨0x70008 + 0x40 * n, 16, 1⟩
abbrev WICK_STAT_SOFT_ACTIVE (n : Nat) : Fld := ⟨0x70008 + 0x40 * n, 17, 1⟩
abbrev WICK_OWN_SEAT (n : Nat) : Fld := ⟨0x7000C + 0x40 * n, 0, 2⟩
abbrev BANK_WICK_PERIOD_PERIOD_US (n : Nat) : Fld := ⟨0x50A00 + 0x1000 * n, 0, 20⟩
abbrev BANK_ARB_STAT_AGG_MA (n : Nat) : Fld := ⟨0x50A04 + 0x1000 * n, 0, 16⟩
abbrev BANK_ARB_STAT_TBWARN (n : Nat) : Fld := ⟨0x50A04 + 0x1000 * n, 16, 1⟩
abbrev BANK_ARB_PEAK_PEAK_MA (n : Nat) : Fld := ⟨0x50A08 + 0x1000 * n, 0, 16⟩
abbrev BANK_ARB_PEAK_PEAK_CLR (n : Nat) : Fld := ⟨0x50A08 + 0x1000 * n, 31, 1⟩
abbrev BANK_LIMP_MAP_MAP_C0 (n : Nat) : Fld := ⟨0x50A10 + 0x1000 * n, 0, 2⟩
abbrev BANK_LIMP_MAP_MAP_C1 (n : Nat) : Fld := ⟨0x50A10 + 0x1000 * n, 2, 2⟩
abbrev BANK_LIMP_MAP_MAP_C2 (n : Nat) : Fld := ⟨0x50A10 + 0x1000 * n, 4, 2⟩
abbrev BANK_LIMP_MAP_MAP_C3 (n : Nat) : Fld := ⟨0x50A10 + 0x1000 * n, 6, 2⟩
abbrev BANK_LIMP_MAP_MAP_C4 (n : Nat) : Fld := ⟨0x50A10 + 0x1000 * n, 8, 2⟩
abbrev BANK_LIMP_MAP_MAP_C5 (n : Nat) : Fld := ⟨0x50A10 + 0x1000 * n, 10, 2⟩
abbrev BANK_LIMP_MAP_MAP_C6 (n : Nat) : Fld := ⟨0x50A10 + 0x1000 * n, 12, 2⟩
abbrev BANK_LIMP_MAP_MAP_C7 (n : Nat) : Fld := ⟨0x50A10 + 0x1000 * n, 14, 2⟩
abbrev BANK_LIMP_PIN_LHA (n : Nat) : Fld := ⟨0x50A14 + 0x1000 * n, 0, 1⟩
abbrev BANK_LIMP_PIN_LHB (n : Nat) : Fld := ⟨0x50A14 + 0x1000 * n, 1, 1⟩
abbrev BANK_LIMP_PIN_ISEL (n : Nat) : Fld := ⟨0x50A14 + 0x1000 * n, 4, 3⟩
abbrev CELL_RAIL_SEL (n : Nat) : Fld := ⟨0x40180 + 0x400 * n, 0, 1⟩
abbrev CELL_RAIL_USED (n : Nat) : Fld := ⟨0x40180 + 0x400 * n, 1, 1⟩
abbrev CELL_RAIL_V_NEED (n : Nat) : Fld := ⟨0x40180 + 0x400 * n, 8, 8⟩
abbrev CELL_AO_MODE (n : Nat) : Fld := ⟨0x40184 + 0x400 * n, 0, 1⟩
abbrev CELL_AO_NE43_CLAMP (n : Nat) : Fld := ⟨0x40184 + 0x400 * n, 1, 1⟩
abbrev CELL_AO_COMPLY_POLICY (n : Nat) : Fld := ⟨0x40184 + 0x400 * n, 2, 2⟩
abbrev CELL_AO_RB_TOL (n : Nat) : Fld := ⟨0x40184 + 0x400 * n, 8, 8⟩
abbrev CELL_AO_ALM_LO_UA (n : Nat) : Fld := ⟨0x40188 + 0x400 * n, 0, 16⟩
abbrev CELL_AO_ALM_HI_UA (n : Nat) : Fld := ⟨0x40188 + 0x400 * n, 16, 16⟩
abbrev CELL_AO_TRIM_ZERO (n : Nat) : Fld := ⟨0x4018C + 0x400 * n, 0, 16⟩
abbrev CELL_AO_TRIM_SPAN (n : Nat) : Fld := ⟨0x4018C + 0x400 * n, 16, 16⟩
abbrev CELL_AO_STAT_RB (n : Nat) : Fld := ⟨0x40190 + 0x400 * n, 0, 16⟩
abbrev CELL_AO_STAT_VTERM (n : Nat) : Fld := ⟨0x40190 + 0x400 * n, 16, 8⟩
abbrev CELL_AO_STAT_TCLAMP (n : Nat) : Fld := ⟨0x40190 + 0x400 * n, 24, 1⟩
abbrev CELL_AO_STAT_POLICY_ACT (n : Nat) : Fld := ⟨0x40190 + 0x400 * n, 25, 1⟩
abbrev CELL_AO_STAT_HEADROOM_OUT (n : Nat) : Fld := ⟨0x40190 + 0x400 * n, 26, 1⟩
abbrev CELL_AO_LOAD_R_EST (n : Nat) : Fld := ⟨0x40194 + 0x400 * n, 0, 16⟩
abbrev CELL_DI_TYPE (n : Nat) : Fld := ⟨0x40200 + 0x400 * n, 0, 2⟩
abbrev CELL_DI_INV (n : Nat) : Fld := ⟨0x40200 + 0x400 * n, 2, 1⟩
abbrev CELL_DI_WB_EN (n : Nat) : Fld := ⟨0x40200 + 0x400 * n, 3, 1⟩
abbrev CELL_DI_WB_10UA (n : Nat) : Fld := ⟨0x40200 + 0x400 * n, 4, 8⟩
abbrev CELL_DI_DEB_US (n : Nat) : Fld := ⟨0x40200 + 0x400 * n, 16, 16⟩
abbrev CELL_IN_LEVEL (n : Nat) : Fld := ⟨0x40204 + 0x400 * n, 0, 1⟩
abbrev CELL_IN_STALE (n : Nat) : Fld := ⟨0x40204 + 0x400 * n, 1, 1⟩
abbrev CELL_IN_WIRE_BREAK (n : Nat) : Fld := ⟨0x40204 + 0x400 * n, 2, 1⟩
abbrev CELL_IN_BAND (n : Nat) : Fld := ⟨0x40204 + 0x400 * n, 3, 3⟩
abbrev CELL_IN_EDGE_CNT (n : Nat) : Fld := ⟨0x40204 + 0x400 * n, 16, 16⟩
abbrev CELL_CTR_CFG_MODE (n : Nat) : Fld := ⟨0x40208 + 0x400 * n, 0, 2⟩
abbrev CELL_CTR_CFG_GATE_MS (n : Nat) : Fld := ⟨0x40208 + 0x400 * n, 4, 10⟩
abbrev CELL_CTR_CTRL_CLR (n : Nat) : Fld := ⟨0x4020C + 0x400 * n, 0, 1⟩
abbrev CELL_CTR_CTRL_GAP (n : Nat) : Fld := ⟨0x4020C + 0x400 * n, 8, 1⟩
abbrev CELL_COUNT_COUNT (n : Nat) : Fld := ⟨0x40210 + 0x400 * n, 0, 32⟩
abbrev CELL_FREQ_FREQ (n : Nat) : Fld := ⟨0x40214 + 0x400 * n, 0, 32⟩
abbrev CELL_NAMUR_CFG_FAULT_VAL (n : Nat) : Fld := ⟨0x40218 + 0x400 * n, 0, 2⟩
abbrev CELL_NAMUR_CFG_BREAK_EN (n : Nat) : Fld := ⟨0x40218 + 0x400 * n, 2, 1⟩
abbrev CELL_NAMUR_CFG_SHORT_EN (n : Nat) : Fld := ⟨0x40218 + 0x400 * n, 3, 1⟩
abbrev CELL_NAMUR_STAT_BAND (n : Nat) : Fld := ⟨0x4021C + 0x400 * n, 0, 3⟩
abbrev CELL_NAMUR_STAT_I_UA (n : Nat) : Fld := ⟨0x4021C + 0x400 * n, 16, 16⟩
abbrev CELL_AI_CFG_VRANGE (n : Nat) : Fld := ⟨0x40220 + 0x400 * n, 0, 2⟩
abbrev CELL_AI_CFG_LOOP (n : Nat) : Fld := ⟨0x40220 + 0x400 * n, 4, 1⟩
abbrev CELL_AI_CFG_LOOP_V (n : Nat) : Fld := ⟨0x40220 + 0x400 * n, 5, 2⟩
abbrev CELL_AI_CFG_WB_EN (n : Nat) : Fld := ⟨0x40220 + 0x400 * n, 7, 1⟩
abbrev CELL_AI_CFG_WB_10UA (n : Nat) : Fld := ⟨0x40220 + 0x400 * n, 8, 8⟩
abbrev BANK_LNT_A_V_TARGET (n : Nat) : Fld := ⟨0x50B00 + 0x1000 * n, 0, 9⟩
abbrev BANK_LNT_A_AT_MAX (n : Nat) : Fld := ⟨0x50B00 + 0x1000 * n, 9, 1⟩
abbrev BANK_LNT_A_DROPOUT (n : Nat) : Fld := ⟨0x50B00 + 0x1000 * n, 10, 1⟩
abbrev BANK_LNT_A_ENABLED (n : Nat) : Fld := ⟨0x50B00 + 0x1000 * n, 11, 1⟩
abbrev BANK_LNT_A_V_MEAS (n : Nat) : Fld := ⟨0x50B00 + 0x1000 * n, 16, 9⟩
abbrev BANK_LNT_B_V_TARGET (n : Nat) : Fld := ⟨0x50B04 + 0x1000 * n, 0, 9⟩
abbrev BANK_LNT_B_AT_MAX (n : Nat) : Fld := ⟨0x50B04 + 0x1000 * n, 9, 1⟩
abbrev BANK_LNT_B_DROPOUT (n : Nat) : Fld := ⟨0x50B04 + 0x1000 * n, 10, 1⟩
abbrev BANK_LNT_B_ENABLED (n : Nat) : Fld := ⟨0x50B04 + 0x1000 * n, 11, 1⟩
abbrev BANK_LNT_B_V_MEAS (n : Nat) : Fld := ⟨0x50B04 + 0x1000 * n, 16, 9⟩
abbrev BANK_LNT_PWR_PDISS_A (n : Nat) : Fld := ⟨0x50B08 + 0x1000 * n, 0, 16⟩
abbrev BANK_LNT_PWR_PDISS_B (n : Nat) : Fld := ⟨0x50B08 + 0x1000 * n, 16, 16⟩
abbrev BANK_LOOP_ALM_SEL (n : Nat) : Fld := ⟨0x50B10 + 0x1000 * n, 0, 1⟩
abbrev BANK_LOOP_ALM_PIN (n : Nat) : Fld := ⟨0x50B10 + 0x1000 * n, 1, 2⟩
abbrev BANK_LOOP_ALM_EFFECTIVE (n : Nat) : Fld := ⟨0x50B10 + 0x1000 * n, 3, 1⟩
abbrev TRIM_EN_EN : Fld := ⟨0x600, 0, 1⟩
abbrev TRIM_SEL_SEL : Fld := ⟨0x604, 0, 32⟩
abbrev TRIM_STEP_ZSTEP : Fld := ⟨0x608, 0, 8⟩
abbrev TRIM_STEP_SSTEP : Fld := ⟨0x608, 8, 8⟩
abbrev TRIM_STORE_KEY : Fld := ⟨0x60C, 0, 16⟩
abbrev TRIM_STORE_BUSY : Fld := ⟨0x60C, 16, 1⟩
abbrev TRIM_STORE_DONE : Fld := ⟨0x60C, 17, 1⟩
abbrev TRIM_STORE_ERR : Fld := ⟨0x60C, 18, 1⟩
abbrev TRIM_STAT_Z_PRESSES : Fld := ⟨0x610, 0, 8⟩
abbrev TRIM_STAT_S_PRESSES : Fld := ⟨0x610, 8, 8⟩
abbrev TRIM_STAT_AT_LIMIT : Fld := ⟨0x610, 16, 1⟩
abbrev TRIM_STAT_IGNORED : Fld := ⟨0x610, 17, 1⟩
abbrev TRIM_STAT_Z_PIN : Fld := ⟨0x610, 18, 1⟩
abbrev TRIM_STAT_S_PIN : Fld := ⟨0x610, 19, 1⟩
abbrev TRIM_STAT_ERR_CODE : Fld := ⟨0x610, 20, 4⟩
abbrev BANK_SEQ_CTRL_LEN_M1 (n : Nat) : Fld := ⟨0x50000 + 0x1000 * n, 0, 4⟩
abbrev BANK_SEQ_CTRL_RUN (n : Nat) : Fld := ⟨0x50000 + 0x1000 * n, 4, 1⟩
abbrev BANK_SEQ_CTRL_PERIOD_US (n : Nat) : Fld := ⟨0x50000 + 0x1000 * n, 8, 20⟩
abbrev BANK_SEQ_STAT_RUNNING (n : Nat) : Fld := ⟨0x50004 + 0x1000 * n, 0, 1⟩
abbrev BANK_SEQ_STAT_CAL_ACTIVE (n : Nat) : Fld := ⟨0x50004 + 0x1000 * n, 1, 1⟩
abbrev BANK_SEQ_STAT_OVERRUN (n : Nat) : Fld := ⟨0x50004 + 0x1000 * n, 8, 8⟩
abbrev BANK_SEQ_STAT_PASS_TIME (n : Nat) : Fld := ⟨0x50004 + 0x1000 * n, 16, 16⟩
abbrev BANK_PLAUS_CFG_TOL (n : Nat) : Fld := ⟨0x50008 + 0x1000 * n, 0, 8⟩
abbrev BANK_PLAUS_CFG_N (n : Nat) : Fld := ⟨0x50008 + 0x1000 * n, 8, 4⟩
abbrev BANK_DIRTY_CFG_SHORT_US (n : Nat) : Fld := ⟨0x5000C + 0x1000 * n, 0, 10⟩
abbrev BANK_DIRTY_CFG_LONG_US (n : Nat) : Fld := ⟨0x5000C + 0x1000 * n, 16, 10⟩
abbrev BANK_PLAUS_STAT_MISMATCH_CNT (n : Nat) : Fld := ⟨0x50010 + 0x1000 * n, 0, 16⟩
abbrev BANK_PLAUS_STAT_SKIP_CNT (n : Nat) : Fld := ⟨0x50010 + 0x1000 * n, 16, 8⟩
abbrev BANK_PLAUS_STAT_LAST_ENTRY (n : Nat) : Fld := ⟨0x50010 + 0x1000 * n, 24, 4⟩
abbrev BANK_PLAUS_STAT_LAST_FAIL (n : Nat) : Fld := ⟨0x50010 + 0x1000 * n, 28, 1⟩
abbrev BANK_PLAUS_DIFF_D (n : Nat) : Fld := ⟨0x50014 + 0x1000 * n, 0, 32⟩
abbrev BANK_MEAS_FLAGS_OVR (n : Nat) : Fld := ⟨0x50018 + 0x1000 * n, 0, 1⟩
abbrev BANK_MEAS_FLAGS_DIRTY (n : Nat) : Fld := ⟨0x50018 + 0x1000 * n, 1, 1⟩
abbrev BANK_MEAS_FLAGS_PLAUS_FAIL (n : Nat) : Fld := ⟨0x50018 + 0x1000 * n, 2, 1⟩
abbrev BANK_MEAS_FLAGS_CAL_DONE (n : Nat) : Fld := ⟨0x50018 + 0x1000 * n, 3, 1⟩
abbrev BANK_MEAS_FLAGS_CAL_ERR (n : Nat) : Fld := ⟨0x50018 + 0x1000 * n, 4, 1⟩
abbrev BANK_MEAS_FLAGS_EVT_EN (n : Nat) : Fld := ⟨0x50018 + 0x1000 * n, 16, 5⟩
abbrev BANK_SEQ_INPUT (n i : Nat) : Fld := ⟨0x50100 + 0x1000 * n + 0x4 * i, 0, 4⟩
abbrev BANK_SEQ_GAIN (n i : Nat) : Fld := ⟨0x50100 + 0x1000 * n + 0x4 * i, 4, 3⟩
abbrev BANK_SEQ_PL (n i : Nat) : Fld := ⟨0x50100 + 0x1000 * n + 0x4 * i, 7, 1⟩
abbrev BANK_SEQ_SMP (n i : Nat) : Fld := ⟨0x50100 + 0x1000 * n + 0x4 * i, 8, 8⟩
abbrev BANK_SEQ_UNIT (n i : Nat) : Fld := ⟨0x50100 + 0x1000 * n + 0x4 * i, 16, 4⟩
abbrev BANK_INJ_INPUT (n i : Nat) : Fld := ⟨0x50180 + 0x1000 * n + 0x4 * i, 0, 4⟩
abbrev BANK_INJ_GAIN (n i : Nat) : Fld := ⟨0x50180 + 0x1000 * n + 0x4 * i, 4, 3⟩
abbrev BANK_INJ_SMP (n i : Nat) : Fld := ⟨0x50180 + 0x1000 * n + 0x4 * i, 8, 8⟩
abbrev BANK_INJ_UNIT (n i : Nat) : Fld := ⟨0x50180 + 0x1000 * n + 0x4 * i, 16, 3⟩
abbrev BANK_INJ_TRIG (n i : Nat) : Fld := ⟨0x50180 + 0x1000 * n + 0x4 * i, 20, 4⟩
abbrev BANK_INJ_SRC (n i : Nat) : Fld := ⟨0x50180 + 0x1000 * n + 0x4 * i, 24, 3⟩
abbrev BANK_INJ_DLY_DELAY (n i : Nat) : Fld := ⟨0x501A0 + 0x1000 * n + 0x4 * i, 0, 16⟩
abbrev BANK_INJ_STAT_PENDING (n : Nat) : Fld := ⟨0x501C0 + 0x1000 * n, 0, 8⟩
abbrev BANK_INJ_STAT_LATE (n : Nat) : Fld := ⟨0x501C0 + 0x1000 * n, 8, 8⟩
abbrev BANK_INJ_STAT_LOST (n : Nat) : Fld := ⟨0x501C0 + 0x1000 * n, 16, 8⟩
abbrev BANK_INJ_TRIG_TRIG (n : Nat) : Fld := ⟨0x501C4 + 0x1000 * n, 0, 8⟩
abbrev BANK_INJ_TIMER_PERIOD_US (n : Nat) : Fld := ⟨0x501C8 + 0x1000 * n, 0, 20⟩
abbrev BANK_CAL_CTRL_START (n : Nat) : Fld := ⟨0x50200 + 0x1000 * n, 0, 1⟩
abbrev BANK_CAL_CTRL_QUEUED (n : Nat) : Fld := ⟨0x50200 + 0x1000 * n, 1, 1⟩
abbrev BANK_CAL_CTRL_BUSY (n : Nat) : Fld := ⟨0x50200 + 0x1000 * n, 2, 1⟩
abbrev BANK_CAL_CTRL_ERR_CODE (n : Nat) : Fld := ⟨0x50200 + 0x1000 * n, 4, 4⟩
abbrev BANK_CAL_CTRL_CAL_CNT (n : Nat) : Fld := ⟨0x50200 + 0x1000 * n, 16, 16⟩
abbrev BANK_CAL_CFG_AUTO_EN (n : Nat) : Fld := ⟨0x50204 + 0x1000 * n, 0, 1⟩
abbrev BANK_CAL_CFG_DT_K (n : Nat) : Fld := ⟨0x50204 + 0x1000 * n, 8, 8⟩
abbrev BANK_CAL_INFO_TEMP_AT_CAL (n : Nat) : Fld := ⟨0x50208 + 0x1000 * n, 0, 16⟩
abbrev BANK_CAL_INFO_AGE_MIN (n : Nat) : Fld := ⟨0x50208 + 0x1000 * n, 16, 16⟩
abbrev BANK_CAL_PLAN_INTERVAL_H (n : Nat) : Fld := ⟨0x5020C + 0x1000 * n, 0, 16⟩
abbrev BANK_P_OFFSET_OFFSET (n : Nat) : Fld := ⟨0x50210 + 0x1000 * n, 0, 24⟩
abbrev BANK_P_GAIN_GAIN (n i : Nat) : Fld := ⟨0x50214 + 0x1000 * n + 0x4 * i, 0, 24⟩
abbrev BANK_C_OFFSET_OFFSET (n : Nat) : Fld := ⟨0x50228 + 0x1000 * n, 0, 24⟩
abbrev BANK_C_GAIN_GAIN (n : Nat) : Fld := ⟨0x5022C + 0x1000 * n, 0, 24⟩
abbrev STAT_CFG_WIN_MODE (u : Nat) : Fld := ⟨0x60000 + 0x80 * u, 0, 2⟩
abbrev STAT_CFG_HIST_EN (u : Nat) : Fld := ⟨0x60000 + 0x80 * u, 2, 1⟩
abbrev STAT_CFG_EVT_EN (u : Nat) : Fld := ⟨0x60000 + 0x80 * u, 3, 1⟩
abbrev STAT_WIN_WIN_LEN (u : Nat) : Fld := ⟨0x60004 + 0x80 * u, 0, 24⟩
abbrev STAT_OWN_SEAT (u : Nat) : Fld := ⟨0x60008 + 0x80 * u, 0, 2⟩
abbrev STAT_CTRL_CLOSE (u : Nat) : Fld := ⟨0x6000C + 0x80 * u, 0, 1⟩
abbrev STAT_LIVE_N_NOW (u : Nat) : Fld := ⟨0x60010 + 0x80 * u, 0, 28⟩
abbrev STAT_LIVE_OPEN (u : Nat) : Fld := ⟨0x60010 + 0x80 * u, 28, 1⟩
abbrev STAT_HIST_HEAD (u : Nat) : Fld := ⟨0x60014 + 0x80 * u, 0, 6⟩
abbrev STAT_SRC_ENTRIES (u : Nat) : Fld := ⟨0x60018 + 0x80 * u, 0, 16⟩
abbrev STAT_SRC_INPUT (u : Nat) : Fld := ⟨0x60018 + 0x80 * u, 16, 4⟩
abbrev STAT_SRC_GAIN (u : Nat) : Fld := ⟨0x60018 + 0x80 * u, 20, 3⟩
abbrev STAT_SRC_INJ (u : Nat) : Fld := ⟨0x60018 + 0x80 * u, 23, 1⟩
abbrev SYS_MODE_MODE : Fld := ⟨0x200, 0, 3⟩
abbrev SYS_MODE_BANK_REC : Fld := ⟨0x200, 4, 4⟩
abbrev SYS_MODE_CMD_CMD : Fld := ⟨0x204, 0, 3⟩
abbrev SYS_MODE_CFG_MODE_SEATS : Fld := ⟨0x208, 0, 4⟩
abbrev SYS_RESET_INTENT_KEY : Fld := ⟨0x20C, 0, 16⟩
abbrev SYS_RESET_INTENT_DONE : Fld := ⟨0x20C, 16, 1⟩
abbrev BANK_SUP_CFG_UV_RESTORE (n : Nat) : Fld := ⟨0x50C00 + 0x1000 * n, 0, 1⟩
abbrev BANK_SUP_STAT_VF_MV (n : Nat) : Fld := ⟨0x50C04 + 0x1000 * n, 0, 16⟩
abbrev BANK_SUP_STAT_BAND (n : Nat) : Fld := ⟨0x50C04 + 0x1000 * n, 16, 3⟩
abbrev BANK_SUP_STAT_UV_LATCHED (n : Nat) : Fld := ⟨0x50C04 + 0x1000 * n, 19, 1⟩
abbrev BANK_SUP_STAT_RESTORING (n : Nat) : Fld := ⟨0x50C04 + 0x1000 * n, 20, 1⟩
abbrev BANK_SUP_CNT_VF_LOW_CNT (n : Nat) : Fld := ⟨0x50C08 + 0x1000 * n, 0, 8⟩
abbrev BANK_SUP_CNT_UV_OFF_CNT (n : Nat) : Fld := ⟨0x50C08 + 0x1000 * n, 8, 8⟩
abbrev BANK_SUP_CNT_FBR_CNT (n : Nat) : Fld := ⟨0x50C08 + 0x1000 * n, 16, 8⟩
abbrev BANK_SUP_MIN_VF_MIN_MV (n : Nat) : Fld := ⟨0x50C0C + 0x1000 * n, 0, 16⟩
abbrev BANK_SUP_MIN_CLR (n : Nat) : Fld := ⟨0x50C0C + 0x1000 * n, 31, 1⟩
abbrev BANK_RECOVERY_TIMEOUT_MS (n : Nat) : Fld := ⟨0x50C10 + 0x1000 * n, 0, 14⟩
abbrev BANK_MODE_MODE (n : Nat) : Fld := ⟨0x50C14 + 0x1000 * n, 0, 3⟩
abbrev BANK_MODE_REC_REQ (n : Nat) : Fld := ⟨0x50C14 + 0x1000 * n, 8, 1⟩
abbrev BANK_MODE_REC_END (n : Nat) : Fld := ⟨0x50C14 + 0x1000 * n, 9, 1⟩
abbrev FABRIC_DIGEST_HI_HI : Fld := ⟨0xE0000, 0, 32⟩
abbrev FABRIC_DIGEST_LO_LO : Fld := ⟨0xE0004, 0, 32⟩
abbrev FABRIC_STAT_ACTIVE_SLOT : Fld := ⟨0xE0008, 0, 1⟩
abbrev FABRIC_STAT_RECONCILE_PENDING : Fld := ⟨0xE0008, 1, 1⟩
abbrev FABRIC_STAT_TXN_SINCE_IMAGE : Fld := ⟨0xE0008, 2, 1⟩
abbrev FABRIC_STAT_NV_DIFFERS : Fld := ⟨0xE0008, 3, 1⟩
abbrev FABRIC_SLOT_VALID (i : Nat) : Fld := ⟨0xE0010 + 0x4 * i, 0, 1⟩
abbrev FABRIC_SLOT_CODE (i : Nat) : Fld := ⟨0xE0010 + 0x4 * i, 8, 8⟩
abbrev FABRIC_SLOT_ROLLBACK (i : Nat) : Fld := ⟨0xE0010 + 0x4 * i, 16, 7⟩
abbrev FABRIC_SLOT_FW_MAJOR (i : Nat) : Fld := ⟨0xE0010 + 0x4 * i, 24, 8⟩
abbrev FABRIC_SLOT_SEQ_SEQ (i : Nat) : Fld := ⟨0xE0018 + 0x4 * i, 0, 32⟩
abbrev FABRIC_SLOT_DIG_HI_HI (i : Nat) : Fld := ⟨0xE0020 + 0x8 * i, 0, 32⟩
abbrev FABRIC_SLOT_DIG_LO_LO (i : Nat) : Fld := ⟨0xE0024 + 0x8 * i, 0, 32⟩
abbrev FABRIC_LOAD_CTRL_START : Fld := ⟨0xE0040, 0, 1⟩
abbrev FABRIC_LOAD_CTRL_END : Fld := ⟨0xE0040, 1, 1⟩
abbrev FABRIC_LOAD_CTRL_CANCEL : Fld := ⟨0xE0040, 2, 1⟩
abbrev FABRIC_LOAD_CTRL_MODE : Fld := ⟨0xE0040, 4, 3⟩
abbrev FABRIC_LOAD_STAT_STATE : Fld := ⟨0xE0044, 0, 3⟩
abbrev FABRIC_LOAD_STAT_SEAT : Fld := ⟨0xE0044, 4, 2⟩
abbrev FABRIC_LOAD_STAT_CODE : Fld := ⟨0xE0044, 8, 8⟩
abbrev FABRIC_LOAD_STAT_FAIL_FRAME : Fld := ⟨0xE0044, 16, 16⟩
abbrev FABRIC_LOAD_FAIL_ADDR : Fld := ⟨0xE0048, 0, 32⟩
abbrev FABRIC_LOAD_BYTES_BYTES : Fld := ⟨0xE004C, 0, 19⟩
abbrev FABRIC_TXN_OPEN : Fld := ⟨0xE0080, 0, 1⟩
abbrev FABRIC_TXN_COMMIT : Fld := ⟨0xE0080, 1, 1⟩
abbrev FABRIC_TXN_ABORT : Fld := ⟨0xE0080, 2, 1⟩
abbrev FABRIC_TXN_STAGED_OK : Fld := ⟨0xE0080, 3, 1⟩
abbrev FABRIC_TXN_CHECK : Fld := ⟨0xE0080, 4, 1⟩
abbrev FABRIC_TXN_STAT_STATE : Fld := ⟨0xE0084, 0, 3⟩
abbrev FABRIC_TXN_STAT_STAGED : Fld := ⟨0xE0084, 3, 1⟩
abbrev FABRIC_TXN_STAT_LOG_FULL : Fld := ⟨0xE0084, 4, 1⟩
abbrev FABRIC_TXN_STAT_CODE : Fld := ⟨0xE0084, 8, 8⟩
abbrev FABRIC_TXN_STAT_ID : Fld := ⟨0xE0084, 16, 16⟩
abbrev FABRIC_TXN_COUNT_N : Fld := ⟨0xE0088, 0, 10⟩
abbrev FABRIC_TXN_FAIL_ADDR : Fld := ⟨0xE008C, 0, 32⟩
abbrev FABRIC_LOAD_DATA_DATA (i : Nat) : Fld := ⟨0xE0100 + 0x4 * i, 0, 32⟩
abbrev FABRIC_TXN_LOG_STEP (i : Nat) : Fld := ⟨0xE0200 + 0x4 * i, 0, 4⟩
abbrev FABRIC_TXN_LOG_LATE (i : Nat) : Fld := ⟨0xE0200 + 0x4 * i, 4, 1⟩
abbrev FABRIC_TXN_LOG_TARGET (i : Nat) : Fld := ⟨0xE0200 + 0x4 * i, 8, 8⟩
abbrev FABRIC_TXN_LOG_T_US (i : Nat) : Fld := ⟨0xE0200 + 0x4 * i, 16, 16⟩
abbrev FABRIC_TXN_BUF_ADDR_ADDR (i : Nat) : Fld := ⟨0xE1000 + 0x8 * i, 0, 32⟩
abbrev FABRIC_TXN_BUF_VAL_VAL (i : Nat) : Fld := ⟨0xE1004 + 0x8 * i, 0, 32⟩
abbrev SEAT_CFG_TIMEOUT_MS (s : Nat) : Fld := ⟨0x20000 + 0x100 * s, 0, 14⟩
abbrev SEAT_CFG_REFRESH_MODE (s : Nat) : Fld := ⟨0x20000 + 0x100 * s, 16, 2⟩
abbrev SEAT_CFG_FW_EN (s : Nat) : Fld := ⟨0x20000 + 0x100 * s, 20, 1⟩
abbrev SEAT_REFRESH_ANY (s : Nat) : Fld := ⟨0x20004 + 0x100 * s, 0, 32⟩
abbrev SEAT_STAT_TIMED_OUT (s : Nat) : Fld := ⟨0x20008 + 0x100 * s, 0, 1⟩
abbrev SEAT_STAT_TIMEOUTS (s : Nat) : Fld := ⟨0x20008 + 0x100 * s, 8, 8⟩
abbrev SEAT_STAT_SINCE_MS (s : Nat) : Fld := ⟨0x20008 + 0x100 * s, 16, 16⟩
abbrev SEAT_FRAMES_OK (s : Nat) : Fld := ⟨0x2000C + 0x100 * s, 0, 32⟩
abbrev SEAT_ERRS_CRC_ERR (s : Nat) : Fld := ⟨0x20010 + 0x100 * s, 0, 8⟩
abbrev SEAT_ERRS_FRAME_ERR (s : Nat) : Fld := ⟨0x20010 + 0x100 * s, 8, 8⟩
abbrev SEAT_ERRS_REFUSED (s : Nat) : Fld := ⟨0x20010 + 0x100 * s, 16, 16⟩
abbrev SEAT_LAST_REF_CODE (s : Nat) : Fld := ⟨0x20014 + 0x100 * s, 0, 7⟩
abbrev SEAT_LAST_REF_WRITE (s : Nat) : Fld := ⟨0x20014 + 0x100 * s, 7, 1⟩
abbrev SEAT_LAST_REF_ADDR_ADDR (s : Nat) : Fld := ⟨0x20018 + 0x100 * s, 0, 32⟩
abbrev SEAT_FW_BASE_EN (s i : Nat) : Fld := ⟨0x20020 + 0x100 * s + 0x8 * i, 0, 1⟩
abbrev SEAT_FW_BASE_PERM (s i : Nat) : Fld := ⟨0x20020 + 0x100 * s + 0x8 * i, 1, 2⟩
abbrev SEAT_FW_BASE_BASE (s i : Nat) : Fld := ⟨0x20020 + 0x100 * s + 0x8 * i, 6, 26⟩
abbrev SEAT_FW_LIMIT_LIMIT (s i : Nat) : Fld := ⟨0x20024 + 0x100 * s + 0x8 * i, 6, 26⟩
abbrev EVT_PEND_LO_LINE (s : Nat) : Fld := ⟨0x30000 + 0x100 * s, 0, 32⟩
abbrev EVT_PEND_HI_SNAP_BANK (s : Nat) : Fld := ⟨0x30004 + 0x100 * s, 0, 4⟩
abbrev EVT_PEND_HI_LINE (s : Nat) : Fld := ⟨0x30004 + 0x100 * s, 4, 23⟩
abbrev EVT_EN_LO_EN (s : Nat) : Fld := ⟨0x30008 + 0x100 * s, 0, 32⟩
abbrev EVT_EN_HI_EN (s : Nat) : Fld := ⟨0x3000C + 0x100 * s, 0, 27⟩
abbrev EVT_ROUTE_ROUTE_0 (s i : Nat) : Fld := ⟨0x30010 + 0x100 * s + 0x4 * i, 0, 2⟩
abbrev EVT_ROUTE_ROUTE_1 (s i : Nat) : Fld := ⟨0x30010 + 0x100 * s + 0x4 * i, 2, 2⟩
abbrev EVT_ROUTE_ROUTE_2 (s i : Nat) : Fld := ⟨0x30010 + 0x100 * s + 0x4 * i, 4, 2⟩
abbrev EVT_ROUTE_ROUTE_3 (s i : Nat) : Fld := ⟨0x30010 + 0x100 * s + 0x4 * i, 6, 2⟩
abbrev EVT_ROUTE_ROUTE_4 (s i : Nat) : Fld := ⟨0x30010 + 0x100 * s + 0x4 * i, 8, 2⟩
abbrev EVT_ROUTE_ROUTE_5 (s i : Nat) : Fld := ⟨0x30010 + 0x100 * s + 0x4 * i, 10, 2⟩
abbrev EVT_ROUTE_ROUTE_6 (s i : Nat) : Fld := ⟨0x30010 + 0x100 * s + 0x4 * i, 12, 2⟩
abbrev EVT_ROUTE_ROUTE_7 (s i : Nat) : Fld := ⟨0x30010 + 0x100 * s + 0x4 * i, 14, 2⟩
abbrev EVT_ROUTE_ROUTE_8 (s i : Nat) : Fld := ⟨0x30010 + 0x100 * s + 0x4 * i, 16, 2⟩
abbrev EVT_ROUTE_ROUTE_9 (s i : Nat) : Fld := ⟨0x30010 + 0x100 * s + 0x4 * i, 18, 2⟩
abbrev EVT_ROUTE_ROUTE_10 (s i : Nat) : Fld := ⟨0x30010 + 0x100 * s + 0x4 * i, 20, 2⟩
abbrev EVT_ROUTE_ROUTE_11 (s i : Nat) : Fld := ⟨0x30010 + 0x100 * s + 0x4 * i, 22, 2⟩
abbrev EVT_ROUTE_ROUTE_12 (s i : Nat) : Fld := ⟨0x30010 + 0x100 * s + 0x4 * i, 24, 2⟩
abbrev EVT_ROUTE_ROUTE_13 (s i : Nat) : Fld := ⟨0x30010 + 0x100 * s + 0x4 * i, 26, 2⟩
abbrev EVT_ROUTE_ROUTE_14 (s i : Nat) : Fld := ⟨0x30010 + 0x100 * s + 0x4 * i, 28, 2⟩
abbrev EVT_ROUTE_ROUTE_15 (s i : Nat) : Fld := ⟨0x30010 + 0x100 * s + 0x4 * i, 30, 2⟩
abbrev EVT_SNAP_UNIT (s i : Nat) : Fld := ⟨0x30020 + 0x100 * s + 0x4 * i, 0, 32⟩
abbrev EVT_ATTN_ANY (s : Nat) : Fld := ⟨0x3002C + 0x100 * s, 0, 1⟩
abbrev EVT_ATTN_IRQ0 (s : Nat) : Fld := ⟨0x3002C + 0x100 * s, 1, 1⟩
abbrev EVT_ATTN_IRQ1 (s : Nat) : Fld := ⟨0x3002C + 0x100 * s, 2, 1⟩
abbrev EVT_PIN_CFG_IRQ0_PP : Fld := ⟨0x30800, 0, 1⟩
abbrev EVT_PIN_CFG_IRQ1_PP : Fld := ⟨0x30800, 1, 1⟩
abbrev EVT_FAULT_EN_EN : Fld := ⟨0x30804, 0, 9⟩
abbrev EVT_FAULT_SRC_SRC : Fld := ⟨0x30808, 0, 9⟩
abbrev EVT_FAULT_SRC_FORCED : Fld := ⟨0x30808, 16, 1⟩
abbrev EVT_FAULT_CLR_ECC : Fld := ⟨0x3080C, 4, 1⟩
abbrev DMA_CTRL_START (c : Nat) : Fld := ⟨0xC0000 + 0x20 * c, 0, 1⟩
abbrev DMA_CTRL_STOP (c : Nat) : Fld := ⟨0xC0000 + 0x20 * c, 1, 1⟩
abbrev DMA_CTRL_REARM (c : Nat) : Fld := ⟨0xC0000 + 0x20 * c, 2, 1⟩
abbrev DMA_CTRL_TRIG (c : Nat) : Fld := ⟨0xC0000 + 0x20 * c, 4, 4⟩
abbrev DMA_CTRL_LINE (c : Nat) : Fld := ⟨0xC0000 + 0x20 * c, 8, 6⟩
abbrev DMA_DESC_ADDR (c : Nat) : Fld := ⟨0xC0004 + 0x20 * c, 0, 32⟩
abbrev DMA_STAT_BUSY (c : Nat) : Fld := ⟨0xC0008 + 0x20 * c, 0, 1⟩
abbrev DMA_STAT_PREEMPTED (c : Nat) : Fld := ⟨0xC0008 + 0x20 * c, 1, 1⟩
abbrev DMA_STAT_ENABLED (c : Nat) : Fld := ⟨0xC0008 + 0x20 * c, 2, 1⟩
abbrev DMA_STAT_FAULT (c : Nat) : Fld := ⟨0xC0008 + 0x20 * c, 3, 1⟩
abbrev DMA_STAT_CAUSE (c : Nat) : Fld := ⟨0xC0008 + 0x20 * c, 4, 4⟩
abbrev DMA_STAT_TORN (c : Nat) : Fld := ⟨0xC0008 + 0x20 * c, 8, 1⟩
abbrev DMA_STAT_MISSED (c : Nat) : Fld := ⟨0xC0008 + 0x20 * c, 9, 7⟩
abbrev DMA_STAT_RUNS (c : Nat) : Fld := ⟨0xC0008 + 0x20 * c, 16, 16⟩
abbrev DMA_CUR_ADDR (c : Nat) : Fld := ⟨0xC000C + 0x20 * c, 0, 32⟩
abbrev DMA_BYTES_DONE (c : Nat) : Fld := ⟨0xC0010 + 0x20 * c, 0, 20⟩
abbrev DMA_OWN_OWNER (c : Nat) : Fld := ⟨0xC0014 + 0x20 * c, 0, 5⟩
abbrev MPU_BASE_EN (e i : Nat) : Fld := ⟨0xC0800 + 0x100 * e + 0x8 * i, 0, 1⟩
abbrev MPU_BASE_BASE (e i : Nat) : Fld := ⟨0xC0800 + 0x100 * e + 0x8 * i, 5, 27⟩
abbrev MPU_ATTR_R (e i : Nat) : Fld := ⟨0xC0804 + 0x100 * e + 0x8 * i, 0, 1⟩
abbrev MPU_ATTR_W (e i : Nat) : Fld := ⟨0xC0804 + 0x100 * e + 0x8 * i, 1, 1⟩
abbrev MPU_ATTR_X (e i : Nat) : Fld := ⟨0xC0804 + 0x100 * e + 0x8 * i, 2, 1⟩
abbrev MPU_ATTR_PRIV (e i : Nat) : Fld := ⟨0xC0804 + 0x100 * e + 0x8 * i, 3, 1⟩
abbrev MPU_ATTR_LIMIT (e i : Nat) : Fld := ⟨0xC0804 + 0x100 * e + 0x8 * i, 5, 27⟩
abbrev MPU_FAULT_CNT_CNT (e : Nat) : Fld := ⟨0xC0880 + 0x100 * e, 0, 16⟩
abbrev MPU_FAULT_ADDR_ADDR (e : Nat) : Fld := ⟨0xC0884 + 0x100 * e, 0, 32⟩
abbrev MPU_FAULT_INFO_KIND (e : Nat) : Fld := ⟨0xC0888 + 0x100 * e, 0, 2⟩
abbrev MPU_FAULT_INFO_PRIV (e : Nat) : Fld := ⟨0xC0888 + 0x100 * e, 2, 1⟩
abbrev MPU_FAULT_INFO_VALID (e : Nat) : Fld := ⟨0xC0888 + 0x100 * e, 3, 1⟩
abbrev RNT_UID_LO_UID_LO (k : Nat) : Fld := ⟨0x100000 + 0x20 * k, 0, 32⟩
abbrev RNT_UID_HI_UID_HI (k : Nat) : Fld := ⟨0x100004 + 0x20 * k, 0, 32⟩
abbrev RNT_EXP_HI_DIGEST_HI (k : Nat) : Fld := ⟨0x100008 + 0x20 * k, 0, 32⟩
abbrev RNT_EXP_LO_DIGEST_LO (k : Nat) : Fld := ⟨0x10000C + 0x20 * k, 0, 32⟩
abbrev RNT_CTRL_IN_USE (k : Nat) : Fld := ⟨0x100010 + 0x20 * k, 0, 1⟩
abbrev RNT_CTRL_COMPAT (k : Nat) : Fld := ⟨0x100010 + 0x20 * k, 1, 1⟩
abbrev RNT_CTRL_BIND_ANY (k : Nat) : Fld := ⟨0x100010 + 0x20 * k, 2, 1⟩
abbrev RNT_CTRL_NPTS (k : Nat) : Fld := ⟨0x100010 + 0x20 * k, 8, 7⟩
abbrev RNT_CTRL_OWNER (k : Nat) : Fld := ⟨0x100010 + 0x20 * k, 16, 2⟩
abbrev RNT_CTRL_EXP_FW_MAJOR (k : Nat) : Fld := ⟨0x100010 + 0x20 * k, 24, 8⟩
abbrev RNT_STATUS_NSTATE (k : Nat) : Fld := ⟨0x100014 + 0x20 * k, 0, 3⟩
abbrev RNT_STATUS_UNSYNC (k : Nat) : Fld := ⟨0x100014 + 0x20 * k, 3, 1⟩
abbrev RNT_STATUS_CLAIM_LOW (k : Nat) : Fld := ⟨0x100014 + 0x20 * k, 4, 1⟩
abbrev RNT_STATUS_BYPASSED (k : Nat) : Fld := ⟨0x100014 + 0x20 * k, 5, 1⟩
abbrev RNT_STATUS_WRAP (k : Nat) : Fld := ⟨0x100014 + 0x20 * k, 6, 1⟩
abbrev RNT_STATUS_TXN (k : Nat) : Fld := ⟨0x100014 + 0x20 * k, 7, 1⟩
abbrev RNT_STATUS_FW_MAJOR (k : Nat) : Fld := ⟨0x100014 + 0x20 * k, 8, 8⟩
abbrev RNT_STATUS_FW_MINOR (k : Nat) : Fld := ⟨0x100014 + 0x20 * k, 16, 8⟩
abbrev RNT_STATUS_WHY (k : Nat) : Fld := ⟨0x100014 + 0x20 * k, 24, 4⟩
abbrev RNT_CLAIM_VIEW_CLAIM (k : Nat) : Fld := ⟨0x100018 + 0x20 * k, 0, 32⟩
abbrev RNT_LINK_DELAY (k : Nat) : Fld := ⟨0x10001C + 0x20 * k, 0, 16⟩
abbrev RNT_LINK_TYPE (k : Nat) : Fld := ⟨0x10001C + 0x20 * k, 16, 8⟩
abbrev RNT_LINK_ERRS (k : Nat) : Fld := ⟨0x10001C + 0x20 * k, 24, 8⟩
abbrev RING_CFG_ROLE : Fld := ⟨0x80000, 0, 2⟩
abbrev RING_CFG_COMPAT : Fld := ⟨0x80000, 2, 1⟩
abbrev RING_CFG_SVC_PAY : Fld := ⟨0x80000, 8, 11⟩
abbrev RING_CFG_JOIN_EVERY : Fld := ⟨0x80000, 24, 8⟩
abbrev RING_CYCLE_CYCLE_T : Fld := ⟨0x80004, 0, 22⟩
abbrev RING_CTRL_RUN : Fld := ⟨0x80008, 0, 1⟩
abbrev RING_STAT_ROLE : Fld := ⟨0x8000C, 0, 2⟩
abbrev RING_STAT_STATE : Fld := ⟨0x8000C, 2, 3⟩
abbrev RING_STAT_DUAL : Fld := ⟨0x8000C, 5, 1⟩
abbrev RING_STAT_UNSYNC : Fld := ⟨0x8000C, 6, 1⟩
abbrev RING_STAT_PRESENT : Fld := ⟨0x8000C, 16, 11⟩
abbrev RING_CYCLE_NO_CYCLE_NO : Fld := ⟨0x80010, 0, 32⟩
abbrev RING_T_FRAME_NS : Fld := ⟨0x80014, 0, 32⟩
abbrev RING_LOOP_NS : Fld := ⟨0x80018, 0, 32⟩
abbrev RING_MARGIN_NS : Fld := ⟨0x8001C, 0, 32⟩
abbrev RING_WRAP_MARGIN_NS : Fld := ⟨0x80020, 0, 32⟩
abbrev RING_TIME_LO_T : Fld := ⟨0x80024, 0, 32⟩
abbrev RING_TIME_HI_T : Fld := ⟨0x80028, 0, 32⟩
abbrev RING_TIME_SET_LO_T : Fld := ⟨0x8002C, 0, 32⟩
abbrev RING_TIME_SET_HI_T : Fld := ⟨0x80030, 0, 32⟩
abbrev RING_TIME_ADJ_PPM : Fld := ⟨0x80034, 0, 17⟩
abbrev RING_SYNC_ERR_NS : Fld := ⟨0x80038, 0, 32⟩
abbrev RING_DELAY_P_NS : Fld := ⟨0x8003C, 0, 32⟩
abbrev RING_DELAY_S_NS : Fld := ⟨0x80040, 0, 32⟩
abbrev RING_CLAIM_CLAIM : Fld := ⟨0x80044, 0, 32⟩
abbrev RING_CLAIM_CLR_KEY : Fld := ⟨0x80048, 0, 16⟩
abbrev RING_NODE_ADDR : Fld := ⟨0x8004C, 0, 11⟩
abbrev RING_NODE_MISMATCH : Fld := ⟨0x8004C, 11, 1⟩
abbrev RING_NODE_OUT_REFUSED : Fld := ⟨0x8004C, 16, 16⟩
abbrev RING_EVT_EVT : Fld := ⟨0x80050, 0, 13⟩
abbrev RING_EVT_EN_EN : Fld := ⟨0x80054, 0, 13⟩
abbrev RING_PORT_STAT_LOCK (i : Nat) : Fld := ⟨0x80080 + 0x20 * i, 0, 1⟩
abbrev RING_PORT_STAT_UP (i : Nat) : Fld := ⟨0x80080 + 0x20 * i, 1, 1⟩
abbrev RING_PORT_STAT_POL_INV (i : Nat) : Fld := ⟨0x80080 + 0x20 * i, 2, 1⟩
abbrev RING_PORT_STAT_WRAPPING (i : Nat) : Fld := ⟨0x80080 + 0x20 * i, 3, 1⟩
abbrev RING_PORT_STAT_TX_OFF (i : Nat) : Fld := ⟨0x80080 + 0x20 * i, 4, 1⟩
abbrev RING_PORT_STAT_EQ (i : Nat) : Fld := ⟨0x80080 + 0x20 * i, 8, 8⟩
abbrev RING_PORT_STAT_EYE (i : Nat) : Fld := ⟨0x80080 + 0x20 * i, 16, 8⟩
abbrev RING_SYM_ERR_CNT (i : Nat) : Fld := ⟨0x80084 + 0x20 * i, 0, 32⟩
abbrev RING_CRC_ERR_HDR (i : Nat) : Fld := ⟨0x80088 + 0x20 * i, 0, 16⟩
abbrev RING_CRC_ERR_SECT (i : Nat) : Fld := ⟨0x80088 + 0x20 * i, 16, 16⟩
abbrev RING_DOWN_CNT (i : Nat) : Fld := ⟨0x8008C + 0x20 * i, 0, 16⟩
abbrev RING_CMD_CTRL_START : Fld := ⟨0x80100, 0, 1⟩
abbrev RING_CMD_CTRL_ABORT : Fld := ⟨0x80100, 1, 1⟩
abbrev RING_CMD_NODE_ADDR : Fld := ⟨0x80104, 0, 11⟩
abbrev RING_CMD_REQ_OFS : Fld := ⟨0x80108, 0, 16⟩
abbrev RING_CMD_REQ_LEN : Fld := ⟨0x80108, 16, 11⟩
abbrev RING_CMD_RSP_OFS : Fld := ⟨0x8010C, 0, 16⟩
abbrev RING_CMD_RSP_LEN : Fld := ⟨0x8010C, 16, 11⟩
abbrev RING_CMD_STAT_STATE : Fld := ⟨0x80110, 0, 3⟩
abbrev RING_CMD_STAT_CODE : Fld := ⟨0x80110, 8, 8⟩
abbrev RING_CMD_STAT_TAG : Fld := ⟨0x80110, 16, 16⟩
abbrev RING_CMD_TMO_CYCLES : Fld := ⟨0x80114, 0, 16⟩
abbrev RING_SCHED_CTRL_CH (i : Nat) : Fld := ⟨0x80200 + 0x10 * i, 0, 5⟩
abbrev RING_SCHED_CTRL_ARM (i : Nat) : Fld := ⟨0x80200 + 0x10 * i, 5, 1⟩
abbrev RING_SCHED_CTRL_CANCEL (i : Nat) : Fld := ⟨0x80200 + 0x10 * i, 6, 1⟩
abbrev RING_SCHED_CTRL_DONE (i : Nat) : Fld := ⟨0x80200 + 0x10 * i, 7, 1⟩
abbrev RING_SCHED_CTRL_LATE (i : Nat) : Fld := ⟨0x80200 + 0x10 * i, 8, 1⟩
abbrev RING_SCHED_CTRL_ERR (i : Nat) : Fld := ⟨0x80200 + 0x10 * i, 9, 1⟩
abbrev RING_SCHED_CTRL_SEAT (i : Nat) : Fld := ⟨0x80200 + 0x10 * i, 10, 2⟩
abbrev RING_SCHED_VAL_VALUE (i : Nat) : Fld := ⟨0x80204 + 0x10 * i, 0, 16⟩
abbrev RING_SCHED_T_LO_T (i : Nat) : Fld := ⟨0x80208 + 0x10 * i, 0, 32⟩
abbrev RING_SCHED_T_HI_T (i : Nat) : Fld := ⟨0x8020C + 0x10 * i, 0, 32⟩
abbrev PAIR_CFG_EN : Fld := ⟨0x90000, 0, 1⟩
abbrev PAIR_CFG_BANKS : Fld := ⟨0x90000, 4, 4⟩
abbrev PAIR_CFG_AUTO_MERGE : Fld := ⟨0x90000, 8, 1⟩
abbrev PAIR_CFG_HOLD_MAX_MS : Fld := ⟨0x90000, 16, 13⟩
abbrev PAIR_STAT_ROLE : Fld := ⟨0x90004, 0, 2⟩
abbrev PAIR_STAT_LINK_UP : Fld := ⟨0x90004, 2, 1⟩
abbrev PAIR_STAT_READY : Fld := ⟨0x90004, 3, 1⟩
abbrev PAIR_STAT_DEGRADED : Fld := ⟨0x90004, 4, 1⟩
abbrev PAIR_STAT_SPLIT : Fld := ⟨0x90004, 5, 1⟩
abbrev PAIR_STAT_SNAP_SLOW : Fld := ⟨0x90004, 6, 1⟩
abbrev PAIR_STAT_DIGEST_DIFF : Fld := ⟨0x90004, 7, 1⟩
abbrev PAIR_STAT_PRIO : Fld := ⟨0x90004, 8, 3⟩
abbrev PAIR_STAT_PARTNER_PRIO : Fld := ⟨0x90004, 12, 3⟩
abbrev PAIR_OWN_LINE_0 : Fld := ⟨0x90008, 0, 2⟩
abbrev PAIR_OWN_LINE_1 : Fld := ⟨0x90008, 8, 2⟩
abbrev PAIR_OWN_LINE_2 : Fld := ⟨0x90008, 16, 2⟩
abbrev PAIR_OWN_LINE_3 : Fld := ⟨0x90008, 24, 2⟩
abbrev PAIR_OWN_HELD_0 : Fld := ⟨0x90008, 2, 1⟩
abbrev PAIR_OWN_HELD_1 : Fld := ⟨0x90008, 10, 1⟩
abbrev PAIR_OWN_HELD_2 : Fld := ⟨0x90008, 18, 1⟩
abbrev PAIR_OWN_HELD_3 : Fld := ⟨0x90008, 26, 1⟩
abbrev PAIR_OWN_PARTNER_SEEN_0 : Fld := ⟨0x90008, 3, 1⟩
abbrev PAIR_OWN_PARTNER_SEEN_1 : Fld := ⟨0x90008, 11, 1⟩
abbrev PAIR_OWN_PARTNER_SEEN_2 : Fld := ⟨0x90008, 19, 1⟩
abbrev PAIR_OWN_PARTNER_SEEN_3 : Fld := ⟨0x90008, 27, 1⟩
abbrev PAIR_OWN_TAKE_REQ_IN_0 : Fld := ⟨0x90008, 4, 1⟩
abbrev PAIR_OWN_TAKE_REQ_IN_1 : Fld := ⟨0x90008, 12, 1⟩
abbrev PAIR_OWN_TAKE_REQ_IN_2 : Fld := ⟨0x90008, 20, 1⟩
abbrev PAIR_OWN_TAKE_REQ_IN_3 : Fld := ⟨0x90008, 28, 1⟩
abbrev PAIR_OWN_TAKE_REQ_OUT_0 : Fld := ⟨0x90008, 5, 1⟩
abbrev PAIR_OWN_TAKE_REQ_OUT_1 : Fld := ⟨0x90008, 13, 1⟩
abbrev PAIR_OWN_TAKE_REQ_OUT_2 : Fld := ⟨0x90008, 21, 1⟩
abbrev PAIR_OWN_TAKE_REQ_OUT_3 : Fld := ⟨0x90008, 29, 1⟩
abbrev PAIR_OWN_CLAMP_0 : Fld := ⟨0x90008, 6, 1⟩
abbrev PAIR_OWN_CLAMP_1 : Fld := ⟨0x90008, 14, 1⟩
abbrev PAIR_OWN_CLAMP_2 : Fld := ⟨0x90008, 22, 1⟩
abbrev PAIR_OWN_CLAMP_3 : Fld := ⟨0x90008, 30, 1⟩
abbrev PAIR_OWN_LINE_FAULT_0 : Fld := ⟨0x90008, 7, 1⟩
abbrev PAIR_OWN_LINE_FAULT_1 : Fld := ⟨0x90008, 15, 1⟩
abbrev PAIR_OWN_LINE_FAULT_2 : Fld := ⟨0x90008, 23, 1⟩
abbrev PAIR_OWN_LINE_FAULT_3 : Fld := ⟨0x90008, 31, 1⟩
abbrev PAIR_CLAIM_CLAIM : Fld := ⟨0x9000C, 0, 32⟩
abbrev PAIR_PARTNER_CLAIM_CLAIM : Fld := ⟨0x90010, 0, 32⟩
abbrev PAIR_SNAP_SEQ_SEQ : Fld := ⟨0x90014, 0, 32⟩
abbrev PAIR_SNAP_AGE_US : Fld := ⟨0x90018, 0, 32⟩
abbrev PAIR_TAKEOVER_AGE_US : Fld := ⟨0x9001C, 0, 32⟩
abbrev PAIR_TAKEOVER_INFO_CAUSE : Fld := ⟨0x90020, 0, 4⟩
abbrev PAIR_TAKEOVER_INFO_BANKS : Fld := ⟨0x90020, 4, 4⟩
abbrev PAIR_TAKEOVER_INFO_COUNT : Fld := ⟨0x90020, 16, 16⟩
abbrev PAIR_HANDOVER_KEY : Fld := ⟨0x90024, 0, 16⟩
abbrev PAIR_HANDOVER_STATE : Fld := ⟨0x90024, 16, 3⟩
abbrev PAIR_HANDOVER_CODE : Fld := ⟨0x90024, 20, 4⟩
abbrev PAIR_EVT_EVT : Fld := ⟨0x90028, 0, 12⟩
abbrev PAIR_EVT_EN_EN : Fld := ⟨0x9002C, 0, 12⟩
abbrev PAIR_LINK_ERR_CRC_ERR : Fld := ⟨0x90030, 0, 16⟩
abbrev PAIR_LINK_ERR_HB_LOST : Fld := ⟨0x90030, 16, 8⟩
abbrev PAIR_LINK_ERR_SNAP_TORN : Fld := ⟨0x90030, 24, 8⟩
abbrev PAIR_TIME_ALIGN_NS : Fld := ⟨0x90034, 0, 16⟩
abbrev PAIR_BEACON_WORD (i : Nat) : Fld := ⟨0x90040 + 0x4 * i, 0, 32⟩
abbrev WDG_OPEN_US : Fld := ⟨0x10000, 0, 24⟩
abbrev WDG_TIMEOUT_US : Fld := ⟨0x10004, 0, 24⟩
abbrev WDG_CFG_SERVICER : Fld := ⟨0x10008, 0, 3⟩
abbrev WDG_KEY_A_KEY : Fld := ⟨0x1000C, 0, 16⟩
abbrev WDG_KEY_B_KEY : Fld := ⟨0x10010, 0, 16⟩
abbrev WDG_STAT_ARMED : Fld := ⟨0x10014, 0, 1⟩
abbrev WDG_STAT_WINDOW_OPEN : Fld := ⟨0x10014, 1, 1⟩
abbrev WDG_STAT_BOOT_VALUES : Fld := ⟨0x10014, 2, 1⟩
abbrev WDG_STAT_PENDING : Fld := ⟨0x10014, 3, 1⟩
abbrev WDG_STAT_SERVICES : Fld := ⟨0x10014, 16, 16⟩
abbrev WDG_COUNT_US : Fld := ⟨0x10018, 0, 24⟩
abbrev WDG_STRAY_CNT : Fld := ⟨0x1001C, 0, 16⟩
abbrev WDG_FAIL_CAUSE : Fld := ⟨0x10020, 0, 4⟩
abbrev WDG_FAIL_COUNT_AT : Fld := ⟨0x10020, 8, 24⟩
abbrev CLKMON_STAT_SOURCE : Fld := ⟨0x10100, 0, 1⟩
abbrev CLKMON_STAT_XTAL_OK : Fld := ⟨0x10100, 1, 1⟩
abbrev CLKMON_STAT_PLL_LOCK : Fld := ⟨0x10100, 2, 1⟩
abbrev CLKMON_STAT_MON_FAIL : Fld := ⟨0x10100, 3, 1⟩
abbrev CLKMON_STAT_SSC_ON : Fld := ⟨0x10100, 4, 1⟩
abbrev CLKMON_STAT_SWITCHES : Fld := ⟨0x10100, 8, 8⟩
abbrev CLKMON_STAT_DEV : Fld := ⟨0x10100, 16, 8⟩
abbrev CLKMON_CTRL_RESTORE : Fld := ⟨0x10104, 0, 1⟩
abbrev CLKMON_CFG_SSC_EN : Fld := ⟨0x10108, 0, 1⟩
abbrev SYS_RESET_CAUSE_CLASS : Fld := ⟨0x100, 0, 3⟩
abbrev SYS_RESET_CAUSE_SUB : Fld := ⟨0x100, 4, 4⟩
abbrev SYS_RESET_CAUSE_AON_LOST : Fld := ⟨0x100, 8, 1⟩
abbrev SYS_RESET_CAUSE_GRACE : Fld := ⟨0x100, 9, 1⟩
abbrev SYS_RESET_CAUSE_GRACE_US : Fld := ⟨0x100, 16, 16⟩
abbrev SYS_RESET_HIST_CLASS_0 : Fld := ⟨0x104, 0, 3⟩
abbrev SYS_RESET_HIST_CLASS_1 : Fld := ⟨0x104, 4, 3⟩
abbrev SYS_RESET_HIST_CLASS_2 : Fld := ⟨0x104, 8, 3⟩
abbrev SYS_RESET_HIST_CLASS_3 : Fld := ⟨0x104, 12, 3⟩
abbrev SYS_BOOT_OK_OK : Fld := ⟨0x108, 0, 1⟩
abbrev SYS_BOOT_OK_BOOT_MS : Fld := ⟨0x108, 16, 16⟩
abbrev SYS_BOOT_STAT_FAIL_CNT : Fld := ⟨0x10C, 0, 2⟩
abbrev SYS_BOOT_STAT_LAST_STEP : Fld := ⟨0x10C, 4, 4⟩
abbrev SYS_BOOT_STAT_BOOT_SEL : Fld := ⟨0x10C, 8, 1⟩
abbrev SYS_BOOT_STAT_BOOTS : Fld := ⟨0x10C, 16, 16⟩
abbrev SYS_VOTIVE_CAUSE_CAUSE : Fld := ⟨0x110, 0, 8⟩
abbrev SYS_VOTIVE_CAUSE_DETAIL : Fld := ⟨0x110, 8, 8⟩
abbrev SYS_RESET_CMD_KEY : Fld := ⟨0x114, 0, 16⟩
abbrev SYS_BOOT_RETRY_KEY : Fld := ⟨0x118, 0, 16⟩
abbrev SYS_PWR_CMD_CMD : Fld := ⟨0x300, 0, 2⟩
abbrev SYS_PWR_STAT_STATE : Fld := ⟨0x304, 0, 2⟩
abbrev SYS_PWR_STAT_CHANGING : Fld := ⟨0x304, 2, 1⟩
abbrev SYS_PWR_STAT_REFUSE : Fld := ⟨0x304, 4, 4⟩
abbrev SYS_PWR_STAT_WAKE_SRC : Fld := ⟨0x304, 8, 8⟩
abbrev SYS_PWR_STAT_WAKE_FRAMES : Fld := ⟨0x304, 16, 16⟩
abbrev SYS_PWR_WAKE_CELLS : Fld := ⟨0x308, 0, 32⟩
abbrev SYS_PWR_CFG_LINK_WAKE : Fld := ⟨0x30C, 0, 1⟩
abbrev SYS_PWR_CFG_VF_WAKE : Fld := ⟨0x30C, 1, 1⟩
abbrev SYS_PWR_CFG_WDG_RESLEEP : Fld := ⟨0x30C, 2, 1⟩
abbrev CANDLE_CTRL_FOLD : Fld := ⟨0xA0000, 0, 1⟩
abbrev CANDLE_CTRL_ALARM_PCT : Fld := ⟨0xA0000, 8, 8⟩
abbrev CANDLE_STAT_LOG_OK : Fld := ⟨0xA0004, 0, 1⟩
abbrev CANDLE_STAT_FOLDING : Fld := ⟨0xA0004, 1, 1⟩
abbrev CANDLE_STAT_LIFE_ALARM : Fld := ⟨0xA0004, 2, 1⟩
abbrev CANDLE_LOG_SEQ_SEQ : Fld := ⟨0xA0008, 0, 32⟩
abbrev CANDLE_DEV_LIFE_LIFE_PCT : Fld := ⟨0xA000C, 0, 7⟩
abbrev CANDLE_DEV_REMAIN_H_H : Fld := ⟨0xA0010, 0, 32⟩
abbrev CANDLE_EVT_EVT : Fld := ⟨0xA0014, 0, 7⟩
abbrev CANDLE_EVT_EN_EN : Fld := ⟨0xA0018, 0, 7⟩
abbrev CANDLE_MODE_S_S (i : Nat) : Fld := ⟨0xA0020 + 0x4 * i, 0, 32⟩
abbrev CANDLE_DRIFT_OFS_OFS (i : Nat) : Fld := ⟨0xA0040 + 0x8 * i, 0, 32⟩
abbrev CANDLE_DRIFT_GAIN_PPM (i : Nat) : Fld := ⟨0xA0044 + 0x8 * i, 0, 32⟩
abbrev CANDLE_TEMP_S_S (i : Nat) : Fld := ⟨0xA0080 + 0x4 * i, 0, 32⟩
abbrev CANDLE_RING_EQ_START (i : Nat) : Fld := ⟨0xA00D0 + 0x8 * i, 0, 8⟩
abbrev CANDLE_RING_EYE_WARN (i : Nat) : Fld := ⟨0xA00D0 + 0x8 * i, 8, 8⟩
abbrev CANDLE_RING_EYE_MIN_H (i : Nat) : Fld := ⟨0xA00D0 + 0x8 * i, 16, 8⟩
abbrev CANDLE_RING_ERR_CNT (i : Nat) : Fld := ⟨0xA00D4 + 0x8 * i, 0, 32⟩
abbrev CANDLE_OSC_MAIN_PPM : Fld := ⟨0xA00E0, 0, 16⟩
abbrev CANDLE_OSC_XTAL32_PPM : Fld := ⟨0xA00E0, 16, 16⟩
abbrev CANDLE_NV_WEAR_MAX_ERASE : Fld := ⟨0xA00E4, 0, 16⟩
abbrev CANDLE_NV_WEAR_SPARES : Fld := ⟨0xA00E4, 16, 4⟩
abbrev CANDLE_CH_CYCLES_N (i : Nat) : Fld := ⟨0xA0100 + 0x20 * i, 0, 32⟩
abbrev CANDLE_CH_ENERGY_J (i : Nat) : Fld := ⟨0xA0104 + 0x20 * i, 0, 32⟩
abbrev CANDLE_CH_TCYC1_N (i : Nat) : Fld := ⟨0xA0108 + 0x20 * i, 0, 32⟩
abbrev CANDLE_CH_TCYC2_N (i : Nat) : Fld := ⟨0xA010C + 0x20 * i, 0, 32⟩
abbrev CANDLE_CH_TCYC3_N (i : Nat) : Fld := ⟨0xA0110 + 0x20 * i, 0, 32⟩
abbrev CANDLE_CH_RON_R_NOW (i : Nat) : Fld := ⟨0xA0114 + 0x20 * i, 0, 16⟩
abbrev CANDLE_CH_RON_R_PLAN (i : Nat) : Fld := ⟨0xA0114 + 0x20 * i, 16, 16⟩
abbrev CANDLE_CH_PLAN_RETRY_BUDGET (i : Nat) : Fld := ⟨0xA0118 + 0x20 * i, 0, 4⟩
abbrev CANDLE_CH_PLAN_LIFE_PCT (i : Nat) : Fld := ⟨0xA0118 + 0x20 * i, 8, 7⟩
abbrev CANDLE_CH_PLAN_TRIPS (i : Nat) : Fld := ⟨0xA0118 + 0x20 * i, 16, 16⟩
abbrev CANDLE_CH_REMAIN_H_H (i : Nat) : Fld := ⟨0xA011C + 0x20 * i, 0, 32⟩
abbrev CAL_SEC_LO_S : Fld := ⟨0xA0800, 0, 32⟩
abbrev CAL_SEC_HI_S : Fld := ⟨0xA0804, 0, 8⟩
abbrev CAL_SUBSEC_T : Fld := ⟨0xA0808, 0, 15⟩
abbrev CAL_CTRL_VALID : Fld := ⟨0xA080C, 0, 1⟩
abbrev CAL_CTRL_AUTO_TRIM : Fld := ⟨0xA080C, 1, 1⟩
abbrev CAL_CTRL_TRIM : Fld := ⟨0xA080C, 16, 16⟩
abbrev NVM_STAT_BUSY : Fld := ⟨0xB0000, 0, 1⟩
abbrev NVM_STAT_OP : Fld := ⟨0xB0000, 1, 3⟩
abbrev NVM_STAT_ERR : Fld := ⟨0xB0000, 4, 4⟩
abbrev NVM_GRACE_US : Fld := ⟨0xB0004, 0, 16⟩
abbrev NVM_ERR_ADDR_ADDR : Fld := ⟨0xB0008, 0, 32⟩
abbrev NVM_FW_LOAD_CTRL_START : Fld := ⟨0xB0010, 0, 1⟩
abbrev NVM_FW_LOAD_CTRL_END : Fld := ⟨0xB0010, 1, 1⟩
abbrev NVM_FW_LOAD_CTRL_CANCEL : Fld := ⟨0xB0010, 2, 1⟩
abbrev NVM_FW_LOAD_STAT_STATE : Fld := ⟨0xB0014, 0, 3⟩
abbrev NVM_FW_LOAD_STAT_CODE : Fld := ⟨0xB0014, 8, 8⟩
abbrev NVM_FW_SLOT_VALID (i : Nat) : Fld := ⟨0xB0018 + 0x4 * i, 0, 1⟩
abbrev NVM_FW_SLOT_CODE (i : Nat) : Fld := ⟨0xB0018 + 0x4 * i, 8, 8⟩
abbrev NVM_FW_SLOT_MAJOR (i : Nat) : Fld := ⟨0xB0018 + 0x4 * i, 16, 8⟩
abbrev NVM_FW_SLOT_MINOR (i : Nat) : Fld := ⟨0xB0018 + 0x4 * i, 24, 8⟩
abbrev NVM_FW_SEQ_SEQ (i : Nat) : Fld := ⟨0xB0020 + 0x4 * i, 0, 32⟩
abbrev NVM_FW_ACTIVE_SLOT : Fld := ⟨0xB0028, 0, 1⟩
abbrev NVM_FW_ACTIVE_MAJOR : Fld := ⟨0xB0028, 16, 8⟩
abbrev NVM_FW_ACTIVE_MINOR : Fld := ⟨0xB0028, 24, 8⟩
abbrev NVM_RD_CTRL_START : Fld := ⟨0xB0030, 0, 1⟩
abbrev NVM_RD_CTRL_REGION : Fld := ⟨0xB0030, 1, 3⟩
abbrev NVM_RD_OFS_OFS : Fld := ⟨0xB0034, 0, 20⟩
abbrev NVM_RD_LEN_LEN : Fld := ⟨0xB0038, 0, 16⟩
abbrev NVM_RD_LEN_MB_OFS : Fld := ⟨0xB0038, 16, 16⟩
abbrev NVM_FW_LOAD_DATA_DATA (i : Nat) : Fld := ⟨0xB0100 + 0x4 * i, 0, 32⟩
abbrev SEC_KEY_PROGRAMMED (i : Nat) : Fld := ⟨0xD0000 + 0x4 * i, 0, 1⟩
abbrev SEC_KEY_REVOKED (i : Nat) : Fld := ⟨0xD0000 + 0x4 * i, 1, 1⟩
abbrev SEC_KEY_USE (i : Nat) : Fld := ⟨0xD0000 + 0x4 * i, 2, 3⟩
abbrev SEC_KEY_STORED (i : Nat) : Fld := ⟨0xD0000 + 0x4 * i, 5, 1⟩
abbrev SEC_ROLLBACK_FW_LEVEL : Fld := ⟨0xD0010, 0, 7⟩
abbrev SEC_ROLLBACK_FAB_LEVEL : Fld := ⟨0xD0010, 8, 7⟩
abbrev SEC_DBG_LEVEL : Fld := ⟨0xD0014, 0, 2⟩
abbrev SEC_DBG_AUTH_OK : Fld := ⟨0xD0014, 2, 1⟩
abbrev SEC_DBG_FAILS : Fld := ⟨0xD0014, 3, 2⟩
abbrev SEC_CMD_KEY : Fld := ⟨0xD0018, 0, 16⟩
abbrev SEC_CMD_OP : Fld := ⟨0xD0018, 16, 4⟩
abbrev SEC_CMD_ARG : Fld := ⟨0xD0018, 20, 4⟩
abbrev SEC_CMD_STAT_BUSY : Fld := ⟨0xD001C, 0, 1⟩
abbrev SEC_CMD_STAT_CODE : Fld := ⟨0xD001C, 8, 8⟩
abbrev SEC_HASH_USE_USE : Fld := ⟨0xD0020, 0, 3⟩
abbrev SEC_HASH_BYTES (i : Nat) : Fld := ⟨0xD0040 + 0x4 * i, 0, 32⟩
abbrev SEC_KEYSTAGE_BYTES (i : Nat) : Fld := ⟨0xD0080 + 0x4 * i, 0, 32⟩
abbrev SYS_DEVICE_ID_ID : Fld := ⟨0x0, 0, 32⟩
abbrev SYS_REVISION_LOGIC_REV : Fld := ⟨0x4, 0, 8⟩
abbrev SYS_REVISION_FREV_0 : Fld := ⟨0x4, 8, 4⟩
abbrev SYS_REVISION_FREV_1 : Fld := ⟨0x4, 12, 4⟩
abbrev SYS_REVISION_FREV_2 : Fld := ⟨0x4, 16, 4⟩
abbrev SYS_REVISION_FREV_3 : Fld := ⟨0x4, 20, 4⟩
abbrev SYS_REVISION_ROM_VER : Fld := ⟨0x4, 24, 8⟩
abbrev SYS_UID_LO_UID : Fld := ⟨0x8, 0, 32⟩
abbrev SYS_UID_HI_UID : Fld := ⟨0xC, 0, 32⟩
abbrev SYS_IDCODE_IDCODE : Fld := ⟨0x10, 0, 32⟩
abbrev SYS_LOCK_KEY : Fld := ⟨0x14, 0, 16⟩
abbrev SYS_LOCK_LOCKED : Fld := ⟨0x14, 16, 1⟩
abbrev SYS_LOCK_BY_AUTO : Fld := ⟨0x14, 17, 1⟩
abbrev SYS_CW_CLK_CLK_MODE : Fld := ⟨0x400, 0, 1⟩
abbrev SYS_CW_CLK_XDRIVE : Fld := ⟨0x400, 1, 2⟩
abbrev SYS_CW_BOOT_VOTIVE_SEATS : Fld := ⟨0x404, 0, 4⟩
abbrev SYS_CW_BOOT_AUTO_LOCK : Fld := ⟨0x404, 4, 1⟩
abbrev SYS_CW_STORE_KEY : Fld := ⟨0x408, 0, 16⟩
abbrev SYS_CW_STORE_BUSY : Fld := ⟨0x408, 16, 1⟩
abbrev SYS_CW_STORE_DONE : Fld := ⟨0x408, 17, 1⟩
abbrev SYS_CW_STORE_ERR : Fld := ⟨0x408, 18, 1⟩
abbrev SYS_CW_STORE_ERR_CODE : Fld := ⟨0x408, 19, 4⟩
abbrev SYS_CW_STAT_CLK_MODE : Fld := ⟨0x40C, 0, 1⟩
abbrev SYS_CW_STAT_XDRIVE : Fld := ⟨0x40C, 1, 2⟩
abbrev SYS_CW_STAT_VOTIVE_SEATS : Fld := ⟨0x40C, 4, 4⟩
abbrev SYS_CW_STAT_AUTO_LOCK : Fld := ⟨0x40C, 8, 1⟩
abbrev SYS_CW_STAT_PENDING : Fld := ⟨0x40C, 9, 1⟩
abbrev SYS_CW_STAT_NO_RECORD : Fld := ⟨0x40C, 10, 1⟩
abbrev STAT_SLOT0_GEN_GEN (u : Nat) : Fld := ⟨0x60020 + 0x80 * u, 0, 32⟩
abbrev STAT_SLOT0_SUM_LO_SUM_LO (u : Nat) : Fld := ⟨0x60024 + 0x80 * u, 0, 32⟩
abbrev STAT_SLOT0_SUM_HI_SUM_HI (u : Nat) : Fld := ⟨0x60028 + 0x80 * u, 0, 16⟩
abbrev STAT_SLOT0_SUM_HI_SUM_SX (u : Nat) : Fld := ⟨0x60028 + 0x80 * u, 16, 16⟩
abbrev STAT_SLOT0_COUNT_COUNT (u : Nat) : Fld := ⟨0x6002C + 0x80 * u, 0, 32⟩
abbrev STAT_SLOT0_MIN_MIN (u : Nat) : Fld := ⟨0x60030 + 0x80 * u, 0, 32⟩
abbrev STAT_SLOT0_MAX_MAX (u : Nat) : Fld := ⟨0x60034 + 0x80 * u, 0, 32⟩
abbrev STAT_SLOT0_OVR_CNT_OVR_CNT (u : Nat) : Fld := ⟨0x60038 + 0x80 * u, 0, 32⟩
abbrev STAT_SLOT0_DIRTY_CNT_DIRTY_CNT (u : Nat) : Fld := ⟨0x6003C + 0x80 * u, 0, 32⟩
abbrev STAT_SLOT0_T_CLOSE_LO_T_CLOSE_LO (u : Nat) : Fld := ⟨0x60040 + 0x80 * u, 0, 32⟩
abbrev STAT_SLOT0_T_CLOSE_HI_T_CLOSE_HI (u : Nat) : Fld := ⟨0x60044 + 0x80 * u, 0, 32⟩
abbrev STAT_SLOT0_DUR_DUR (u : Nat) : Fld := ⟨0x60048 + 0x80 * u, 0, 32⟩
abbrev STAT_SLOT0_INFO_CAUSE (u : Nat) : Fld := ⟨0x6004C + 0x80 * u, 0, 3⟩
abbrev STAT_SLOT0_INFO_UNSYNC (u : Nat) : Fld := ⟨0x6004C + 0x80 * u, 3, 1⟩
abbrev STAT_SLOT0_INFO_CAL (u : Nat) : Fld := ⟨0x6004C + 0x80 * u, 4, 1⟩
abbrev STAT_SLOT0_INFO_SKIPPED (u : Nat) : Fld := ⟨0x6004C + 0x80 * u, 5, 1⟩
abbrev STAT_SLOT0_INFO_INPUT (u : Nat) : Fld := ⟨0x6004C + 0x80 * u, 8, 4⟩
abbrev STAT_SLOT0_INFO_GAIN (u : Nat) : Fld := ⟨0x6004C + 0x80 * u, 12, 3⟩
abbrev STAT_SLOT1_GEN_GEN (u : Nat) : Fld := ⟨0x60050 + 0x80 * u, 0, 32⟩
abbrev STAT_SLOT1_SUM_LO_SUM_LO (u : Nat) : Fld := ⟨0x60054 + 0x80 * u, 0, 32⟩
abbrev STAT_SLOT1_SUM_HI_SUM_HI (u : Nat) : Fld := ⟨0x60058 + 0x80 * u, 0, 16⟩
abbrev STAT_SLOT1_SUM_HI_SUM_SX (u : Nat) : Fld := ⟨0x60058 + 0x80 * u, 16, 16⟩
abbrev STAT_SLOT1_COUNT_COUNT (u : Nat) : Fld := ⟨0x6005C + 0x80 * u, 0, 32⟩
abbrev STAT_SLOT1_MIN_MIN (u : Nat) : Fld := ⟨0x60060 + 0x80 * u, 0, 32⟩
abbrev STAT_SLOT1_MAX_MAX (u : Nat) : Fld := ⟨0x60064 + 0x80 * u, 0, 32⟩
abbrev STAT_SLOT1_OVR_CNT_OVR_CNT (u : Nat) : Fld := ⟨0x60068 + 0x80 * u, 0, 32⟩
abbrev STAT_SLOT1_DIRTY_CNT_DIRTY_CNT (u : Nat) : Fld := ⟨0x6006C + 0x80 * u, 0, 32⟩
abbrev STAT_SLOT1_T_CLOSE_LO_T_CLOSE_LO (u : Nat) : Fld := ⟨0x60070 + 0x80 * u, 0, 32⟩
abbrev STAT_SLOT1_T_CLOSE_HI_T_CLOSE_HI (u : Nat) : Fld := ⟨0x60074 + 0x80 * u, 0, 32⟩
abbrev STAT_SLOT1_DUR_DUR (u : Nat) : Fld := ⟨0x60078 + 0x80 * u, 0, 32⟩
abbrev STAT_SLOT1_INFO_CAUSE (u : Nat) : Fld := ⟨0x6007C + 0x80 * u, 0, 3⟩
abbrev STAT_SLOT1_INFO_UNSYNC (u : Nat) : Fld := ⟨0x6007C + 0x80 * u, 3, 1⟩
abbrev STAT_SLOT1_INFO_CAL (u : Nat) : Fld := ⟨0x6007C + 0x80 * u, 4, 1⟩
abbrev STAT_SLOT1_INFO_SKIPPED (u : Nat) : Fld := ⟨0x6007C + 0x80 * u, 5, 1⟩
abbrev STAT_SLOT1_INFO_INPUT (u : Nat) : Fld := ⟨0x6007C + 0x80 * u, 8, 4⟩
abbrev STAT_SLOT1_INFO_GAIN (u : Nat) : Fld := ⟨0x6007C + 0x80 * u, 12, 3⟩

/-- The register table of BANK. -/
def tableBank : List RDesc := [
  ⟨0xF00, 1, 0x0, [⟨0, 1, .ro, .num 0, .none⟩, ⟨1, 1, .ro, .num 0, .none⟩, ⟨8, 8, .ro, .num 0, .img⟩, ⟨16, 16, .ro, .num 0, .none⟩]⟩,
  ⟨0xF04, 1, 0x0, [⟨0, 8, .ro, .num 0, .img⟩, ⟨8, 8, .ro, .num 0, .img⟩, ⟨16, 16, .ro, .num 0, .img⟩]⟩,
  ⟨0xA00, 1, 0x0, [⟨0, 20, .rwc, .image, .img⟩]⟩,
  ⟨0xA04, 1, 0x0, [⟨0, 16, .ro, .num 0, .none⟩, ⟨16, 1, .ro, .num 0, .none⟩]⟩,
  ⟨0xA08, 1, 0x0, [⟨0, 16, .ro, .num 0, .low⟩, ⟨31, 1, .wo, .num 0, .none⟩]⟩,
  ⟨0xA10, 1, 0x0, [⟨0, 2, .rwc, .image, .img⟩, ⟨2, 2, .rwc, .image, .img⟩, ⟨4, 2, .rwc, .image, .img⟩, ⟨6, 2, .rwc, .image, .img⟩, ⟨8, 2, .rwc, .image, .img⟩, ⟨10, 2, .rwc, .image, .img⟩, ⟨12, 2, .rwc, .image, .img⟩, ⟨14, 2, .rwc, .image, .img⟩]⟩,
  ⟨0xA14, 1, 0x0, [⟨0, 1, .ro, .num 0, .none⟩, ⟨1, 1, .ro, .num 0, .none⟩, ⟨4, 3, .ro, .num 0, .none⟩]⟩,
  ⟨0xB00, 1, 0x0, [⟨0, 9, .ro, .num 0, .none⟩, ⟨9, 1, .ro, .num 0, .none⟩, ⟨10, 1, .ro, .num 0, .none⟩, ⟨11, 1, .ro, .num 0, .none⟩, ⟨16, 9, .ro, .num 0, .none⟩]⟩,
  ⟨0xB04, 1, 0x0, [⟨0, 9, .ro, .num 0, .none⟩, ⟨9, 1, .ro, .num 0, .none⟩, ⟨10, 1, .ro, .num 0, .none⟩, ⟨11, 1, .ro, .num 0, .none⟩, ⟨16, 9, .ro, .num 0, .none⟩]⟩,
  ⟨0xB08, 1, 0x0, [⟨0, 16, .ro, .num 0, .none⟩, ⟨16, 16, .ro, .num 0, .none⟩]⟩,
  ⟨0xB10, 1, 0x0, [⟨0, 1, .rw, .num 0, .img⟩, ⟨1, 2, .ro, .num 2, .none⟩, ⟨3, 1, .ro, .num 0, .none⟩]⟩,
  ⟨0x0, 1, 0x0, [⟨0, 4, .rwc, .image, .img⟩, ⟨4, 1, .rwc, .image, .img⟩, ⟨8, 20, .rwc, .image, .img⟩]⟩,
  ⟨0x4, 1, 0x0, [⟨0, 1, .ro, .num 0, .none⟩, ⟨1, 1, .ro, .num 0, .none⟩, ⟨8, 8, .ro, .num 0, .img⟩, ⟨16, 16, .ro, .num 0, .none⟩]⟩,
  ⟨0x8, 1, 0x0, [⟨0, 8, .rwc, .image, .img⟩, ⟨8, 4, .rwc, .image, .img⟩]⟩,
  ⟨0xC, 1, 0x0, [⟨0, 10, .rwc, .image, .img⟩, ⟨16, 10, .rwc, .image, .img⟩]⟩,
  ⟨0x10, 1, 0x0, [⟨0, 16, .ro, .num 0, .img⟩, ⟨16, 8, .ro, .num 0, .none⟩, ⟨24, 4, .ro, .num 0, .none⟩, ⟨28, 1, .ro, .num 0, .none⟩]⟩,
  ⟨0x14, 1, 0x0, [⟨0, 32, .ro, .num 0, .none⟩]⟩,
  ⟨0x18, 1, 0x0, [⟨0, 1, .w1c, .num 0, .img⟩, ⟨1, 1, .w1c, .num 0, .img⟩, ⟨2, 1, .w1c, .num 0, .img⟩, ⟨3, 1, .w1c, .num 0, .img⟩, ⟨4, 1, .w1c, .num 0, .img⟩, ⟨16, 5, .rw, .image, .img⟩]⟩,
  ⟨0x100, 16, 0x4, [⟨0, 4, .rwc, .image, .img⟩, ⟨4, 3, .rwc, .image, .img⟩, ⟨7, 1, .rwc, .image, .img⟩, ⟨8, 8, .rwc, .image, .img⟩, ⟨16, 4, .rwc, .image, .img⟩]⟩,
  ⟨0x180, 8, 0x4, [⟨0, 4, .rwc, .image, .img⟩, ⟨4, 3, .rwc, .image, .img⟩, ⟨8, 8, .rwc, .image, .img⟩, ⟨16, 3, .rwc, .image, .img⟩, ⟨20, 4, .rwc, .image, .img⟩, ⟨24, 3, .rwc, .image, .img⟩]⟩,
  ⟨0x1A0, 8, 0x4, [⟨0, 16, .rwc, .image, .img⟩]⟩,
  ⟨0x1C0, 1, 0x0, [⟨0, 8, .ro, .num 0, .none⟩, ⟨8, 8, .ro, .num 0, .img⟩, ⟨16, 8, .ro, .num 0, .img⟩]⟩,
  ⟨0x1C4, 1, 0x0, [⟨0, 8, .wo, .num 0, .none⟩]⟩,
  ⟨0x1C8, 1, 0x0, [⟨0, 20, .rwc, .image, .img⟩]⟩,
  ⟨0x200, 1, 0x0, [⟨0, 1, .wo, .num 0, .none⟩, ⟨1, 1, .ro, .num 0, .none⟩, ⟨2, 1, .ro, .num 0, .none⟩, ⟨4, 4, .ro, .num 0, .img⟩, ⟨16, 16, .ro, .num 0, .img⟩]⟩,
  ⟨0x204, 1, 0x0, [⟨0, 1, .rw, .image, .img⟩, ⟨8, 8, .rw, .image, .img⟩]⟩,
  ⟨0x208, 1, 0x0, [⟨0, 16, .ro, .num 0, .all⟩, ⟨16, 16, .ro, .num 0, .none⟩]⟩,
  ⟨0x20C, 1, 0x0, [⟨0, 16, .ro, .num 0, .all⟩]⟩,
  ⟨0x210, 1, 0x0, [⟨0, 24, .ro, .stored, .all⟩]⟩,
  ⟨0x214, 5, 0x4, [⟨0, 24, .ro, .stored, .all⟩]⟩,
  ⟨0x228, 1, 0x0, [⟨0, 24, .ro, .stored, .all⟩]⟩,
  ⟨0x22C, 1, 0x0, [⟨0, 24, .ro, .stored, .all⟩]⟩,
  ⟨0xC00, 1, 0x0, [⟨0, 1, .rwc, .image, .img⟩]⟩,
  ⟨0xC04, 1, 0x0, [⟨0, 16, .ro, .num 0, .none⟩, ⟨16, 3, .ro, .num 0, .none⟩, ⟨19, 1, .ro, .num 0, .none⟩, ⟨20, 1, .ro, .num 0, .none⟩]⟩,
  ⟨0xC08, 1, 0x0, [⟨0, 8, .ro, .num 0, .img⟩, ⟨8, 8, .ro, .num 0, .img⟩, ⟨16, 8, .ro, .num 0, .img⟩]⟩,
  ⟨0xC0C, 1, 0x0, [⟨0, 16, .ro, .num 65535, .img⟩, ⟨31, 1, .wo, .num 0, .none⟩]⟩,
  ⟨0xC10, 1, 0x0, [⟨0, 14, .rwc, .image, .img⟩]⟩,
  ⟨0xC14, 1, 0x0, [⟨0, 3, .ro, .num 0, .fld⟩, ⟨8, 1, .wo, .num 0, .none⟩, ⟨9, 1, .wo, .num 0, .none⟩]⟩]

/-- The register table of CELL. -/
def tableCell : List RDesc := [
  ⟨0x0, 1, 0x0, [⟨0, 4, .rwc, .image, .img⟩, ⟨4, 2, .ro, .image, .img⟩, ⟨16, 16, .ro, .num 0, .img⟩]⟩,
  ⟨0x4, 1, 0x0, [⟨0, 3, .ro, .num 1, .fld⟩, ⟨4, 4, .ro, .num 1, .fld⟩, ⟨8, 1, .ro, .num 0, .low⟩, ⟨9, 1, .ro, .num 0, .none⟩, ⟨16, 16, .ro, .token, .fld⟩]⟩,
  ⟨0x8, 1, 0x0, [⟨0, 2, .ro, .image, .img⟩]⟩,
  ⟨0xC, 1, 0x0, [⟨0, 3, .rwc, .image, .img⟩, ⟨16, 16, .rwc, .image, .img⟩]⟩,
  ⟨0x10, 1, 0x0, [⟨0, 16, .rwc, .num 0, .notPor⟩]⟩,
  ⟨0x14, 1, 0x0, [⟨0, 1, .w1c, .num 0, .img⟩, ⟨1, 1, .w1c, .num 0, .img⟩, ⟨2, 1, .w1c, .num 0, .img⟩, ⟨3, 1, .w1c, .num 0, .img⟩, ⟨4, 1, .w1c, .num 0, .img⟩, ⟨5, 1, .w1c, .num 0, .img⟩, ⟨6, 1, .w1c, .num 0, .img⟩, ⟨7, 1, .w1c, .num 0, .img⟩, ⟨8, 1, .w1c, .num 0, .img⟩, ⟨9, 1, .w1c, .num 0, .img⟩, ⟨10, 1, .w1c, .num 0, .img⟩, ⟨11, 1, .w1c, .num 0, .img⟩, ⟨12, 1, .w1c, .num 0, .img⟩, ⟨13, 1, .w1c, .num 0, .img⟩, ⟨14, 1, .w1c, .num 0, .img⟩, ⟨15, 1, .w1c, .num 0, .img⟩, ⟨16, 1, .w1c, .num 0, .img⟩, ⟨17, 1, .w1c, .num 0, .img⟩]⟩,
  ⟨0x18, 1, 0x0, [⟨0, 1, .ro, .num 0, .none⟩, ⟨1, 1, .ro, .num 0, .none⟩, ⟨2, 1, .ro, .num 0, .none⟩, ⟨3, 1, .ro, .num 0, .none⟩, ⟨4, 1, .ro, .num 0, .none⟩, ⟨5, 1, .ro, .num 0, .none⟩, ⟨6, 1, .ro, .num 0, .none⟩, ⟨7, 1, .ro, .num 0, .none⟩, ⟨8, 1, .ro, .num 0, .none⟩, ⟨9, 1, .ro, .num 0, .none⟩, ⟨10, 1, .ro, .num 0, .none⟩, ⟨11, 1, .ro, .num 0, .none⟩, ⟨12, 1, .ro, .num 0, .none⟩, ⟨13, 1, .ro, .num 0, .none⟩, ⟨14, 1, .ro, .num 0, .none⟩, ⟨15, 1, .ro, .num 0, .none⟩, ⟨16, 1, .ro, .num 0, .none⟩, ⟨17, 1, .ro, .num 0, .none⟩]⟩,
  ⟨0x1C, 1, 0x0, [⟨0, 1, .rw, .image, .img⟩, ⟨1, 1, .rw, .image, .img⟩, ⟨2, 1, .rw, .image, .img⟩, ⟨3, 1, .rw, .image, .img⟩, ⟨4, 1, .rw, .image, .img⟩, ⟨5, 1, .rw, .image, .img⟩, ⟨6, 1, .rw, .image, .img⟩, ⟨7, 1, .rw, .image, .img⟩, ⟨8, 1, .rw, .image, .img⟩, ⟨9, 1, .rw, .image, .img⟩, ⟨10, 1, .rw, .image, .img⟩, ⟨11, 1, .rw, .image, .img⟩, ⟨12, 1, .rw, .image, .img⟩, ⟨13, 1, .rw, .image, .img⟩, ⟨14, 1, .rw, .image, .img⟩, ⟨15, 1, .rw, .image, .img⟩, ⟨16, 1, .rw, .image, .img⟩, ⟨17, 1, .rw, .image, .img⟩]⟩,
  ⟨0x20, 1, 0x0, [⟨0, 16, .ro, .num 0, .none⟩, ⟨16, 1, .ro, .num 0, .none⟩]⟩,
  ⟨0x24, 1, 0x0, [⟨0, 1, .wo, .num 0, .none⟩, ⟨1, 1, .ro, .num 0, .none⟩]⟩,
  ⟨0x28, 1, 0x0, [⟨0, 16, .wo, .num 0, .none⟩]⟩,
  ⟨0x100, 1, 0x0, [⟨0, 3, .rwc, .image, .img⟩, ⟨4, 7, .rwc, .image, .img⟩, ⟨16, 1, .rwc, .image, .img⟩]⟩,
  ⟨0x104, 1, 0x0, [⟨0, 16, .ro, .num 0, .none⟩, ⟨16, 1, .ro, .num 0, .none⟩, ⟨17, 1, .ro, .num 0, .none⟩, ⟨18, 1, .ro, .num 0, .none⟩, ⟨19, 1, .ro, .num 0, .none⟩, ⟨20, 4, .ro, .num 0, .fld⟩]⟩,
  ⟨0x108, 1, 0x0, [⟨0, 16, .ro, .num 2000, .img⟩, ⟨16, 7, .ro, .num 100, .img⟩]⟩,
  ⟨0x300, 1, 0x0, [⟨0, 3, .rwc, .image, .img⟩, ⟨3, 2, .rwc, .image, .img⟩, ⟨5, 1, .rwc, .image, .img⟩, ⟨8, 4, .rwc, .image, .img⟩, ⟨12, 4, .rwc, .image, .img⟩, ⟨16, 8, .rwc, .image, .img⟩]⟩,
  ⟨0x304, 1, 0x0, [⟨0, 16, .ro, .num 0, .notPor⟩, ⟨16, 16, .ro, .num 0, .notPor⟩]⟩,
  ⟨0x308, 1, 0x0, [⟨0, 16, .ro, .num 0, .none⟩, ⟨16, 16, .ro, .num 0, .none⟩]⟩,
  ⟨0x30C, 1, 0x0, [⟨0, 1, .rwc, .image, .img⟩, ⟨4, 4, .rwc, .image, .img⟩, ⟨8, 8, .rwc, .image, .img⟩]⟩,
  ⟨0x310, 1, 0x0, [⟨0, 8, .ro, .num 0, .img⟩, ⟨8, 8, .ro, .num 0, .img⟩, ⟨16, 8, .ro, .num 0, .img⟩]⟩,
  ⟨0x380, 1, 0x0, [⟨0, 8, .rwc, .image, .img⟩, ⟨8, 1, .rwc, .image, .img⟩]⟩,
  ⟨0x384, 1, 0x0, [⟨0, 16, .ro, .num 0, .none⟩, ⟨16, 5, .ro, .num 0, .none⟩, ⟨21, 1, .ro, .num 0, .none⟩, ⟨22, 5, .ro, .num 0, .img⟩, ⟨27, 1, .ro, .num 0, .img⟩]⟩,
  ⟨0x180, 1, 0x0, [⟨0, 1, .rwc, .image, .img⟩, ⟨1, 1, .ro, .image, .img⟩, ⟨8, 8, .ro, .num 0, .none⟩]⟩,
  ⟨0x184, 1, 0x0, [⟨0, 1, .rwc, .image, .img⟩, ⟨1, 1, .rwc, .image, .img⟩, ⟨2, 2, .rwc, .image, .img⟩, ⟨8, 8, .rwc, .image, .img⟩]⟩,
  ⟨0x188, 1, 0x0, [⟨0, 16, .rwc, .image, .img⟩, ⟨16, 16, .rwc, .image, .img⟩]⟩,
  ⟨0x18C, 1, 0x0, [⟨0, 16, .rwc, .stored, .img⟩, ⟨16, 16, .rwc, .stored, .img⟩]⟩,
  ⟨0x190, 1, 0x0, [⟨0, 16, .ro, .num 0, .none⟩, ⟨16, 8, .ro, .num 0, .none⟩, ⟨24, 1, .ro, .num 0, .none⟩, ⟨25, 1, .ro, .num 0, .low⟩, ⟨26, 1, .ro, .num 0, .none⟩]⟩,
  ⟨0x194, 1, 0x0, [⟨0, 16, .ro, .num 1275, .low⟩]⟩,
  ⟨0x200, 1, 0x0, [⟨0, 2, .rwc, .image, .img⟩, ⟨2, 1, .rwc, .image, .img⟩, ⟨3, 1, .rwc, .image, .img⟩, ⟨4, 8, .rwc, .image, .img⟩, ⟨16, 16, .rwc, .image, .img⟩]⟩,
  ⟨0x204, 1, 0x0, [⟨0, 1, .ro, .num 0, .none⟩, ⟨1, 1, .ro, .num 1, .none⟩, ⟨2, 1, .ro, .num 0, .none⟩, ⟨3, 3, .ro, .num 1, .none⟩, ⟨16, 16, .ro, .num 0, .fld⟩]⟩,
  ⟨0x208, 1, 0x0, [⟨0, 2, .rwc, .image, .img⟩, ⟨4, 10, .rwc, .image, .img⟩]⟩,
  ⟨0x20C, 1, 0x0, [⟨0, 1, .wo, .num 0, .none⟩, ⟨8, 1, .ro, .num 0, .notPor⟩]⟩,
  ⟨0x210, 1, 0x0, [⟨0, 32, .ro, .num 0, .notPor⟩]⟩,
  ⟨0x214, 1, 0x0, [⟨0, 32, .ro, .num 0, .none⟩]⟩,
  ⟨0x218, 1, 0x0, [⟨0, 2, .rwc, .image, .img⟩, ⟨2, 1, .rwc, .image, .img⟩, ⟨3, 1, .rwc, .image, .img⟩]⟩,
  ⟨0x21C, 1, 0x0, [⟨0, 3, .ro, .num 0, .none⟩, ⟨16, 16, .ro, .num 0, .none⟩]⟩,
  ⟨0x220, 1, 0x0, [⟨0, 2, .rwc, .image, .img⟩, ⟨4, 1, .rwc, .image, .img⟩, ⟨5, 2, .rwc, .image, .img⟩, ⟨7, 1, .rwc, .image, .img⟩, ⟨8, 8, .rwc, .image, .img⟩]⟩]

/-- The register table of WICK. -/
def tableWick : List RDesc := [
  ⟨0x0, 1, 0x0, [⟨0, 1, .rwc, .image, .img⟩, ⟨8, 8, .rwc, .image, .img⟩, ⟨16, 8, .rwc, .image, .img⟩]⟩,
  ⟨0x4, 1, 0x0, [⟨0, 20, .rwc, .image, .img⟩]⟩,
  ⟨0x8, 1, 0x0, [⟨0, 16, .ro, .num 0, .none⟩, ⟨16, 1, .ro, .num 0, .none⟩, ⟨17, 1, .ro, .num 0, .none⟩]⟩,
  ⟨0xC, 1, 0x0, [⟨0, 2, .ro, .image, .img⟩]⟩]

/-- The register table of SYS (identity, boot, mode, power, configuration words, trims). -/
def tableSYS : List RDesc := [
  ⟨0x600, 1, 0x0, [⟨0, 1, .rw, .num 0, .low⟩]⟩,
  ⟨0x604, 1, 0x0, [⟨0, 32, .rw, .num 0, .low⟩]⟩,
  ⟨0x608, 1, 0x0, [⟨0, 8, .rw, .num 10, .low⟩, ⟨8, 8, .rw, .num 5, .low⟩]⟩,
  ⟨0x60C, 1, 0x0, [⟨0, 16, .wo, .num 0, .none⟩, ⟨16, 1, .ro, .num 0, .none⟩, ⟨17, 1, .ro, .num 0, .none⟩, ⟨18, 1, .ro, .num 0, .none⟩]⟩,
  ⟨0x610, 1, 0x0, [⟨0, 8, .ro, .num 0, .low⟩, ⟨8, 8, .ro, .num 0, .low⟩, ⟨16, 1, .w1c, .num 0, .low⟩, ⟨17, 1, .w1c, .num 0, .low⟩, ⟨18, 1, .ro, .num 1, .none⟩, ⟨19, 1, .ro, .num 1, .none⟩, ⟨20, 4, .ro, .num 0, .none⟩]⟩,
  ⟨0x200, 1, 0x0, [⟨0, 3, .ro, .num 0, .low⟩, ⟨4, 4, .ro, .num 0, .none⟩]⟩,
  ⟨0x204, 1, 0x0, [⟨0, 3, .wo, .num 0, .none⟩]⟩,
  ⟨0x208, 1, 0x0, [⟨0, 4, .rwl, .image, .low⟩]⟩,
  ⟨0x20C, 1, 0x0, [⟨0, 16, .wo, .num 0, .none⟩, ⟨16, 1, .ro, .num 0, .none⟩]⟩,
  ⟨0x100, 1, 0x0, [⟨0, 3, .ro, .num 0, .all⟩, ⟨4, 4, .ro, .num 0, .all⟩, ⟨8, 1, .ro, .num 1, .all⟩, ⟨9, 1, .ro, .num 0, .all⟩, ⟨16, 16, .ro, .num 0, .all⟩]⟩,
  ⟨0x104, 1, 0x0, [⟨0, 3, .ro, .num 0, .all⟩, ⟨4, 3, .ro, .num 0, .all⟩, ⟨8, 3, .ro, .num 0, .all⟩, ⟨12, 3, .ro, .num 0, .all⟩]⟩,
  ⟨0x108, 1, 0x0, [⟨0, 1, .ro, .num 0, .low⟩, ⟨16, 16, .ro, .num 0, .low⟩]⟩,
  ⟨0x10C, 1, 0x0, [⟨0, 2, .ro, .num 0, .all⟩, ⟨4, 4, .ro, .num 0, .all⟩, ⟨8, 1, .ro, .num 0, .none⟩, ⟨16, 16, .ro, .num 0, .all⟩]⟩,
  ⟨0x110, 1, 0x0, [⟨0, 8, .ro, .num 0, .low⟩, ⟨8, 8, .ro, .num 0, .low⟩]⟩,
  ⟨0x114, 1, 0x0, [⟨0, 16, .wo, .num 0, .none⟩]⟩,
  ⟨0x118, 1, 0x0, [⟨0, 16, .wo, .num 0, .none⟩]⟩,
  ⟨0x300, 1, 0x0, [⟨0, 2, .wo, .num 0, .none⟩]⟩,
  ⟨0x304, 1, 0x0, [⟨0, 2, .ro, .num 0, .none⟩, ⟨2, 1, .ro, .num 0, .none⟩, ⟨4, 4, .ro, .num 0, .none⟩, ⟨8, 8, .ro, .num 0, .none⟩, ⟨16, 16, .ro, .num 0, .low⟩]⟩,
  ⟨0x308, 1, 0x0, [⟨0, 32, .rw, .image, .low⟩]⟩,
  ⟨0x30C, 1, 0x0, [⟨0, 1, .rw, .image, .low⟩, ⟨1, 1, .rw, .image, .low⟩, ⟨2, 1, .rw, .image, .low⟩]⟩,
  ⟨0x0, 1, 0x0, [⟨0, 32, .ro, .num 1279930944, .all⟩]⟩,
  ⟨0x4, 1, 0x0, [⟨0, 8, .ro, .otp, .all⟩, ⟨8, 4, .ro, .otp, .all⟩, ⟨12, 4, .ro, .otp, .all⟩, ⟨16, 4, .ro, .otp, .all⟩, ⟨20, 4, .ro, .otp, .all⟩, ⟨24, 8, .ro, .fixed, .all⟩]⟩,
  ⟨0x8, 1, 0x0, [⟨0, 32, .ro, .otp, .all⟩]⟩,
  ⟨0xC, 1, 0x0, [⟨0, 32, .ro, .otp, .all⟩]⟩,
  ⟨0x10, 1, 0x0, [⟨0, 32, .ro, .otp, .all⟩]⟩,
  ⟨0x14, 1, 0x0, [⟨0, 16, .wo, .num 0, .none⟩, ⟨16, 1, .ro, .num 0, .low⟩, ⟨17, 1, .ro, .num 0, .low⟩]⟩,
  ⟨0x400, 1, 0x0, [⟨0, 1, .rwl, .stored, .low⟩, ⟨1, 2, .rwl, .stored, .low⟩]⟩,
  ⟨0x404, 1, 0x0, [⟨0, 4, .rwl, .stored, .low⟩, ⟨4, 1, .rwl, .stored, .low⟩]⟩,
  ⟨0x408, 1, 0x0, [⟨0, 16, .wo, .num 0, .none⟩, ⟨16, 1, .ro, .num 0, .none⟩, ⟨17, 1, .ro, .num 0, .none⟩, ⟨18, 1, .ro, .num 0, .none⟩, ⟨19, 4, .ro, .num 0, .none⟩]⟩,
  ⟨0x40C, 1, 0x0, [⟨0, 1, .ro, .stored, .low⟩, ⟨1, 2, .ro, .stored, .low⟩, ⟨4, 4, .ro, .stored, .low⟩, ⟨8, 1, .ro, .stored, .low⟩, ⟨9, 1, .ro, .num 0, .low⟩, ⟨10, 1, .ro, .num 0, .low⟩]⟩]

/-- The register table of STAT. -/
def tableStat : List RDesc := [
  ⟨0x0, 1, 0x0, [⟨0, 2, .rwc, .image, .img⟩, ⟨2, 1, .rwc, .image, .img⟩, ⟨3, 1, .rwc, .image, .img⟩]⟩,
  ⟨0x4, 1, 0x0, [⟨0, 24, .rwc, .image, .img⟩]⟩,
  ⟨0x8, 1, 0x0, [⟨0, 2, .ro, .image, .img⟩]⟩,
  ⟨0xC, 1, 0x0, [⟨0, 1, .wo, .num 0, .none⟩]⟩,
  ⟨0x10, 1, 0x0, [⟨0, 28, .ro, .num 0, .none⟩, ⟨28, 1, .ro, .num 0, .none⟩]⟩,
  ⟨0x14, 1, 0x0, [⟨0, 6, .ro, .num 0, .low⟩]⟩,
  ⟨0x18, 1, 0x0, [⟨0, 16, .ro, .num 0, .img⟩, ⟨16, 4, .ro, .num 0, .img⟩, ⟨20, 3, .ro, .num 0, .img⟩, ⟨23, 1, .ro, .num 0, .img⟩]⟩,
  ⟨0x20, 1, 0x0, [⟨0, 32, .ro, .num 0, .low⟩]⟩,
  ⟨0x24, 1, 0x0, [⟨0, 32, .ro, .num 0, .low⟩]⟩,
  ⟨0x28, 1, 0x0, [⟨0, 16, .ro, .num 0, .low⟩, ⟨16, 16, .ro, .num 0, .low⟩]⟩,
  ⟨0x2C, 1, 0x0, [⟨0, 32, .ro, .num 0, .low⟩]⟩,
  ⟨0x30, 1, 0x0, [⟨0, 32, .ro, .num 0, .low⟩]⟩,
  ⟨0x34, 1, 0x0, [⟨0, 32, .ro, .num 0, .low⟩]⟩,
  ⟨0x38, 1, 0x0, [⟨0, 32, .ro, .num 0, .low⟩]⟩,
  ⟨0x3C, 1, 0x0, [⟨0, 32, .ro, .num 0, .low⟩]⟩,
  ⟨0x40, 1, 0x0, [⟨0, 32, .ro, .num 0, .low⟩]⟩,
  ⟨0x44, 1, 0x0, [⟨0, 32, .ro, .num 0, .low⟩]⟩,
  ⟨0x48, 1, 0x0, [⟨0, 32, .ro, .num 0, .low⟩]⟩,
  ⟨0x4C, 1, 0x0, [⟨0, 3, .ro, .num 0, .low⟩, ⟨3, 1, .ro, .num 0, .low⟩, ⟨4, 1, .ro, .num 0, .low⟩, ⟨5, 1, .ro, .num 0, .low⟩, ⟨8, 4, .ro, .num 0, .low⟩, ⟨12, 3, .ro, .num 0, .low⟩]⟩,
  ⟨0x50, 1, 0x0, [⟨0, 32, .ro, .num 0, .low⟩]⟩,
  ⟨0x54, 1, 0x0, [⟨0, 32, .ro, .num 0, .low⟩]⟩,
  ⟨0x58, 1, 0x0, [⟨0, 16, .ro, .num 0, .low⟩, ⟨16, 16, .ro, .num 0, .low⟩]⟩,
  ⟨0x5C, 1, 0x0, [⟨0, 32, .ro, .num 0, .low⟩]⟩,
  ⟨0x60, 1, 0x0, [⟨0, 32, .ro, .num 0, .low⟩]⟩,
  ⟨0x64, 1, 0x0, [⟨0, 32, .ro, .num 0, .low⟩]⟩,
  ⟨0x68, 1, 0x0, [⟨0, 32, .ro, .num 0, .low⟩]⟩,
  ⟨0x6C, 1, 0x0, [⟨0, 32, .ro, .num 0, .low⟩]⟩,
  ⟨0x70, 1, 0x0, [⟨0, 32, .ro, .num 0, .low⟩]⟩,
  ⟨0x74, 1, 0x0, [⟨0, 32, .ro, .num 0, .low⟩]⟩,
  ⟨0x78, 1, 0x0, [⟨0, 32, .ro, .num 0, .low⟩]⟩,
  ⟨0x7C, 1, 0x0, [⟨0, 3, .ro, .num 0, .low⟩, ⟨3, 1, .ro, .num 0, .low⟩, ⟨4, 1, .ro, .num 0, .low⟩, ⟨5, 1, .ro, .num 0, .low⟩, ⟨8, 4, .ro, .num 0, .low⟩, ⟨12, 3, .ro, .num 0, .low⟩]⟩]

/-- The register table of FABRIC. -/
def tableFabric : List RDesc := [
  ⟨0x0, 1, 0x0, [⟨0, 32, .ro, .num 0, .img⟩]⟩,
  ⟨0x4, 1, 0x0, [⟨0, 32, .ro, .num 0, .img⟩]⟩,
  ⟨0x8, 1, 0x0, [⟨0, 1, .ro, .num 0, .img⟩, ⟨1, 1, .ro, .num 0, .img⟩, ⟨2, 1, .ro, .num 0, .img⟩, ⟨3, 1, .ro, .num 0, .img⟩]⟩,
  ⟨0x10, 2, 0x4, [⟨0, 1, .ro, .num 0, .img⟩, ⟨8, 8, .ro, .num 0, .img⟩, ⟨16, 7, .ro, .num 0, .img⟩, ⟨24, 8, .ro, .num 0, .img⟩]⟩,
  ⟨0x18, 2, 0x4, [⟨0, 32, .ro, .num 0, .img⟩]⟩,
  ⟨0x20, 2, 0x8, [⟨0, 32, .ro, .num 0, .img⟩]⟩,
  ⟨0x24, 2, 0x8, [⟨0, 32, .ro, .num 0, .img⟩]⟩,
  ⟨0x40, 1, 0x0, [⟨0, 1, .wo, .num 0, .none⟩, ⟨1, 1, .wo, .num 0, .none⟩, ⟨2, 1, .wo, .num 0, .none⟩, ⟨4, 3, .wo, .num 0, .none⟩]⟩,
  ⟨0x44, 1, 0x0, [⟨0, 3, .ro, .num 0, .img⟩, ⟨4, 2, .ro, .num 0, .img⟩, ⟨8, 8, .ro, .num 0, .img⟩, ⟨16, 16, .ro, .num 0, .img⟩]⟩,
  ⟨0x48, 1, 0x0, [⟨0, 32, .ro, .num 4294967295, .img⟩]⟩,
  ⟨0x4C, 1, 0x0, [⟨0, 19, .ro, .num 0, .img⟩]⟩,
  ⟨0x80, 1, 0x0, [⟨0, 1, .wo, .num 0, .none⟩, ⟨1, 1, .wo, .num 0, .none⟩, ⟨2, 1, .wo, .num 0, .none⟩, ⟨3, 1, .rw, .num 0, .img⟩, ⟨4, 1, .wo, .num 0, .none⟩]⟩,
  ⟨0x84, 1, 0x0, [⟨0, 3, .ro, .num 0, .img⟩, ⟨3, 1, .ro, .num 0, .img⟩, ⟨4, 1, .ro, .num 0, .img⟩, ⟨8, 8, .ro, .num 0, .img⟩, ⟨16, 16, .ro, .num 0, .img⟩]⟩,
  ⟨0x88, 1, 0x0, [⟨0, 10, .rw, .num 0, .img⟩]⟩,
  ⟨0x8C, 1, 0x0, [⟨0, 32, .ro, .num 4294967295, .img⟩]⟩,
  ⟨0x100, 64, 0x4, [⟨0, 32, .wo, .num 0, .none⟩]⟩,
  ⟨0x200, 128, 0x4, [⟨0, 4, .ro, .num 0, .img⟩, ⟨4, 1, .ro, .num 0, .img⟩, ⟨8, 8, .ro, .num 0, .img⟩, ⟨16, 16, .ro, .num 0, .img⟩]⟩,
  ⟨0x1000, 512, 0x8, [⟨0, 32, .rw, .num 0, .img⟩]⟩,
  ⟨0x1004, 512, 0x8, [⟨0, 32, .rw, .num 0, .img⟩]⟩]

/-- The register table of SEAT. -/
def tableSeat : List RDesc := [
  ⟨0x0, 1, 0x0, [⟨0, 14, .rw, .image, .low⟩, ⟨16, 2, .rw, .image, .low⟩, ⟨20, 1, .rwl, .image, .low⟩]⟩,
  ⟨0x4, 1, 0x0, [⟨0, 32, .wo, .num 0, .none⟩]⟩,
  ⟨0x8, 1, 0x0, [⟨0, 1, .ro, .num 0, .none⟩, ⟨8, 8, .ro, .num 0, .low⟩, ⟨16, 16, .ro, .num 0, .none⟩]⟩,
  ⟨0xC, 1, 0x0, [⟨0, 32, .ro, .num 0, .low⟩]⟩,
  ⟨0x10, 1, 0x0, [⟨0, 8, .ro, .num 0, .low⟩, ⟨8, 8, .ro, .num 0, .low⟩, ⟨16, 16, .ro, .num 0, .low⟩]⟩,
  ⟨0x14, 1, 0x0, [⟨0, 7, .ro, .num 0, .low⟩, ⟨7, 1, .ro, .num 0, .low⟩]⟩,
  ⟨0x18, 1, 0x0, [⟨0, 32, .ro, .num 0, .low⟩]⟩,
  ⟨0x20, 8, 0x8, [⟨0, 1, .rwl, .image, .low⟩, ⟨1, 2, .rwl, .image, .low⟩, ⟨6, 26, .rwl, .image, .low⟩]⟩,
  ⟨0x24, 8, 0x8, [⟨6, 26, .rwl, .image, .low⟩]⟩]

/-- The register table of EVT. -/
def tableEVT : List RDesc := [
  ⟨0x0, 1, 0x0, [⟨0, 32, .w1c, .num 0, .low⟩]⟩,
  ⟨0x4, 1, 0x0, [⟨0, 4, .ro, .num 0, .low⟩, ⟨4, 23, .w1c, .num 0, .low⟩]⟩,
  ⟨0x8, 1, 0x0, [⟨0, 32, .rw, .image, .low⟩]⟩,
  ⟨0xC, 1, 0x0, [⟨0, 27, .rw, .image, .low⟩]⟩,
  ⟨0x10, 4, 0x4, [⟨0, 2, .rw, .image, .low⟩, ⟨2, 2, .rw, .image, .low⟩, ⟨4, 2, .rw, .image, .low⟩, ⟨6, 2, .rw, .image, .low⟩, ⟨8, 2, .rw, .image, .low⟩, ⟨10, 2, .rw, .image, .low⟩, ⟨12, 2, .rw, .image, .low⟩, ⟨14, 2, .rw, .image, .low⟩, ⟨16, 2, .rw, .image, .low⟩, ⟨18, 2, .rw, .image, .low⟩, ⟨20, 2, .rw, .image, .low⟩, ⟨22, 2, .rw, .image, .low⟩, ⟨24, 2, .rw, .image, .low⟩, ⟨26, 2, .rw, .image, .low⟩, ⟨28, 2, .rw, .image, .low⟩, ⟨30, 2, .rw, .image, .low⟩]⟩,
  ⟨0x20, 3, 0x4, [⟨0, 32, .w1c, .num 0, .low⟩]⟩,
  ⟨0x2C, 1, 0x0, [⟨0, 1, .ro, .num 0, .none⟩, ⟨1, 1, .ro, .num 0, .none⟩, ⟨2, 1, .ro, .num 0, .none⟩]⟩]

/-- The register table of EVTG. -/
def tableEVTG : List RDesc := [
  ⟨0x800, 1, 0x0, [⟨0, 1, .rw, .image, .low⟩, ⟨1, 1, .rw, .image, .low⟩]⟩,
  ⟨0x804, 1, 0x0, [⟨0, 9, .rw, .image, .low⟩]⟩,
  ⟨0x808, 1, 0x0, [⟨0, 9, .ro, .num 0, .none⟩, ⟨16, 1, .ro, .num 1, .none⟩]⟩,
  ⟨0x80C, 1, 0x0, [⟨4, 1, .wo, .num 0, .none⟩]⟩]

/-- The register table of DMA. -/
def tableDMA : List RDesc := [
  ⟨0x0, 1, 0x0, [⟨0, 1, .wo, .num 0, .none⟩, ⟨1, 1, .wo, .num 0, .none⟩, ⟨2, 1, .rw, .num 0, .low⟩, ⟨4, 4, .rw, .num 0, .low⟩, ⟨8, 6, .rw, .num 0, .low⟩]⟩,
  ⟨0x4, 1, 0x0, [⟨0, 32, .rw, .num 0, .low⟩]⟩,
  ⟨0x8, 1, 0x0, [⟨0, 1, .ro, .num 0, .none⟩, ⟨1, 1, .ro, .num 0, .none⟩, ⟨2, 1, .ro, .num 0, .low⟩, ⟨3, 1, .w1c, .num 0, .low⟩, ⟨4, 4, .ro, .num 0, .low⟩, ⟨8, 1, .w1c, .num 0, .low⟩, ⟨9, 7, .ro, .num 0, .low⟩, ⟨16, 16, .ro, .num 0, .low⟩]⟩,
  ⟨0xC, 1, 0x0, [⟨0, 32, .ro, .num 0, .low⟩]⟩,
  ⟨0x10, 1, 0x0, [⟨0, 20, .ro, .num 0, .none⟩]⟩,
  ⟨0x14, 1, 0x0, [⟨0, 5, .ro, .fixed, .all⟩]⟩]

/-- The register table of MPU. -/
def tableMPU : List RDesc := [
  ⟨0x0, 16, 0x8, [⟨0, 1, .ro, .num 0, .low⟩, ⟨5, 27, .ro, .num 0, .low⟩]⟩,
  ⟨0x4, 16, 0x8, [⟨0, 1, .ro, .num 0, .low⟩, ⟨1, 1, .ro, .num 0, .low⟩, ⟨2, 1, .ro, .num 0, .low⟩, ⟨3, 1, .ro, .num 0, .low⟩, ⟨5, 27, .ro, .num 0, .low⟩]⟩,
  ⟨0x80, 1, 0x0, [⟨0, 16, .ro, .num 0, .fld⟩]⟩,
  ⟨0x84, 1, 0x0, [⟨0, 32, .ro, .num 0, .fld⟩]⟩,
  ⟨0x88, 1, 0x0, [⟨0, 2, .ro, .num 0, .fld⟩, ⟨2, 1, .ro, .num 0, .fld⟩, ⟨3, 1, .ro, .num 0, .fld⟩]⟩]

/-- The register table of RNT. -/
def tableRNT : List RDesc := [
  ⟨0x0, 1, 0x0, [⟨0, 32, .rw, .image, .low⟩]⟩,
  ⟨0x4, 1, 0x0, [⟨0, 32, .rw, .image, .low⟩]⟩,
  ⟨0x8, 1, 0x0, [⟨0, 32, .rw, .image, .low⟩]⟩,
  ⟨0xC, 1, 0x0, [⟨0, 32, .rw, .image, .low⟩]⟩,
  ⟨0x10, 1, 0x0, [⟨0, 1, .rw, .image, .low⟩, ⟨1, 1, .rw, .image, .low⟩, ⟨2, 1, .rw, .image, .low⟩, ⟨8, 7, .rw, .image, .low⟩, ⟨16, 2, .rw, .image, .low⟩, ⟨24, 8, .rw, .image, .low⟩]⟩,
  ⟨0x14, 1, 0x0, [⟨0, 3, .ro, .num 0, .low⟩, ⟨3, 1, .ro, .num 0, .low⟩, ⟨4, 1, .ro, .num 0, .low⟩, ⟨5, 1, .ro, .num 0, .low⟩, ⟨6, 1, .ro, .num 0, .low⟩, ⟨7, 1, .ro, .num 0, .low⟩, ⟨8, 8, .ro, .num 0, .low⟩, ⟨16, 8, .ro, .num 0, .low⟩, ⟨24, 4, .ro, .num 0, .low⟩]⟩,
  ⟨0x18, 1, 0x0, [⟨0, 32, .ro, .num 0, .low⟩]⟩,
  ⟨0x1C, 1, 0x0, [⟨0, 16, .ro, .num 0, .low⟩, ⟨16, 8, .ro, .num 0, .low⟩, ⟨24, 8, .ro, .num 0, .low⟩]⟩]

/-- The register table of RING. -/
def tableRing : List RDesc := [
  ⟨0x0, 1, 0x0, [⟨0, 2, .rw, .image, .low⟩, ⟨2, 1, .rw, .image, .low⟩, ⟨8, 11, .rw, .image, .low⟩, ⟨24, 8, .rw, .image, .low⟩]⟩,
  ⟨0x4, 1, 0x0, [⟨0, 22, .rw, .image, .low⟩]⟩,
  ⟨0x8, 1, 0x0, [⟨0, 1, .rw, .image, .low⟩]⟩,
  ⟨0xC, 1, 0x0, [⟨0, 2, .ro, .num 0, .low⟩, ⟨2, 3, .ro, .num 0, .none⟩, ⟨5, 1, .ro, .num 0, .none⟩, ⟨6, 1, .ro, .num 1, .low⟩, ⟨16, 11, .ro, .num 0, .none⟩]⟩,
  ⟨0x10, 1, 0x0, [⟨0, 32, .ro, .num 0, .none⟩]⟩,
  ⟨0x14, 1, 0x0, [⟨0, 32, .ro, .num 0, .none⟩]⟩,
  ⟨0x18, 1, 0x0, [⟨0, 32, .ro, .num 0, .none⟩]⟩,
  ⟨0x1C, 1, 0x0, [⟨0, 32, .ro, .num 0, .none⟩]⟩,
  ⟨0x20, 1, 0x0, [⟨0, 32, .ro, .num 0, .none⟩]⟩,
  ⟨0x24, 1, 0x0, [⟨0, 32, .ro, .num 0, .low⟩]⟩,
  ⟨0x28, 1, 0x0, [⟨0, 32, .ro, .num 0, .low⟩]⟩,
  ⟨0x2C, 1, 0x0, [⟨0, 32, .wo, .num 0, .none⟩]⟩,
  ⟨0x30, 1, 0x0, [⟨0, 32, .wo, .num 0, .none⟩]⟩,
  ⟨0x34, 1, 0x0, [⟨0, 17, .rw, .num 0, .low⟩]⟩,
  ⟨0x38, 1, 0x0, [⟨0, 32, .ro, .num 0, .none⟩]⟩,
  ⟨0x3C, 1, 0x0, [⟨0, 32, .ro, .num 0, .none⟩]⟩,
  ⟨0x40, 1, 0x0, [⟨0, 32, .ro, .num 0, .none⟩]⟩,
  ⟨0x44, 1, 0x0, [⟨0, 32, .ro, .num 0, .notPor⟩]⟩,
  ⟨0x48, 1, 0x0, [⟨0, 16, .wo, .num 0, .none⟩]⟩,
  ⟨0x4C, 1, 0x0, [⟨0, 11, .ro, .num 0, .low⟩, ⟨11, 1, .ro, .num 0, .none⟩, ⟨16, 16, .ro, .num 0, .low⟩]⟩,
  ⟨0x50, 1, 0x0, [⟨0, 13, .w1c, .num 0, .low⟩]⟩,
  ⟨0x54, 1, 0x0, [⟨0, 13, .rw, .image, .low⟩]⟩,
  ⟨0x80, 2, 0x20, [⟨0, 1, .ro, .num 0, .none⟩, ⟨1, 1, .ro, .num 0, .none⟩, ⟨2, 1, .ro, .num 0, .none⟩, ⟨3, 1, .ro, .num 0, .none⟩, ⟨4, 1, .ro, .num 0, .none⟩, ⟨8, 8, .ro, .num 0, .none⟩, ⟨16, 8, .ro, .num 0, .none⟩]⟩,
  ⟨0x84, 2, 0x20, [⟨0, 32, .ro, .num 0, .low⟩]⟩,
  ⟨0x88, 2, 0x20, [⟨0, 16, .ro, .num 0, .low⟩, ⟨16, 16, .ro, .num 0, .low⟩]⟩,
  ⟨0x8C, 2, 0x20, [⟨0, 16, .ro, .num 0, .low⟩]⟩,
  ⟨0x100, 1, 0x0, [⟨0, 1, .wo, .num 0, .none⟩, ⟨1, 1, .wo, .num 0, .none⟩]⟩,
  ⟨0x104, 1, 0x0, [⟨0, 11, .rw, .num 0, .low⟩]⟩,
  ⟨0x108, 1, 0x0, [⟨0, 16, .rw, .num 0, .low⟩, ⟨16, 11, .rw, .num 0, .low⟩]⟩,
  ⟨0x10C, 1, 0x0, [⟨0, 16, .rw, .num 0, .low⟩, ⟨16, 11, .ro, .num 0, .low⟩]⟩,
  ⟨0x110, 1, 0x0, [⟨0, 3, .ro, .num 0, .low⟩, ⟨8, 8, .ro, .num 0, .low⟩, ⟨16, 16, .ro, .num 0, .low⟩]⟩,
  ⟨0x114, 1, 0x0, [⟨0, 16, .rw, .image, .low⟩]⟩,
  ⟨0x200, 8, 0x10, [⟨0, 5, .rw, .num 0, .low⟩, ⟨5, 1, .rw, .num 0, .low⟩, ⟨6, 1, .wo, .num 0, .none⟩, ⟨7, 1, .ro, .num 0, .low⟩, ⟨8, 1, .ro, .num 0, .low⟩, ⟨9, 1, .ro, .num 0, .low⟩, ⟨10, 2, .ro, .num 0, .low⟩]⟩,
  ⟨0x204, 8, 0x10, [⟨0, 16, .rw, .num 0, .low⟩]⟩,
  ⟨0x208, 8, 0x10, [⟨0, 32, .rw, .num 0, .low⟩]⟩,
  ⟨0x20C, 8, 0x10, [⟨0, 32, .rw, .num 0, .low⟩]⟩]

/-- The register table of PAIR. -/
def tablePair : List RDesc := [
  ⟨0x0, 1, 0x0, [⟨0, 1, .rwl, .image, .low⟩, ⟨4, 4, .rwl, .image, .low⟩, ⟨8, 1, .rw, .image, .low⟩, ⟨16, 13, .rw, .image, .low⟩]⟩,
  ⟨0x4, 1, 0x0, [⟨0, 2, .ro, .num 0, .none⟩, ⟨2, 1, .ro, .num 0, .none⟩, ⟨3, 1, .ro, .num 0, .none⟩, ⟨4, 1, .ro, .num 0, .none⟩, ⟨5, 1, .ro, .num 0, .none⟩, ⟨6, 1, .ro, .num 0, .none⟩, ⟨7, 1, .ro, .num 0, .none⟩, ⟨8, 3, .ro, .strap, .none⟩, ⟨12, 3, .ro, .num 0, .none⟩]⟩,
  ⟨0x8, 1, 0x0, [⟨0, 2, .ro, .num 2, .none⟩, ⟨8, 2, .ro, .num 2, .none⟩, ⟨16, 2, .ro, .num 2, .none⟩, ⟨24, 2, .ro, .num 2, .none⟩, ⟨2, 1, .ro, .num 0, .none⟩, ⟨10, 1, .ro, .num 0, .none⟩, ⟨18, 1, .ro, .num 0, .none⟩, ⟨26, 1, .ro, .num 0, .none⟩, ⟨3, 1, .ro, .num 0, .none⟩, ⟨11, 1, .ro, .num 0, .none⟩, ⟨19, 1, .ro, .num 0, .none⟩, ⟨27, 1, .ro, .num 0, .none⟩, ⟨4, 1, .ro, .num 0, .none⟩, ⟨12, 1, .ro, .num 0, .none⟩, ⟨20, 1, .ro, .num 0, .none⟩, ⟨28, 1, .ro, .num 0, .none⟩, ⟨5, 1, .ro, .num 0, .none⟩, ⟨13, 1, .ro, .num 0, .none⟩, ⟨21, 1, .ro, .num 0, .none⟩, ⟨29, 1, .ro, .num 0, .none⟩, ⟨6, 1, .ro, .num 0, .none⟩, ⟨14, 1, .ro, .num 0, .none⟩, ⟨22, 1, .ro, .num 0, .none⟩, ⟨30, 1, .ro, .num 0, .none⟩, ⟨7, 1, .ro, .num 0, .none⟩, ⟨15, 1, .ro, .num 0, .none⟩, ⟨23, 1, .ro, .num 0, .none⟩, ⟨31, 1, .ro, .num 0, .none⟩]⟩,
  ⟨0xC, 1, 0x0, [⟨0, 32, .ro, .stored, .all⟩]⟩,
  ⟨0x10, 1, 0x0, [⟨0, 32, .ro, .num 0, .none⟩]⟩,
  ⟨0x14, 1, 0x0, [⟨0, 32, .ro, .num 0, .none⟩]⟩,
  ⟨0x18, 1, 0x0, [⟨0, 32, .ro, .num 4294967295, .none⟩]⟩,
  ⟨0x1C, 1, 0x0, [⟨0, 32, .ro, .num 4294967295, .notPor⟩]⟩,
  ⟨0x20, 1, 0x0, [⟨0, 4, .ro, .num 0, .notPor⟩, ⟨4, 4, .ro, .num 0, .notPor⟩, ⟨16, 16, .ro, .num 0, .notPor⟩]⟩,
  ⟨0x24, 1, 0x0, [⟨0, 16, .wo, .num 0, .none⟩, ⟨16, 3, .ro, .num 0, .none⟩, ⟨20, 4, .ro, .num 0, .none⟩]⟩,
  ⟨0x28, 1, 0x0, [⟨0, 12, .w1c, .num 0, .low⟩]⟩,
  ⟨0x2C, 1, 0x0, [⟨0, 12, .rw, .image, .low⟩]⟩,
  ⟨0x30, 1, 0x0, [⟨0, 16, .ro, .num 0, .low⟩, ⟨16, 8, .ro, .num 0, .low⟩, ⟨24, 8, .ro, .num 0, .low⟩]⟩,
  ⟨0x34, 1, 0x0, [⟨0, 16, .ro, .num 0, .none⟩]⟩,
  ⟨0x40, 16, 0x4, [⟨0, 32, .ro, .num 0, .none⟩]⟩]

/-- The register table of WDG. -/
def tableWDG : List RDesc := [
  ⟨0x0, 1, 0x0, [⟨0, 24, .rwl, .image, .low⟩]⟩,
  ⟨0x4, 1, 0x0, [⟨0, 24, .rwl, .image, .low⟩]⟩,
  ⟨0x8, 1, 0x0, [⟨0, 3, .rwl, .image, .low⟩]⟩,
  ⟨0xC, 1, 0x0, [⟨0, 16, .wo, .num 0, .none⟩]⟩,
  ⟨0x10, 1, 0x0, [⟨0, 16, .wo, .num 0, .none⟩]⟩,
  ⟨0x14, 1, 0x0, [⟨0, 1, .ro, .num 0, .none⟩, ⟨1, 1, .ro, .num 0, .none⟩, ⟨2, 1, .ro, .num 1, .none⟩, ⟨3, 1, .ro, .num 0, .none⟩, ⟨16, 16, .ro, .num 0, .low⟩]⟩,
  ⟨0x18, 1, 0x0, [⟨0, 24, .ro, .num 0, .none⟩]⟩,
  ⟨0x1C, 1, 0x0, [⟨0, 16, .ro, .num 0, .low⟩]⟩,
  ⟨0x20, 1, 0x0, [⟨0, 4, .ro, .num 0, .all⟩, ⟨8, 24, .ro, .num 0, .all⟩]⟩]

/-- The register table of CLKMON. -/
def tableClkmon : List RDesc := [
  ⟨0x0, 1, 0x0, [⟨0, 1, .ro, .num 1, .none⟩, ⟨1, 1, .ro, .num 0, .none⟩, ⟨2, 1, .ro, .num 0, .none⟩, ⟨3, 1, .w1c, .num 0, .low⟩, ⟨4, 1, .ro, .num 0, .none⟩, ⟨8, 8, .ro, .num 0, .low⟩, ⟨16, 8, .ro, .num 0, .none⟩]⟩,
  ⟨0x4, 1, 0x0, [⟨0, 1, .wo, .num 0, .none⟩]⟩,
  ⟨0x8, 1, 0x0, [⟨0, 1, .rwl, .image, .low⟩]⟩]

/-- The register table of CANDLE. -/
def tableCandle : List RDesc := [
  ⟨0x0, 1, 0x0, [⟨0, 1, .wo, .num 0, .none⟩, ⟨8, 8, .rw, .image, .low⟩]⟩,
  ⟨0x4, 1, 0x0, [⟨0, 1, .ro, .num 0, .none⟩, ⟨1, 1, .ro, .num 0, .none⟩, ⟨2, 1, .ro, .num 0, .none⟩]⟩,
  ⟨0x8, 1, 0x0, [⟨0, 32, .ro, .log, .all⟩]⟩,
  ⟨0xC, 1, 0x0, [⟨0, 7, .ro, .log, .all⟩]⟩,
  ⟨0x10, 1, 0x0, [⟨0, 32, .ro, .num 4294967295, .all⟩]⟩,
  ⟨0x14, 1, 0x0, [⟨0, 7, .w1c, .num 0, .low⟩]⟩,
  ⟨0x18, 1, 0x0, [⟨0, 7, .rw, .image, .low⟩]⟩,
  ⟨0x20, 8, 0x4, [⟨0, 32, .ro, .log, .all⟩]⟩,
  ⟨0x40, 4, 0x8, [⟨0, 32, .ro, .log, .all⟩]⟩,
  ⟨0x44, 4, 0x8, [⟨0, 32, .ro, .log, .all⟩]⟩,
  ⟨0x80, 20, 0x4, [⟨0, 32, .ro, .log, .all⟩]⟩,
  ⟨0xD0, 2, 0x8, [⟨0, 8, .ro, .log, .all⟩, ⟨8, 8, .ro, .log, .all⟩, ⟨16, 8, .ro, .num 0, .none⟩]⟩,
  ⟨0xD4, 2, 0x8, [⟨0, 32, .ro, .num 0, .none⟩]⟩,
  ⟨0xE0, 1, 0x0, [⟨0, 16, .ro, .log, .all⟩, ⟨16, 16, .ro, .log, .all⟩]⟩,
  ⟨0xE4, 1, 0x0, [⟨0, 16, .ro, .log, .all⟩, ⟨16, 4, .ro, .log, .all⟩]⟩,
  ⟨0x100, 32, 0x20, [⟨0, 32, .ro, .log, .all⟩]⟩,
  ⟨0x104, 32, 0x20, [⟨0, 32, .ro, .log, .all⟩]⟩,
  ⟨0x108, 32, 0x20, [⟨0, 32, .ro, .log, .all⟩]⟩,
  ⟨0x10C, 32, 0x20, [⟨0, 32, .ro, .log, .all⟩]⟩,
  ⟨0x110, 32, 0x20, [⟨0, 32, .ro, .log, .all⟩]⟩,
  ⟨0x114, 32, 0x20, [⟨0, 16, .ro, .num 0, .none⟩, ⟨16, 16, .ro, .log, .all⟩]⟩,
  ⟨0x118, 32, 0x20, [⟨0, 4, .ro, .num 15, .all⟩, ⟨8, 7, .ro, .log, .all⟩, ⟨16, 16, .ro, .log, .all⟩]⟩,
  ⟨0x11C, 32, 0x20, [⟨0, 32, .ro, .num 4294967295, .all⟩]⟩]

/-- The register table of CAL. -/
def tableCAL : List RDesc := [
  ⟨0x0, 1, 0x0, [⟨0, 32, .rw, .num 0, .all⟩]⟩,
  ⟨0x4, 1, 0x0, [⟨0, 8, .rw, .num 0, .all⟩]⟩,
  ⟨0x8, 1, 0x0, [⟨0, 15, .ro, .num 0, .all⟩]⟩,
  ⟨0xC, 1, 0x0, [⟨0, 1, .ro, .num 0, .all⟩, ⟨1, 1, .rw, .num 0, .all⟩, ⟨16, 16, .rw, .num 0, .all⟩]⟩]

/-- The register table of NVM. -/
def tableNVM : List RDesc := [
  ⟨0x0, 1, 0x0, [⟨0, 1, .ro, .num 0, .none⟩, ⟨1, 3, .ro, .num 0, .none⟩, ⟨4, 4, .ro, .num 0, .low⟩]⟩,
  ⟨0x4, 1, 0x0, [⟨0, 16, .ro, .num 30000, .all⟩]⟩,
  ⟨0x8, 1, 0x0, [⟨0, 32, .ro, .num 0, .low⟩]⟩,
  ⟨0x10, 1, 0x0, [⟨0, 1, .wo, .num 0, .none⟩, ⟨1, 1, .wo, .num 0, .none⟩, ⟨2, 1, .wo, .num 0, .none⟩]⟩,
  ⟨0x14, 1, 0x0, [⟨0, 3, .ro, .num 0, .low⟩, ⟨8, 8, .ro, .num 0, .low⟩]⟩,
  ⟨0x18, 2, 0x4, [⟨0, 1, .ro, .num 0, .low⟩, ⟨8, 8, .ro, .num 0, .low⟩, ⟨16, 8, .ro, .num 0, .low⟩, ⟨24, 8, .ro, .num 0, .low⟩]⟩,
  ⟨0x20, 2, 0x4, [⟨0, 32, .ro, .num 0, .low⟩]⟩,
  ⟨0x28, 1, 0x0, [⟨0, 1, .ro, .num 0, .low⟩, ⟨16, 8, .ro, .num 0, .low⟩, ⟨24, 8, .ro, .num 0, .low⟩]⟩,
  ⟨0x30, 1, 0x0, [⟨0, 1, .wo, .num 0, .none⟩, ⟨1, 3, .rw, .num 0, .low⟩]⟩,
  ⟨0x34, 1, 0x0, [⟨0, 20, .rw, .num 0, .low⟩]⟩,
  ⟨0x38, 1, 0x0, [⟨0, 16, .rw, .num 0, .low⟩, ⟨16, 16, .rw, .num 0, .low⟩]⟩,
  ⟨0x100, 64, 0x4, [⟨0, 32, .wo, .num 0, .none⟩]⟩]

/-- The register table of SEC. -/
def tableSEC : List RDesc := [
  ⟨0x0, 4, 0x4, [⟨0, 1, .ro, .otp, .all⟩, ⟨1, 1, .ro, .otp, .all⟩, ⟨2, 3, .ro, .otp, .all⟩, ⟨5, 1, .ro, .num 0, .all⟩]⟩,
  ⟨0x10, 1, 0x0, [⟨0, 7, .ro, .otp, .all⟩, ⟨8, 7, .ro, .otp, .all⟩]⟩,
  ⟨0x14, 1, 0x0, [⟨0, 2, .ro, .otp, .all⟩, ⟨2, 1, .ro, .num 0, .low⟩, ⟨3, 2, .ro, .num 0, .low⟩]⟩,
  ⟨0x18, 1, 0x0, [⟨0, 16, .wo, .num 0, .none⟩, ⟨16, 4, .wo, .num 0, .none⟩, ⟨20, 4, .wo, .num 0, .none⟩]⟩,
  ⟨0x1C, 1, 0x0, [⟨0, 1, .ro, .num 0, .none⟩, ⟨8, 8, .ro, .num 0, .low⟩]⟩,
  ⟨0x20, 1, 0x0, [⟨0, 3, .rw, .num 0, .none⟩]⟩,
  ⟨0x40, 8, 0x4, [⟨0, 32, .wo, .num 0, .none⟩]⟩,
  ⟨0x80, 16, 0x4, [⟨0, 32, .wo, .num 0, .none⟩]⟩]

/-- The fields of the register at an offset of a table; none where the offset holds no register (R420). -/
def findReg : List RDesc → Nat → Option (List FDesc)
  | [], _ => none
  | r :: rs, o =>
    if r.off ≤ o ∧ o < r.off + (if r.cnt = 1 then 4 else r.cnt * r.stride) ∧ (r.cnt = 1 ∨ (o - r.off) % r.stride = 0) ∧ o % 4 = 0 then
      some r.fields
    else findReg rs o

/-- The fields of the register at a host word address (R419, R433); none where the address holds no register. A key
of a seat's own copy of a banked register (R421) is the address plus 2^32 times the seat. -/
def describe (key : Nat) : Option (List FDesc) :=
  let a := key % 0x100000000
  let o := a % 0x10000
  match a / 0x10000 with
  | 0x0 => findReg tableSYS o
  | 0x1 => if o < 0x100 then findReg tableWDG o else findReg tableClkmon (o - 0x100)
  | 0x2 => if o < 0x400 then findReg tableSeat (o % 0x100) else none
  | 0x3 => if o < 0x400 then findReg tableEVT (o % 0x100) else findReg tableEVTG o
  | 0x4 => if o < 0x8000 then findReg tableCell (o % 0x400) else none
  | 0x5 => if o < 0x4000 then findReg tableBank (o % 0x1000) else none
  | 0x6 => if o < 0x3000 then findReg tableStat (o % 0x80) else none
  | 0x7 => if o < 0x800 then findReg tableWick (o % 0x40) else none
  | 0x8 => findReg tableRing o
  | 0x9 => findReg tablePair o
  | 0xA => if o < 0x800 then findReg tableCandle o else findReg tableCAL (o - 0x800)
  | 0xB => findReg tableNVM o
  | 0xC => if o < 0x200 then findReg tableDMA (o % 0x20)
           else if 0x800 ≤ o ∧ o < 0x1300 then findReg tableMPU ((o - 0x800) % 0x100) else none
  | 0xD => findReg tableSEC o
  | 0xE => findReg tableFabric o
  | 0x10 => findReg tableRNT (o % 0x20)
  | _ => none

/-- The numeric part of a Reset column entry; a field whose reset value comes from elsewhere holds 0 until that
source fills it (R40; the model's choice, log entry 4). -/
def Rst.value : Rst → Nat
  | .num v => v
  | _ => 0

/-- The word a register holds after a power-on reset: its fields' Reset column. -/
def resetWord (key : Nat) : Word :=
  match describe key with
  | none => 0
  | some fs => BitVec.ofNat 32 (fs.foldl (fun v f => v + f.rst.value * 2 ^ f.lo) 0)

end Sys2Proof.Machine
end

