-- ==== Sys2Proof/Machine/State.lean ====
section
/-!
DEFINITION. The state of the LJ3240 as plain data: the host-visible registers, the two copies of RWC fields (R37), the
memory windows, the field dies with their cells, and what the logic side holds beside its registers.
-/

namespace Sys2Proof.Machine

/-- No meaning raises a fault: the LJ3240 reports every failure in its own registers (INVENTORY, Faults). The one
constructor is raised by nobody. -/
inductive Fault
  /-- Raised by nobody; safe. -/
  | none
  deriving DecidableEq, Repr

/-- Why a command has no meaning. -/
inductive Refusal
  /-- Raised by an arm of exec whose command has no meaning yet; safe (the model stops where the hardware goes on). -/
  | notModelled (mnemonic : String)
  deriving DecidableEq, Repr

/-- What waits for the commit of a fabric-cycle boundary beside the shadow values (R31, R165, R172, R343). -/
inductive CommitAct
  | mode (m : Mode)
  | resetIntent
  | recReq (b : Bank)
  | recEnd (b : Bank)
  | adopt (n : Chan)
  | statClose (u : Unit96)
  | field (f : Fld) (v : Nat)
  | cwStore
  | hfr
  | bootRetry
  deriving DecidableEq, Repr

/-- The whole state. -/
structure State where
  /-- The host-visible registers: the active word of every register that does not hold its reset word. -/
  regs : List (Nat × Word) := []
  /-- The shadow words accepted for the next commit, and those accepted less than 2 us before a boundary (R21, R37). -/
  shadow : List (Nat × Word) := []
  shadowLate : List (Nat × Word) := []
  /-- The W1C bits that occurred in the running fabric cycle (R38, R232). -/
  fresh : List (Nat × Word) := []
  /-- The bytes of the memory windows (R224). -/
  mem : List Host.Cell := []
  /-- The field dies: cells and banks. -/
  cells : Vector FCell 32 := Vector.replicate 32 {}
  banks : Vector FBank 4 := Vector.replicate 4 {}
  /-- The converters of the field dies, and the statistics units the logic side keeps (chapter 04). -/
  meas : Vector Meas 4 := Vector.replicate 4 {}
  units : Vector StatAcc 96 := Vector.replicate 96 {}
  /-- NV memory, and what Candle keeps in PD_AON beside its registers. -/
  nv : Nv := {}
  candle : Candle := {}
  /-- The running transactions: of seats 0 to 3, and of a load (R196, R198); whether each seat has one open, and the
  device-wide number of the last committed one. -/
  txns : Vector (Option TxnRun) 5 := Vector.replicate 5 none
  txnOpen : Vector Bool 4 := Vector.replicate 4 false
  txnId : Nat := 0
  /-- The running fabric load and the running firmware load (R194, R382). A fabric image is in effect since the last full
  reset. -/
  load : Option Load := none
  fwLoad : Option Load := none
  fabLoaded : Bool := false
  /-- A running SEC command, a running NV read, and the nonce of the debugger's authentication attempt (R386, R388,
  R430). -/
  secRun : Option SecRun := none
  nvRead : Option NvRead := none
  dbgNonce : Option (BitVec 256) := none
  /-- The word the last debug read delivered (R388, R421). -/
  dbgRead : Word := 0
  /-- The boundary scan of the JTAG port (R417). -/
  scan : Scan := {}
  /-- The trim buttons Z and S: held, and steps due at the next commit (R113); a running trim store with its seat and,
  from the commit on, the words it stores (R116). -/
  trimHeld : Vector Bool 2 := Vector.replicate 2 false
  trimSteps : Vector Nat 2 := Vector.replicate 2 0
  trimStore : Option (Seat × Option (List (Nat × Word))) := none
  /-- The logic side's own view of cells and banks. -/
  lcells : Vector LCell 32 := Vector.replicate 32 {}
  lbanks : Vector LBank 4 := Vector.replicate 4 {}
  /-- Fabric cycles since the last full reset, time in 0.25 us that has passed at the last boundary, what device time is
  ahead of it in ns (R285, R286), and whether this cycle's fuse step has run (R18, R19). -/
  cycle : Nat := 0
  now : Nat := 0
  timeAhead : Int := 0
  fuseDone : Bool := false
  /-- us since each seat's last counted refresh, and refreshes this cycle has seen (R32, R170). -/
  seatAge : Vector Nat 4 := Vector.replicate 4 0
  seatFresh : Vector Bool 4 := Vector.replicate 4 false
  /-- The response each seat may still collect (R210, R213). -/
  resp : Vector (List Byte) 4 := Vector.replicate 4 []
  /-- The watchdog (R334 to R340): the time in 0.25 us its count was 0; OPEN, TIMEOUT and SERVICER (4: MARKHOR) in force. -/
  wdgStart : Nat := 0
  wdgOpen : Nat := 100
  wdgTimeout : Nat := 100000
  wdgServicer : Nat := 4
  /-- MARKHOR returns to SLEEP once it has served the watchdog (R341); the last wake source registered in the running fabric
  cycle (R363); the event lines that wait in SLEEP for the exit, with their seats (R362). -/
  resleep : Bool := false
  wokeBy : Option WakeSrc := none
  dueLines : List (Nat × Seat) := []
  /-- The time in 0.25 us of the last reset release (R328, R350). -/
  releasedAt : Nat := 0
  /-- The time in 0.25 us since which XTAL_OK has read 1, and a RESTORE that waits for the boundary (R332). -/
  xtalSince : Option Nat := none
  restoreReq : Bool := false
  /-- In PD_AON beside the registers: the last boot ended before BOOT_OK, and the class of the last failed boot (R351,
  R353). -/
  bootEnded : Bool := false
  lastFail : Nat := 0
  /-- The release of a WDR or HFR waits for a page operation (R347). -/
  graceWait : Bool := false
  /-- An uncorrectable ECC error since the last clear (R234). -/
  eccLatch : Bool := false
  /-- The DMA controller (R235 to R241). -/
  dma : DmaSt := {}
  /-- Per DMA channel, the triggers TRIG selects that have come and wait for the controller (R241). -/
  dmaDue : Vector Nat 16 := Vector.replicate 16 0
  /-- The ring functions. -/
  ring : RingSt := {}
  /-- The pair functions. -/
  pair : PairSt := {}
  /-- VDDIO is valid (R359). -/
  vddio : Bool := true
  /-- The logic side is held in reset, from a reset's trigger to RESET_RELEASE (R343, R349). -/
  inReset : Bool := false
  /-- Banks whose field state the logic side still has to read back after a reset of its own (R40, R61). -/
  readBack : Vector Bool 4 := Vector.replicate 4 false
  /-- What waits for the next commit. -/
  commits : List CommitAct := []
  /-- The commands that wait, first in, first out. -/
  pending : List Instr := []
  /-- The model's own field: how many free values have been used (log entry 3). -/
  free : Nat := 0
  deriving DecidableEq, Repr

/-- The state right after a power-on reset of a part that has been through the factory and no more (R12, R343, R349): the
logic side held in reset, each register at its Reset word, the POR marker still to be sent, field supplies off, NV memory
as delivered, with key slot 0 the vendor's (R385; log entries 5 and 15). REVISION and IDCODE are those of a revision A part
(R422, R423). -/
def State.reset : State := {
  regs := [(0x4, 0x01111110), (0x10, 0x132405CF), (0xD0000, 5)]
  nv := { hash := (Vector.replicate 4 []).set 0 ((List.range 32).map Config.vendorHash), use := #v[1, 0, 0, 0] }
  lbanks := Vector.replicate 4 { porMarker := true }
  inReset := true }

end Sys2Proof.Machine
end

