-- ==== Sys2Proof/Machine/Ops.lean ====
section
/-!
DEFINITION. The named operations over the state: registers and their fields, cells and banks, event lines (R231).
-/

namespace Sys2Proof.Machine

/-- The bank of a channel (R8). -/
def bankOf (n : Chan) : Bank := ⟨n.val / 8, by omega⟩

/-- The position k of a channel in its bank (R8). -/
def posOf (n : Chan) : Fin 8 := ⟨n.val % 8, by omega⟩

/-- The channel B b.Ck (R8). -/
def chanOf (b : Bank) (k : Fin 8) : Chan := ⟨8 * b.val + k.val, by omega⟩

/-- The eight channels of a bank, ascending. -/
def bankChans (b : Bank) : List Chan := (List.finRange 8).map (chanOf b)

/-- Every channel, ascending. -/
def allChans : List Chan := List.finRange 32

/-- Every bank, ascending. -/
def allBanks : List Bank := List.finRange 4

/-- Every seat, ascending. -/
def allSeats : List Seat := List.finRange 4

/-- The key of a seat's own copy of a banked register (R421). -/
def bankedKey (seat : Seat) (a : Nat) : Nat := a + 0x100000000 * seat.val

/-- A field of a seat's own copy of a banked register. -/
def Fld.ofSeat (f : Fld) (seat : Seat) : Fld := { f with addr := bankedKey seat f.addr }

namespace State

/-- The active word of a register. -/
def word (s : State) (a : Nat) : Word := sparseGet resetWord s.regs a

/-- The state with the active word of a register replaced. -/
def setWord (s : State) (a : Nat) (v : Word) : State := { s with regs := sparseSet resetWord s.regs a v }

/-- A field of the active word. -/
def get (s : State) (f : Fld) : Nat := bits (s.word f.addr) f.lo f.w

/-- A field at 1 or more. -/
def isSet (s : State) (f : Fld) : Bool := s.get f != 0

/-- A field of the active word replaced, by the low bits of a number. -/
def put (s : State) (f : Fld) (v : Nat) : State := s.setWord f.addr (setBits (s.word f.addr) f.lo f.w v)

/-- A one-bit field replaced. -/
def putB (s : State) (f : Fld) (b : Bool) : State := s.put f b.toNat

/-- A counting field that saturates. -/
def addSat (s : State) (f : Fld) (k : Nat) : State := s.put f (satAdd f.w (s.get f) k)

/-- A counting field that wraps. -/
def addWrap (s : State) (f : Fld) (k : Nat) : State := s.put f (s.get f + k)

/-- A cell of a field die. -/
def cell (s : State) (n : Chan) : FCell := s.cells[n]

/-- A cell of a field die changed. -/
def modCell (s : State) (n : Chan) (g : FCell → FCell) : State := { s with cells := s.cells.set n (g s.cells[n]) }

/-- A field die's bank part. -/
def bank (s : State) (b : Bank) : FBank := s.banks[b]

/-- A field die's bank part changed. -/
def modBank (s : State) (b : Bank) (g : FBank → FBank) : State := { s with banks := s.banks.set b (g s.banks[b]) }

/-- The logic side's view of a cell. -/
def lcell (s : State) (n : Chan) : LCell := s.lcells[n]

/-- The logic side's view of a cell changed. -/
def modLcell (s : State) (n : Chan) (g : LCell → LCell) : State :=
  { s with lcells := s.lcells.set n (g s.lcells[n]) }

/-- The logic side's view of a bank. -/
def lbank (s : State) (b : Bank) : LBank := s.lbanks[b]

/-- The logic side's view of a bank changed. -/
def modLbank (s : State) (b : Bank) (g : LBank → LBank) : State :=
  { s with lbanks := s.lbanks.set b (g s.lbanks[b]) }

/-- A state changed once for each element of a list, in its order. -/
def forEach {α : Type} (s : State) (l : List α) (g : State → α → State) : State := l.foldl g s

/-- A field of the field-side copy of a bank (R43). -/
def fget (s : State) (b : Bank) (f : Fld) : Nat := bits (sparseGet resetWord (s.bank b).copy f.addr) f.lo f.w

/-- The function the field die gives a cell. -/
def fn (s : State) (n : Chan) : Nat := s.fget (bankOf n) (CELL_CFG_FUNC n)

/-- The function in effect on the logic side. -/
def lfn (s : State) (n : Chan) : Nat := s.get (CELL_CFG_FUNC n)

/-- The device mode (R5). -/
def mode (s : State) : Mode := Mode.ofCode (s.get SYS_MODE_MODE)

/-- The owning seat of a cell (R41). -/
def owner (s : State) (n : Chan) : Seat := Fin.ofNat 4 (s.get (CELL_OWN_SEAT n))

/-- Bits of a W1C register set by an occurrence in the running fabric cycle (R38). -/
def raiseBits (s : State) (a : Nat) (m : Word) : State :=
  { s.setWord a (s.word a ||| m) with fresh := sparseSet (fun _ => 0) s.fresh a (sparseGet (fun _ => 0) s.fresh a ||| m) }

/-- A one-bit W1C field set by an occurrence. -/
def raiseFld (s : State) (f : Fld) : State := s.raiseBits f.addr (1#32 <<< f.lo)

/-- The logic side sleeps. -/
def sleeping (s : State) : Bool := s.get SYS_PWR_STAT_STATE == 3

/-- A DMA trigger (R241): every enabled channel whose TRIG selects it has one more to act on. DMA stops in SLEEP (R360). -/
def dmaEdge (s : State) (trig : Nat) (mine : DmaCh → Bool) : State :=
  { s with dmaDue := Vector.ofFn (fun c =>
      s.dmaDue[c] + (! s.sleeping && s.isSet (DMA_STAT_ENABLED c) && s.get (DMA_CTRL_TRIG c) == trig && mine c).toNat) }

/-- An event line of a seat rises: a trigger of the seat's DMA channels that wait for it (R241). -/
def lineEdge (s : State) (line : Nat) (seat : Seat) : State :=
  s.dmaEdge 1 (fun c => seatOfCh c == some seat && s.get (DMA_CTRL_LINE c) == line)

/-- An event line raised in one seat: its pending bit sets (R231); in SLEEP it waits for the exit (R362). -/
def raiseIn (s : State) (line : Nat) (seat : Seat) : State :=
  if s.sleeping then { s with dueLines := s.dueLines ++ [(line, seat)] }
  else (if line < 32 then s.raiseBits (EVT_PEND_LO_LINE seat).addr (1#32 <<< line)
  else s.raiseBits (EVT_PEND_HI_LINE seat).addr (1#32 <<< (line - 32))).lineEdge line seat

/-- A statistics unit closes: its SNAP bit sets in its owner's seat, and the line of its bank rises (R231). -/
def raiseSnap (s : State) (seat : Seat) (u : Nat) : State :=
  (s.raiseBits (EVT_SNAP_UNIT seat (u / 32)).addr (1#32 <<< (u % 32))).lineEdge (32 + u / 24) seat

/-- An event line raised in the seats it is delivered to (R231). -/
def raiseLine (s : State) (line : Nat) (seats : List Seat) : State := s.forEach seats (fun s x => s.raiseIn line x)

/-- An uncorrectable ECC error (R234): the source of FAULT_N latches, line 58. -/
def eccError (s : State) : State := { s with eccLatch := true }.raiseLine 58 allSeats

/-- An NV operation fails with a code of NVM.STAT.ERR at an NV offset; code 3 is an uncorrectable ECC error (table NVM STAT,
R231, R234). -/
def nvError (s : State) (err ofs : Nat) : State :=
  let s1 := (s.put NVM_STAT_ERR err).put NVM_ERR_ADDR_ADDR ofs
  if err = 3 then s1.eccError else s1

/-- A SNAP bit of a seat (R231): it reads 0 for a unit that the seat does not own. -/
def snapBit (s : State) (seat : Seat) (u : Nat) : Bool :=
  (s.word (EVT_SNAP_UNIT seat (u / 32)).addr).getLsbD (u % 32) && s.get (STAT_OWN_SEAT u) == seat.val

/-- Whether a line is pending in a seat. Lines 32 to 35 read 1 while a SNAP bit of their bank is 1 (R231). -/
def linePending (s : State) (seat : Seat) (line : Nat) : Bool :=
  if line < 32 then (s.word (EVT_PEND_LO_LINE seat).addr).getLsbD line
  else if line < 36 then
    (List.range 24).any (fun j => s.snapBit seat (24 * (line - 32) + j))
  else (s.word (EVT_PEND_HI_LINE seat).addr).getLsbD (line - 32)

/-- Whether a line is enabled in a seat. -/
def lineEnabled (s : State) (seat : Seat) (line : Nat) : Bool :=
  if line < 32 then (s.word (EVT_EN_LO_EN seat).addr).getLsbD line
  else (s.word (EVT_EN_HI_EN seat).addr).getLsbD (line - 32)

/-- A line both pending and enabled in a seat. -/
def lineOn (s : State) (seat : Seat) (line : Nat) : Bool := s.linePending seat line && s.lineEnabled seat line

/-- ATTN: the seat has an event that is pending and enabled (R217). -/
def attn (s : State) (seat : Seat) : Bool := (List.range 59).any (s.lineOn seat)

/-- The ROUTE field of a line in a seat (R233). -/
def route (s : State) (seat : Seat) (line : Nat) : Nat :=
  bits (s.word (0x30010 + 0x100 * seat.val + 4 * (line / 16))) (2 * (line % 16)) 2

/-- Whether a seat drives IRQ0_N (p = 0) or IRQ1_N (p = 1) (R233). -/
def seatDrives (s : State) (seat : Seat) (p : Nat) : Bool :=
  (List.range 59).any (fun l => s.lineOn seat l && (s.route seat l / 2 ^ p) % 2 == 1)

/-- A cell flag set by an occurrence: its sticky copy in FLAGS, and the cell's event line on a 0-to-1 change of a bit
whose EVT_EN bit is 1 (R231). -/
def setFlags (s : State) (n : Chan) (m : FlagBits) : State :=
  let a := (CELL_FLAGS_OPEN_LOAD n).addr
  let w : Word := m.setWidth 32
  let rising := w &&& ~~~(s.word a)
  let t := s.raiseBits a w
  if rising &&& s.word (CELL_EVT_EN_OPEN_LOAD n).addr ≠ 0 then t.raiseLine n [s.owner n] else t

/-- A field die's converters changed. -/
def modMeas (s : State) (b : Bank) (g : Meas → Meas) : State := { s with meas := s.meas.set b (g s.meas[b]) }

/-- A statistics unit changed. -/
def modUnit (s : State) (u : Unit96) (g : StatAcc → StatAcc) : State := { s with units := s.units.set u (g s.units[u]) }

/-- The frequency correction in ppb with which device time is counted on the main clock (R249, R286, R288): the last one
computed, and on a head or a standalone device TIME_ADJ. -/
def correction (s : State) : Int := s.ring.ppb + if s.get RING_STAT_ROLE = 1 then 0 else 10 * signed 17 (s.get RING_TIME_ADJ_PPM)

/-- What the correction adds to a time in ns within a fabric cycle. -/
def slewNs (s : State) (ns : Int) : Int := ns * s.correction / 1000000000

/-- What the running cycle is lengthened by in ns, so that its boundary falls on a multiple of 10,000 ns of device time (R289). -/
def lengthNs (s : State) : Nat := ((- (250 * ((s.now : Int) + 40) + s.timeAhead)) % 10000).toNat

/-- Device time at a time in 0.25 us, in ns modulo 2^64 (R249, R285, R289): boundaries are 10,000 ns apart in device time, and a
lengthened cycle ends on a multiple of them; within the running cycle it is counted on the main clock with the frequency
correction. -/
def devTime (s : State) (t : Nat) : Nat :=
  let more : Int := if s.now + 40 ≤ t then s.lengthNs else if s.now ≤ t then s.slewNs (250 * ((t : Int) - s.now)) else 0
  ((250 * (t : Int) + s.timeAhead + more) % 18446744073709551616).toNat

/-- Device time so many ns after the last boundary. -/
def devTimeNs (s : State) (ns : Nat) : Nat := ((s.devTime s.now : Int) + ns + s.slewNs ns).toNat

/-- A byte of a memory window. -/
def byteAt (s : State) (a : Nat) : Byte := sparseGet memDefault s.mem a

/-- A byte of a memory window stored. -/
def setByte (s : State) (a : Nat) (v : Byte) : State := { s with mem := sparseSet memDefault s.mem a v }

/-- A word of a memory window, least significant byte first (R9). -/
def memWord (s : State) (a : Nat) : Word := s.byteAt (a + 3) ++ s.byteAt (a + 2) ++ s.byteAt (a + 1) ++ s.byteAt a

/-- Bytes stored from an address up. -/
def setBytes (s : State) (a : Nat) : List Byte → State
  | [] => s
  | v :: t => (s.setByte a v).setBytes (a + 1) t

/-- A word of a memory window stored. -/
def setMemWord (s : State) (a : Nat) (v : Word) : State := s.setBytes a (wordBytes v)

/-- Words stored from an address up. -/
def setMemWords (s : State) (a : Nat) : List Word → State
  | [] => s
  | v :: t => (s.setMemWord a v).setMemWords (a + 4) t

/-- Register words stored from an address up. -/
def setWords (s : State) (a : Nat) : List Word → State
  | [] => s
  | v :: t => (s.setWord a v).setWords (a + 4) t

/-- A free value used up. -/
def useFree (s : State) : State := { s with free := s.free + 1 }

end State

/-- The flags that can arise for a function (R44). The mapping of flags to functions is read from the parts each
function enables (R16) and the rules that detect each flag (log entry 10). -/
def flagMask (fn : Nat) : FlagBits :=
  let bitsOf (l : List Nat) : FlagBits := l.foldl (fun m i => m ||| (1 <<< i)) 0
  let every := [FL_TWARN, FL_TSD]
  let used := every ++ [FL_VF_LOW]
  let sample := used ++ [FL_OVR, FL_DIRTY, FL_PLAUS_FAIL]
  let offState := [FL_OPEN_LOAD, FL_SHORT_VF, FL_XFEED]
  let switch := [FL_PARALLEL_SEEN, FL_ILIM, FL_FUSE_TRIP, FL_UV_OFF]
  match fn with
  | 0x0 => bitsOf (every ++ offState)
  | 0x1 | 0x2 | 0x7 => bitsOf (sample ++ [FL_WIRE_BREAK, FL_STALE])
  | 0xA => bitsOf (used ++ [FL_WIRE_BREAK, FL_STALE])
  | 0x3 | 0x5 => bitsOf (sample ++ offState ++ switch)
  | 0x4 => bitsOf (sample ++ offState ++ switch ++ [FL_INRUSH_CUT])
  | 0x6 => bitsOf (sample ++ [FL_STALE])
  | 0x8 | 0x9 => bitsOf (sample ++ [FL_COMPLIANCE, FL_READBACK_MISMATCH, FL_UV_OFF])
  | _ => 0

/-- The ranges of host addresses a field die keeps a copy of: the bank's CELL, BANK and WICK blocks (R40, R43). -/
def inBankCopy (b : Bank) (a : Nat) : Bool :=
  (0x40000 + 0x2000 * b.val ≤ a && a < 0x40000 + 0x2000 * (b.val + 1)) ||
  (0x50000 + 0x1000 * b.val ≤ a && a < 0x50000 + 0x1000 * (b.val + 1)) ||
  (0x70000 + 0x200 * b.val ≤ a && a < 0x70000 + 0x200 * (b.val + 1)) ||
  a == 0x90000 || (0xA0100 + 0x100 * b.val ≤ a && a < 0xA0100 + 0x100 * (b.val + 1) && a % 0x20 == 0x18)

/-- The fields of a register that an image record sets: those whose Reset column reads image, but for FAMILY and USED,
which the device derives (R183). -/
def imgMask (a : Nat) : Word :=
  let m : Word := match describe a with
    | none => 0
    | some fs => fs.foldl (fun m f => if f.rst = .image then setBits m f.lo f.w (2 ^ f.w - 1) else m) 0
  if a / 0x10000 = 4 ∧ a % 0x400 = 0 then m &&& ~~~ 0x30 else if a / 0x10000 = 4 ∧ a % 0x400 = 0x180 then m &&& ~~~ 2 else m

/-- The fields of a register that come from the image or, for an RWC field, a stored record (R40, R116). -/
def imageMask (a : Nat) : Word :=
  match describe a with
  | none => 0
  | some fs => imgMask a ||| fs.foldl (fun m f =>
      if f.rst = .stored ∧ f.acc = .rwc then setBits m f.lo f.w (2 ^ f.w - 1) else m) 0

/-- The bits of a register the field-side copy holds: the image fields, LOOP_ALM.SEL (R43, R110), PAIR.CFG
(R43), and the retry budget and ILIM_PCT Candle plans (R372). -/
def copyMask (a : Nat) : Word :=
  if a / 0x10000 = 5 ∧ a % 0x1000 = 0xB10 then 1
  else if a / 0x10000 = 0xA then 0xF
  else if a = 0x90000 then 0x1FFF00F1
  else if a / 0x10000 = 4 ∧ a % 0x400 = 0x108 then 0x7F0000
  else imageMask a

/-- The bank configuration the logic side holds (R26, R43): the copied fields of the bank's CELL, BANK and
WICK registers. -/
def State.bankConfig (s : State) (b : Bank) : List (Nat × Word) :=
  (s.regs.filter (fun e => inBankCopy b e.1 && (e.2 &&& copyMask e.1 != resetWord e.1 &&& copyMask e.1))).map
    (fun e => (e.1, e.2 &&& copyMask e.1))

end Sys2Proof.Machine
end

