-- ==== Sys2Proof/Machine/Cells.lean ====
section
/-!
DEFINITION. Cells on the field die: state selection (R29, R309), the value a state applies (R28, R42, R169), and the
output stage under the precedence of R36.
-/

namespace Sys2Proof.Machine

namespace State

/-- A field of the copy as it governs a cell (R43, R110): as it was at a loss of the logic side, until the cell is adopted. -/
def governs (s : State) (n : Chan) (f : Fld) (k : Kept → Nat) : Nat :=
  match (s.cell n).kept with
  | some x => k x
  | none => s.fget (bankOf n) f

/-- The limp-home map entry that governs a cell: 0 none, 1 LH_nA, 2 LH_nB (R43, R76). -/
def limpPin (s : State) (n : Chan) : Nat :=
  s.governs n ⟨0x50A10 + 0x1000 * (bankOf n).val, 2 * (posOf n).val, 2⟩ (·.limp)

/-- The safe code that governs a cell (R43). -/
def safeCode (s : State) (n : Chan) : Nat :=
  s.governs n (CELL_SAFE_CODE n) (·.code)

/-- The VALUE of the safe code that governs a cell (R43). -/
def safeField (s : State) (n : Chan) : Nat :=
  s.governs n (CELL_SAFE_VALUE n) (·.value)

/-- The level of the limp-home pin the map names for a cell; low where it names none (R30, R77). -/
def limpHigh (s : State) (n : Chan) : Bool :=
  match s.limpPin n with
  | 1 => (s.bank (bankOf n)).lha
  | 2 => (s.bank (bankOf n)).lhb
  | _ => false

/-- The value that means on for a switching function: 100 % duty for DO_PWM, 1 for the others (R43's table of OUT). -/
def onValue (s : State) (n : Chan) : Nat := if s.fn n = FN_DO_PWM then 0xFFFF else 1

/-- The alarm level under a LOOP_ALM.SEL (R108): the strap reading 0 low, 1 high, or 2 open, which takes SEL. -/
def strapHigh (s : State) (b : Bank) (sel : Nat) : Bool := (s.bank b).alm = 1 ∨ ((s.bank b).alm = 2 ∧ sel = 1)

/-- The alarm level a bank uses (R108). -/
def almHigh (s : State) (b : Bank) : Bool := s.strapHigh b (s.fget b (BANK_LOOP_ALM_SEL b))

/-- The alarm current of a cell (R109, R110). -/
def almCurrent (s : State) (n : Chan) : Nat :=
  if s.strapHigh (bankOf n) (s.governs n (BANK_LOOP_ALM_SEL (bankOf n)) (·.almSel)) then s.governs n (CELL_AO_ALM_HI_UA n) (·.almHi)
  else s.governs n (CELL_AO_ALM_LO_UA n) (·.almLo)

/-- The programmed safe value of a cell (R42): the value its CODE applies. -/
def safeValue (s : State) (n : Chan) : Nat :=
  match s.safeCode n with
  | 1 => if isSwitchFn (s.fn n) then s.onValue n else 0
  | 2 => (s.cell n).applied
  | 3 => s.safeField n
  | 4 => if isSwitchFn (s.fn n) ∧ s.limpHigh n then s.onValue n else 0
  | 5 => if s.fn n = FN_AO_I then s.almCurrent n else 0
  | _ => 0

/-- The value a state with a cause applies (R27, R28, R169). HOLD keeps the value applied on entry. -/
def valueOf (s : State) (n : Chan) (st : CellState) (ca : Cause) : Nat :=
  if family (s.fn n) ≠ 2 then 0 else
  match st with
  | .active => (s.cell n).commanded
  | .hold => (s.cell n).applied
  | .limp => if isSwitchFn (s.fn n) ∧ s.limpHigh n then s.onValue n else 0
  | .safe =>
    match ca with
    | .silenceRun | .lossRun | .pairRelease => 0
    | _ => s.safeValue n
  | _ => 0

/-- bank.timer_expired(cell) of R29: the hold the cell is in has run out, or has ended with an early release (R309). -/
def timerExpired (s : State) (n : Chan) : Bool :=
  match (s.cell n).cause with
  | .recoveryHold => (s.bank (bankOf n)).recoveryOver
  | .pairHold => (s.bank (bankOf n)).pairHoldOver || ! (s.bank (bankOf n)).holds
  | _ => false

/-- The pair rule (R309). At HOLD_MAX with a partner seen the release is due (R305), and the grace keeps the stages. -/
def pairRule (s : State) (n : Chan) : CellState × Cause :=
  let b := s.bank (bankOf n)
  if ¬ b.holds then (.safe, .pairRelease)
  else if b.releasing ∨ (b.pairHoldOver ∧ b.partnerSeen) then ((s.cell n).state, (s.cell n).cause)
  else if ¬ b.pairHoldOver then (.hold, .pairHold)
  else if s.limpPin n ≠ 0 ∧ ¬ b.partnerSeen then (.limp, .limpMap)
  else (.safe, .pairRelease)

/-- Loss of the logic side, a cell that keeps no earlier state: the rest of R29's branch for bank.logic_lost. -/
def lossRule (s : State) (n : Chan) : CellState × Cause :=
  let b := s.bank (bankOf n)
  if b.paired then s.pairRule n
  else if b.mode = .votive then (.safe, .votive)
  else if b.mode = .recovery then
    if ¬ b.recoveryOver ∧ s.fget (bankOf n) (BANK_RECOVERY_TIMEOUT_MS (bankOf n)) ≠ 0 then (.hold, .recoveryHold)
    else if s.limpPin n ≠ 0 then (.limp, .limpMap)
    else (.safe, .recoveryTimeout)
  else if s.limpPin n ≠ 0 then (.limp, .limpMap)
  else if b.mode = .run then (.safe, .lossRun)
  else (.safe, .loss)

/-- State selection (R29), branch by branch as the spec's procedure has them. A die without a field-side copy has no
function to be OFF: its cells are in CONFIG (R346, R354). A paired bank that the unit does not hold follows the holder's
snapshots (R304). A cell that still has to be adopted after a loss keeps the state the loss rules gave it (R436), but for
VOTIVE, which takes every output cell to SAFE (R354). -/
def selectState (s : State) (n : Chan) : CellState × Cause :=
  let c := s.cell n
  let b := s.bank (bankOf n)
  if b.paired ∧ ¬ b.holds ∧ ¬ b.lost ∧ ¬ b.configuring then (c.state, c.cause)
  else if c.latched then (.fault, .protection)
  else if c.stalled then (.fault, .fuseStall)
  else if s.fn n = FN_OFF ∧ ¬ (b.configuring ∧ b.copy = []) then (.off, .none)
  else if b.configuring then (.config, .bootConfig)
  else if b.lost then
    if family (s.fn n) = 1 then (.active, .none)
    else if ¬ c.adopted ∧ (c.state = .safe ∨ c.state = .limp ∨ c.state = .hold) ∧ c.cause ≠ .txn ∧
        ¬ s.timerExpired n then (c.state, c.cause)
    else s.lossRule n
  else if c.txn = .hold then (.hold, .txn)
  else if c.txn = .config then (.config, .txn)
  else if family (s.fn n) = 1 then (.active, .none)
  else if c.logicCause ≠ .none ∧ (c.logicCause = .votive ∨ c.kept = none) then (.safe, c.logicCause.cause)
  else if ¬ c.adopted then
    if c.state = .config then (.active, .none) else (c.state, c.cause)
  else (.active, .none)

/-- The output stage is held off at rank 1 to 3 of R36: no die, UV_OFF, or a protection of the switch (R52). -/
def heldOff (s : State) (n : Chan) : Bool :=
  let c := s.cell n
  ! (s.bank (bankOf n)).running || c.uvHeld || (isSwitchFn (s.fn n) && (c.retryOff.isSome || c.tsdHold))

/-- The unit does not hold a paired bank: it drives no cell of it and connects none (R303). -/
def parted (s : State) (b : Bank) : Bool := (s.bank b).paired && ! (s.bank b).holds

/-- The output stage is held off at a rank above the cell's state (R36 ranks 1 to 3 and 5). -/
def blocked (s : State) (n : Chan) : Bool := s.heldOff n || s.parted (bankOf n)

/-- An inrush window opens with an off-to-on transition of a DO_LAMP switch (R62); while the bank die is hot it does
not, and INRUSH_CUT sets instead (R64). -/
def openInrush (s : State) (n : Chan) : State :=
  if s.fn n = FN_DO_LAMP ∧ s.fget (bankOf n) (CELL_SW_CFG_INRUSH_MS n) ≠ 0 then
    if (s.bank (bankOf n)).tbwarn then s.modCell n (fun c => { c with occ := setBit c.occ FL_INRUSH_CUT true })
    else s.modCell n (fun c => { c with inrush := true })
  else s

/-- The switch of a cell turns on: an inrush window may open, the off-state tests stop (R62, R73). -/
def turnOn (s : State) (n : Chan) : State :=
  if (s.cell n).on then s else
  (s.openInrush n).modCell n (fun c => { c with
    on := true, onAt := s.now, cycles := c.cycles + 1, phaseWait := false, blanking := false, slot := false, olHigh := 0, olLow := 0, xfeedSrc := none,
    live := setBit (setBit c.live FL_SHORT_VF false) FL_XFEED false })

/-- The switch of a cell turns off: windows and limit timers end, the blanking of the off-state tests starts anew (R62,
R72). -/
def turnOff (s : State) (n : Chan) : State :=
  if (s.cell n).on then
    s.modCell n (fun c => { c with
      on := false, phaseWait := false, inrush := false, inLimit := false, blanking := true, olHigh := 0, olLow := 0,
      live := setBit c.live FL_ILIM false })
  else s.modCell n (fun c => { c with phaseWait := false })

/-- The Wick generator stops (R42, R70). -/
def stopWick (s : State) (n : Chan) : State :=
  s.modCell n (fun c => { c with wickRun := false, duty := 0, onTicks := 0, softOn := false, softLim := false, softT := 0, softFrom := 0 })

/-- SAFE applies the programmed safe value (R28). -/
def programmed (ca : Cause) : Bool := ca != .silenceRun && ca != .lossRun && ca != .pairRelease

/-- A state in which a generator keeps its last period, duty and phase: HOLD, and SAFE with code HOLD (R27, R42). -/
def freezes (s : State) (n : Chan) (st : CellState) (ca : Cause) : Bool :=
  st == .hold || (st == .safe && programmed ca && s.safeCode n == 2)

/-- A state in which the switch of a DO_PWM cell is set directly, with its generator stopped: LIMP, and SAFE but for the codes
HOLD and VALUE (R42, R77). -/
def direct (s : State) (n : Chan) : Bool :=
  let c := s.cell n
  c.state == .limp || (c.state == .safe && ! (programmed c.cause && (s.safeCode n == 2 || s.safeCode n == 3)))

/-- The output stage of a DO_PWM cell follows the value applied, under R36. A generator takes a new duty, and starts, at its
next period start (R69, R70); while its state freezes it, it goes on; of a bank that is not held the mirrored duty stays (R306). A switch that is on at 100 % when a state gives it
back to the generator stays on, as duty 0xFFFF without edges (R31, R66). -/
def settlePwm (s : State) (n : Chan) : State :=
  let c := s.cell n
  if s.parted (bankOf n) ∧ ! s.heldOff n then (s.turnOff n).modCell n (fun c => { c with wickRun := false })
  else if s.blocked n then (s.turnOff n).stopWick n
  else if s.freezes n c.state c.cause then s
  else if c.applied = 0 ∧ ¬ (c.state = .active ∧ c.wickRun) then (s.turnOff n).stopWick n
  else if s.direct n then (s.stopWick n).turnOn n
  else if c.on ∧ ¬ c.wickRun ∧ c.applied ≠ 0 then s.modCell n (fun c => { c with wickRun := true, duty := 0xFFFF })
  else s

/-- Turn-ons that the rule does not exempt wait for the phase point of a cell (R63). -/
def phaseAligned (s : State) (n : Chan) : Bool := s.fn n == FN_DO_LAMP && s.fget (bankOf n) (CELL_SW_CFG_PHASE_ALIGN n) == 1

/-- A commanded turn-on of a DO_LAMP cell waits for its phase point (R63), and one that waits goes on waiting in HOLD. -/
def alignsTurnOn (s : State) (n : Chan) (commandedTurnOn : Bool) : Bool :=
  let c := s.cell n
  s.phaseAligned n && ((commandedTurnOn && c.state == .active) || (c.phaseWait && (c.state == .active || c.state == .hold)))

/-- The output stage follows the value applied, under R36. For 10 us after the partner took, switches stay as they are but for
what ranks above the interlock (R36, R305). -/
def settle (s : State) (n : Chan) (commandedTurnOn : Bool) : State :=
  let c := s.cell n
  let f := s.fn n
  if (s.bank (bankOf n)).opening && isSwitchFn f && ! s.heldOff n && c.state != .fault then s
  else if f = FN_DO_PWM then s.settlePwm n
  else if isSwitchFn f then
    if s.blocked n ∨ c.applied = 0 then (s.turnOff n).stopWick n
    else if c.on then s
    else if s.alignsTurnOn n commandedTurnOn then s.modCell n (fun c => { c with phaseWait := true })
    else s.turnOn n
  else
    (s.turnOff n).stopWick n

/-- The duty a generator holds from its entry into a state that freezes it (R27, R42): the effective duty; 100 % where the
switch is on directly; where the stage is held off, what it is to go on with when the hold ends (R36). -/
def dutyHeld (s : State) (n : Chan) : Nat :=
  let c := s.cell n
  if c.wickRun then c.duty else if c.on then 0xFFFF else if s.blocked n then c.applied else 0

/-- Leaving HOLD into a higher duty starts the ramp at the effective duty held (R70). DESIGN CHOICE: the ramp counts from the period
start before, so that the first period start counts one full period (log entry 30: R70 does not say how far it has risen then). -/
def softFromHeld (s : State) (n : Chan) : State :=
  let c := s.cell n
  if s.fn n = FN_DO_PWM ∧ c.wickRun ∧ s.fget (bankOf n) (WICK_CFG_SOFT n) ≠ 0 ∧ c.duty < c.applied then
    s.modCell n (fun c => { c with softOn := true, softT := 0, softFrom := c.duty })
  else s

/-- The value a state applies is an alarm current (R95, R109): in SAFE with code ALARM, and where it is kept in HOLD, in SAFE with
code HOLD, or as the commanded value on leaving them (R31). -/
def alarmIn (s : State) (n : Chan) (st : CellState) (ca : Cause) (taken : Bool) : Bool :=
  let c := s.cell n
  match st with
  | .safe => programmed ca && (s.safeCode n == 5 || (s.safeCode n == 2 && c.alarm))
  | .hold => c.alarm
  | .active => c.alarm && (taken || c.state == .active)
  | _ => false

/-- The DAC of a loop output has nothing to drive: in SAFE with an off value, in a state whose outputs are off, or frozen from one
(R27, R28, R42). -/
def dacIdle (s : State) (n : Chan) : Bool :=
  let c := s.cell n
  match c.state with
  | .active => false
  | .hold => c.offHeld
  | .safe => ! programmed c.cause || s.safeCode n == 0 || (s.safeCode n == 2 && c.offHeld)
  | _ => true

/-- The cell takes a state and a cause and applies its value (R28). Leaving SAFE, LIMP or HOLD for ACTIVE, the
commanded value is set to the value applied (R31), but where the owner's own write ends a silence. A change of state that
changes the value applied ends a compliance policy action (R107); CONFIG acquires nothing (R82). -/
def enter (s : State) (n : Chan) (st : CellState) (ca : Cause) : State :=
  let c := s.cell n
  let leaving := (c.state == .safe || c.state == .limp || c.state == .hold) && st == .active
  let bySilence := c.cause == .silenceRun || c.cause == .silence
  let s1 := if leaving && ! bySilence && c.cause != .txn then s.modCell n (fun c => { c with commanded := c.shown }) else s
  let v := s1.valueOf n st ca
  let s2 := s1.modCell n (fun c => { c with
    state := st, cause := ca, applied := v, fresh := c.fresh && st != .config,
    heldDuty := if s.fn n = FN_DO_PWM ∧ s1.freezes n st ca then some (c.heldDuty.getD (s.dutyHeld n)) else none,
    kept := if st = .safe ∨ st = .limp ∨ st = .hold ∨ (s.bank (bankOf n)).lost then c.kept else none,
    alarm := s1.alarmIn n st ca (leaving && ! bySilence), offHeld := s1.freezes n st ca && s1.dacIdle n
    policyAct := c.policyAct && (v == c.applied || st == c.state)
    tComp := if c.policyAct ∧ v ≠ c.applied ∧ st ≠ c.state then 0 else c.tComp })
  (if c.heldDuty.isSome ∧ (s2.cell n).heldDuty.isNone then s2.softFromHeld n else s2).settle n false

/-- State selection for one cell, taken (R29). An unfinished staged step is dropped in a loss. -/
def reselect (s : State) (n : Chan) : State :=
  let s1 := if (s.bank (bankOf n)).lost then s.modCell n (fun c => { c with txn := .none }) else s
  let (st, ca) := s.selectState n
  s1.enter n st ca

/-- A protection of a cell latches: the switch turns off and the cell enters FAULT at once (R29, R51, R57). -/
def latchProtection (s : State) (n : Chan) : State :=
  (s.modCell n (fun c => { c with latched := true })).reselect n

/-- The switch or DAC of a cell drives its terminal: what the output stage applies now (R36). -/
def stage (s : State) (n : Chan) : Nat :=
  if s.blocked n ∨ (s.cell n).state = .fault then 0 else (s.cell n).applied

/-- A new TOKEN and a cleared adopt bit for a cell (table CELL[n].STATE): the TOKEN is a free value. -/
def newToken (s : State) (n : Chan) : State :=
  let t := Config.token s.free
  (s.useFree).modCell n (fun c => { c with token := t, adopted := false })

/-- UV_LATCHED and RESTORING follow the cells still held. -/
def noteHeld (s : State) (b : Bank) : State :=
  let held := (bankChans b).any (fun n => (s.cell n).uvHeld)
  s.modBank b (fun k => { k with uvLatched := held, restoring := k.restoring && held })

end State

end Sys2Proof.Machine
end

