-- ==== Sys2Proof/Machine/Inputs.lean ====
section
/-!
DEFINITION. Digital inputs, counters and NAMUR inputs (chapter 03): the debounce filter (R81, R82), wire break (R83,
R93), counting (R84 to R88) and the NAMUR bands (R90).
-/

namespace Sys2Proof.Machine

namespace State

/-- The cell is a digital input that acquires: its bank runs, and it is not in CONFIG or FAULT (R27, R82). -/
def acquiring (s : State) (n : Chan) : Bool :=
  let c := s.cell n
  let f := s.fn n
  (f == FN_DI || f == FN_DI_COUNT || f == FN_DI_NAMUR) && (s.bank (bankOf n)).running &&
    c.state != .config && c.state != .fault && ! s.parted (bankOf n)

/-- LEVEL for an accepted comparator level (R82, R83, R90): inverted by INV, 0 while WIRE_BREAK is live on a contact,
FAULT_VAL in an enabled NAMUR fault band. -/
def inputLevel (s : State) (n : Chan) (c : FCell) : Bool :=
  let b := bankOf n
  let lvl := c.acc != (s.fget b (CELL_DI_INV n) == 1)
  if s.fn n = FN_DI_NAMUR then
    let enabled := match c.faultBand with
      | some k => if k = 0 then s.fget b (CELL_NAMUR_CFG_BREAK_EN n) == 1 else s.fget b (CELL_NAMUR_CFG_SHORT_EN n) == 1
      | none => false
    if enabled then
      match s.fget b (CELL_NAMUR_CFG_FAULT_VAL n) with
      | 0 => false
      | 1 => true
      | _ => c.preBand
    else lvl
  else if c.live.getLsbD FL_WIRE_BREAK then false else lvl

/-- A change of LEVEL is counted (R82, R84): EDGE_CNT, and in DI_COUNT COUNT as MODE selects. -/
def countEdge (s : State) (n : Chan) (level : Bool) : State :=
  let m := s.fget (bankOf n) (CELL_CTR_CFG_MODE n)
  let hit : Bool := match m with
    | 0 => level
    | 1 => ! level
    | 2 => true
    | _ => level
  s.modCell n (fun c => { c with
    edgeCnt := c.edgeCnt + 1,
    count := if s.fn n = FN_DI_COUNT ∧ hit then c.count + 1 else c.count,
    gate := if s.fn n = FN_DI_COUNT ∧ m = 3 ∧ level then c.gate + 1 else c.gate })

/-- LEVEL is formed anew; a change counts (R82, R83, R90). -/
def formLevel (s : State) (n : Chan) : State :=
  let l := s.inputLevel n (s.cell n)
  if l = (s.cell n).level then s else (s.modCell n (fun c => { c with level := l })).countEdge n l

/-- The filter accepts the comparator's level (R81, R82). The first level after the cell starts to acquire clears STALE
and is never counted. While WIRE_BREAK is live on a contact, the level is taken but changes and counts nothing. -/
def acceptLevel (s : State) (n : Chan) : State :=
  if ¬ s.acquiring n then s
  else if ¬ (s.cell n).fresh then
    let s1 := s.modCell n (fun c => { c with fresh := true, acc := c.raw })
    let l := s1.inputLevel n (s1.cell n)
    s1.modCell n (fun c => { c with level := l })
  else (s.modCell n (fun c => { c with acc := c.raw })).formLevel n

/-- COMPARATOR_CHANGE (R79, R81): the comparator changes level and the debounce count restarts; with DEB_US = 0 the
change is accepted at once. -/
def comparatorChange (s : State) (n : Chan) (level : Bool) : State :=
  if ¬ s.acquiring n then s
  else
    let s1 := s.modCell n (fun c => { c with raw := level })
    if s.fget (bankOf n) (CELL_DI_DEB_US n) = 0 then s1.acceptLevel n else s1

/-- DEBOUNCE_ACCEPT (R81): the comparator has held its level for DEB_US. -/
def debounceAccept (s : State) (n : Chan) : State := s.acceptLevel n

/-- Whether wire-break detection is enabled for a cell (R83, R93). -/
def wireBreakEnabled (s : State) (n : Chan) : Bool :=
  let b := bankOf n
  let f := s.fn n
  ((f == FN_DI || f == FN_DI_COUNT) && s.fget b (CELL_DI_WB_EN n) == 1) ||
    (f == FN_AI_I && s.fget b (CELL_AI_CFG_WB_EN n) == 1)

/-- WIRE_BREAK_TIMER (R83, R93): the input current has stayed below, or at or above, the threshold for 20 ms. With detection
disabled the timer does not act, and a commit that disables it clears the live flag (`reformLevel`). -/
def wireBreakTimer (s : State) (n : Chan) (below : Bool) : State :=
  if ¬ s.wireBreakEnabled n ∨ ¬ (s.bank (bankOf n)).running ∨ s.parted (bankOf n) then s
  else
    let s1 := s.modCell n (fun c => { c with
      live := setBit c.live FL_WIRE_BREAK below, occ := if below then setBit c.occ FL_WIRE_BREAK true else c.occ })
    if s.acquiring n ∧ (s.cell n).fresh then s1.formLevel n else s1

/-- The write of CTR_CTRL.CLR is taken: the clear goes out with the command word of the next boundary, or where it came less than
2 us before that with the one after it (R21, R86). -/
def requestCtrClear (s : State) (n : Chan) (late : Bool) : State :=
  s.modLcell n (fun c => if late then { c with ctrLate := true } else { c with ctrClr := true })

/-- FREQ_GATE_END (R87): FREQ = edges x 100,000 / GATE_MS; a value whose gate ends while the link is down is lost. -/
def freqGateEnd (s : State) (n : Chan) : State :=
  let b := bankOf n
  let g := s.fget b (CELL_CTR_CFG_GATE_MS n)
  if ¬ s.acquiring n ∨ s.fn n ≠ FN_DI_COUNT ∨ s.fget b (CELL_CTR_CFG_MODE n) ≠ 3 ∨ g = 0 then s
  else if (s.bank b).lost ∨ ¬ s.isSet (BANK_LINK_UP b) then s.modCell n (fun c => { c with gate := 0 })
  else s.modCell n (fun c => { c with gate := 0, freq := c.gate * 100000 / g, freqOk := true })

/-- NAMUR_BAND_TIMER (R90): after 20 ms the fault band is entered (0 BREAK, 3 SHORT) or left (none); entering BREAK
with BREAK_EN sets WIRE_BREAK. -/
def namurBandTimer (s : State) (n : Chan) (band : Option Bool) : State :=
  if s.fn n ≠ FN_DI_NAMUR ∨ ¬ s.acquiring n then s
  else
    let fb : Option (Fin 4) := band.map (fun short => if short then 3 else 0)
    let broken := decide (fb = some 0) && s.fget (bankOf n) (CELL_NAMUR_CFG_BREAK_EN n) == 1
    let s1 := s.modCell n (fun c => { c with
      faultBand := fb, preBand := if c.faultBand.isNone then c.level else c.preBand, live := setBit c.live FL_WIRE_BREAK broken,
      occ := if broken then setBit c.occ FL_WIRE_BREAK true else c.occ })
    if (s.cell n).fresh then s1.formLevel n else s1

/-- What a commit of INV, WB_EN or NAMUR_CFG does to an input at once. LEVEL is formed anew: INV inverts it and counts nothing
(R82); a wire break whose detection is disabled is no longer live, and another change of LEVEL counts (DESIGN CHOICE, log
entry 50: R83 and R90 do not say what a commit does to a live flag or an entered band). -/
def reformLevel (s : State) (old : List (Nat × Word)) (n : Chan) : State :=
  let b := bankOf n
  let moved (f : Fld) : Bool := bits (sparseGet resetWord old f.addr) f.lo f.w != s.fget b f
  let inv := moved (CELL_DI_INV n)
  let namur := moved (CELL_NAMUR_CFG_BREAK_EN n) || moved (CELL_NAMUR_CFG_SHORT_EN n) || moved (CELL_NAMUR_CFG_FAULT_VAL n)
  let wb := moved (CELL_DI_WB_EN n) || moved (CELL_AI_CFG_WB_EN n)
  if ! (inv || namur || wb) ∨ family (s.fn n) ≠ 1 then s
  else
    let s1 := s.modCell n (fun c => { c with
      preBand := c.preBand != inv
      live := if (s.fn n = FN_DI_NAMUR ∧ s.fget b (CELL_NAMUR_CFG_BREAK_EN n) = 0) ∨ (s.fn n ≠ FN_DI_NAMUR ∧ ! s.wireBreakEnabled n)
        then setBit c.live FL_WIRE_BREAK false else c.live })
    if ! (s.acquiring n && (s.cell n).fresh) then s1
    else if inv then s1.modCell n (fun c => { c with level := s1.inputLevel n c })
    else s1.formLevel n

end State

end Sys2Proof.Machine
end

