-- ==== Sys2Proof/Machine/Loops.lean ====
section
/-!
DEFINITION. Loop and voltage outputs (chapter 03): the DAC target (R95, R98), the Lantern rails (R99, R100, R102), the
readback comparison and the compliance policy (R105 to R107), the alarm strap (R108) and the thermal clamp (R111).
-/

namespace Sys2Proof.Machine

/-- DAC code of a set value on a full scale (R95, R98): rounded, at most 65,535. -/
def dacOf (set full : Rat) : Nat := min (roundNear (set * 65536 / full)).toNat 65535

namespace State

/-- The wiring of a cell uses a Lantern rail (R99). -/
def usesRail (s : State) (n : Chan) : Bool :=
  let b := bankOf n
  let f := s.fn n
  (f == FN_AO_I && s.fget b (CELL_AO_MODE n) == 0) || f == FN_AO_V || f == FN_DI_NAMUR ||
    (f == FN_AI_I && s.fget b (CELL_AI_CFG_LOOP n) == 1)

/-- A loop output drives its DAC: ACTIVE, SAFE or HOLD with nothing of R36 above it (R105, R106). -/
def drives (s : State) (n : Chan) : Bool :=
  let c := s.cell n
  isLoopFn (s.fn n) && ! s.blocked n && (c.state == .active || c.state == .safe || c.state == .hold)

/-- The value in effect before the set-point arithmetic: the applied value, or what a compliance policy action sets
(R106), with whether it is an alarm current (R95). -/
def driven (s : State) (n : Chan) : Nat × Bool :=
  let c := s.cell n
  if ¬ s.drives n then (0, true)
  else if c.policyAct then (if c.policyOff then 0 else s.almCurrent n, true)
  else (c.applied, c.alarm)

/-- A DAC that is off sets 0: not driving, or under the OFF action, or with nothing to drive (R42, R106). -/
def dacOff (s : State) (n : Chan) : Bool :=
  let c := s.cell n
  ! s.drives n || (c.policyAct && c.policyOff) || s.dacIdle n

/-- i_set in uA (R95) or v_set in mV (R98) of a loop output, before the thermal clamp. -/
def setPoint (s : State) (n : Chan) : Rat :=
  if s.dacOff n then 0 else
  let b := bankOf n
  let (v, alarm) := s.driven n
  let zero : Rat := (signed 16 (s.fget b (CELL_AO_TRIM_ZERO n)) : Rat) / 10
  let span : Rat := 1 + (signed 16 (s.fget b (CELL_AO_TRIM_SPAN n)) : Rat) / 1000000
  if s.fn n = FN_AO_I then
    let v1 := if s.governs n (CELL_AO_NE43_CLAMP n) (·.ne43) = 1 ∧ ¬ alarm then min (max v 3800) 20500 else v
    min (max ((v1 : Rat) * span + zero) 0) 26000
  else min (max ((v : Rat) * span + zero) 0) 11500

/-- The full scale of the thermal clamp's steps: 25 mA, or 11 V (R96, R98, R111). -/
def clampFull (s : State) (n : Chan) : Rat := if s.fn n = FN_AO_V then 11000 else 25000

/-- What the thermal clamp lowers (R111): the set point of a loop output, the 30 mA limit of a loop supply in uA. -/
def clampTarget (s : State) (n : Chan) : Rat := if isLoopFn (s.fn n) then s.setPoint n else 30000

/-- What the thermal clamp leaves of it (R111). DESIGN CHOICE: a target that falls below it and rises again before the clamp has met
its target is clamped to it anew (log entry 65: R111 does not say). -/
def clampedTo (s : State) (n : Chan) : Rat :=
  match (s.cell n).clampOut with
  | some o => min o (s.clampTarget n)
  | none => s.clampTarget n

/-- The thermal clamp acts: the output it leaves is below the target (R111). -/
def clamping (s : State) (n : Chan) : Bool := decide (s.clampedTo n < s.clampTarget n)

/-- The set point under the thermal clamp (R111). -/
def setPointClamped (s : State) (n : Chan) : Rat := s.clampedTo n

/-- The DAC code (R95, R98). -/
def dacCode (s : State) (n : Chan) : Nat :=
  dacOf (s.setPointClamped n) (if s.fn n = FN_AO_V then 11500 else 26000)

/-- The current limit of a loop-powered AI_I cell's supply in uA (R111): 30 mA typical, lowered by the thermal clamp. -/
def loopLimit (s : State) (n : Chan) : Rat := s.clampedTo n

/-- V_NEED of a cell in mV (R99); 0 for a cell without a rail. -/
def vNeed (s : State) (n : Chan) : Nat :=
  if ¬ s.usesRail n then 0 else
  let f := s.fn n
  if f = FN_AO_I then min (roundNear (s.setPoint n * ((s.cell n).rEst : Rat) / 1000)).toNat 25500
  else if f = FN_AO_V then (roundNear (s.setPoint n)).toNat
  else if f = FN_DI_NAMUR then 8200
  else match s.fget (bankOf n) (CELL_AI_CFG_LOOP_V n) with
    | 0 => 13500
    | 1 => 19500
    | _ => 25500

/-- The cells assigned to a rail of a bank (R17, R99). -/
def railUsers (s : State) (b : Bank) (r : Fin 2) : List Chan :=
  (bankChans b).filter (fun n => s.usesRail n && s.fget b (CELL_RAIL_SEL n) == r.val)

/-- The target of a rail in mV (R100): the highest need plus 2.5 V, from 5 V to 28 V. -/
def railTarget (s : State) (b : Bank) (r : Fin 2) : Nat :=
  min (max ((s.railUsers b r).foldl (fun m n => max m (s.vNeed n)) 0 + 2500) 5000) 28000

/-- A rail of a bank changed. -/
def modRail (s : State) (b : Bank) (r : Fin 2) (g : Rail → Rail) : State :=
  s.modBank b (fun k => { k with rails := k.rails.set r (g k.rails[r]) })

/-- One run of R100's rail procedure for a rail: no cell, disabled; a higher target at once; a lower one waits. Of a bank
that is not held it stays at the setpoint the snapshots carry (R313). -/
def railUpdate (s : State) (b : Bank) (r : Fin 2) : State :=
  let users := s.railUsers b r
  let target := s.railTarget b r
  let need := users.foldl (fun m n => max m (s.vNeed n)) 0
  let join := (s.bank b).joinMv[r]
  if s.parted b then s else s.modRail b r (fun x =>
    if users = [] ∧ join = 0 then { x with setpoint := 0, enabled := false, atMax := false, dropout := false }
    else { x with enabled := true, setpoint := max x.setpoint (max join (if users = [] then 0 else target)), atMax := 28000 ≤ need + 2500 })

/-- R100's rail procedure for both rails of a bank. -/
def railsUpdate (s : State) (b : Bank) : State := (s.railUpdate b 0).railUpdate b 1

/-- RAIL_SETPOINT_FALL (R100): the lower target has lasted 2 ms. -/
def railSetpointFall (s : State) (b : Bank) (r : Fin 2) : State :=
  if (s.bank b).running ∧ ! s.parted b ∧ s.railUsers b r ≠ [] then
    let target := max (s.railTarget b r) (s.bank b).joinMv[r]
    s.modRail b r (fun x => { x with setpoint := min x.setpoint target })
  else s

/-- RAIL_DROPOUT (R102): below 95 % of the setpoint for 1 ms. -/
def railDropout (s : State) (b : Bank) (r : Fin 2) : State :=
  if (s.bank b).running ∧ (s.bank b).rails[r].enabled then s.modRail b r (fun x => { x with dropout := true }) else s

/-- RAIL_DROPOUT_END (R102): the rail regulates toward its setpoint again. -/
def railDropoutEnd (s : State) (b : Bank) (r : Fin 2) : State := s.modRail b r (fun x => { x with dropout := false })

/-- The headroom of a loop output is exhausted (R105). -/
def headroomOut (s : State) (n : Chan) (m : RbMeas) : Bool :=
  let b := bankOf n
  let r : Fin 2 := if s.fget b (CELL_RAIL_SEL n) = 1 then 1 else 0
  let x := (s.bank b).rails[r]
  if s.fn n = FN_AO_I then
    if s.fget b (CELL_AO_MODE n) = 0 then x.atMax || x.dropout else decide (m.vtermMv < 3000)
  else m.inLimit || x.dropout

/-- LOAD_ESTIMATE (R100): v_term / i_rb while the readback current is 0.5 mA or more. -/
def loadEstimate (s : State) (n : Chan) (m : RbMeas) : State :=
  if s.fn n = FN_AO_I ∧ s.fget (bankOf n) (CELL_AO_MODE n) = 0 ∧ 500 ≤ (s.cell n).rb then
    let r := min (roundNear ((m.vtermMv : Rat) * 1000 / (s.cell n).rb)).toNat 0xFFFF
    s.modCell n (fun c => { c with rEst := r })
  else s

/-- The comparison of R105 for one loop output, and COMPLIANCE_POLICY (R106): applied once when COMPLIANCE goes live.
The target under a policy action is what the action applies, and COMPLIANCE is judged anew from its end (R107). DESIGN CHOICE
(log entry 65): while the thermal clamp acts a flag that is live stays or clears by the comparison, as R105 stops its two timers
only; and under BEST_EFFORT t_comp runs again while COMPLIANCE stays live, so that the policy then in force is applied. For a cell that does not drive, both conditions count as
false, so that its live flags clear after 5 ms (DESIGN CHOICE, log entry 51: R105 compares driving cells only and does not say
what becomes of a flag that is live when a cell stops driving). -/
def compareReadback (s : State) (n : Chan) (m : RbMeas) : State :=
  if ¬ s.drives n then s.modCell n (fun c =>
    let live1 := if 4 ≤ c.compOk ∧ ¬ c.policyAct then setBit c.live FL_COMPLIANCE false else c.live
    { c with
      vtermMv := m.vtermMv, tComp := 0, tRb := 0, compOk := if c.policyAct then 0 else c.compOk + 1, rbOk := c.rbOk + 1
      exhausted := s.headroomOut n m
      live := if 4 ≤ c.rbOk then setBit live1 FL_READBACK_MISMATCH false else live1 }) else
  let b := bankOf n
  let c := s.cell n
  let t := s.setPoint n
  let rb : Rat := c.rb
  let short := decide (100 < t - rb)
  let exh := s.headroomOut n m
  let clamped := s.clamping n
  let tol : Rat := (s.fget b (CELL_AO_RB_TOL n) : Rat) * 10
  let off := decide (tol < (if t ≤ rb then rb - t else t - rb)) && ! (short && exh)
  let comp := short && exh && ! c.policyAct
  let tComp := if clamped ∨ ¬ comp then 0 else c.tComp + 1
  let tRb := if clamped ∨ ¬ off then 0 else c.tRb + 1
  let compOk := if (short && exh) || c.policyAct then 0 else c.compOk + 1
  let rbOk := if off then 0 else c.rbOk + 1
  let compNow := decide (5 < tComp)
  let rbNow := decide (5 < tRb)
  let policy := s.governs n (CELL_AO_COMPLY_POLICY n) (·.policy)
  let act := compNow && (policy == 1 || policy == 2)
  let live1 := if compNow then setBit c.live FL_COMPLIANCE true
    else if 5 ≤ compOk ∧ ¬ c.policyAct then setBit c.live FL_COMPLIANCE false else c.live
  let live2 := if rbNow then setBit live1 FL_READBACK_MISMATCH true
    else if 5 ≤ rbOk then setBit live1 FL_READBACK_MISMATCH false else live1
  s.modCell n (fun c => { c with
    vtermMv := m.vtermMv, tComp := if compNow then 0 else tComp, tRb := tRb, compOk := compOk, rbOk := rbOk,
    policyAct := c.policyAct || act, policyOff := if act then policy == 2 else c.policyOff, exhausted := exh, live := live2,
    occ := (if rbNow then setBit c.occ FL_READBACK_MISMATCH true else c.occ) |||
      (if compNow then setBit 0 FL_COMPLIANCE true else 0) })

/-- The dissipation of the output stages on a rail in mW (R103): (rail - terminal) x current of its AO_I, AO_V and
loop-powered AI_I cells. -/
def railPower (s : State) (b : Bank) (r : Fin 2) (m : BankRb) : Nat :=
  (roundNear (((List.finRange 8).foldl (fun (a : Rat) k =>
    let n := chanOf b k
    if n ∈ s.railUsers b r ∧ s.fn n ≠ FN_DI_NAMUR then
      a + ((m.railMv[r] : Rat) - m.cells[k].vtermMv) * m.cells[k].loadUa / 1000000
    else a) 0))).toNat

/-- The readback conversions of a bank's last group enter the means of their cells (R104, R143). -/
def foldReadback (s : State) (b : Bank) : State :=
  (s.forEach s.meas[b].rbRun (fun s x =>
    s.modCell (chanOf b x.pos) (fun c => { c with rbSum := c.rbSum + x.val, rbCnt := c.rbCnt + 1 }))).modMeas b
      (fun m => { m with rbRun := [] })

/-- The 1 ms readback mean of a loop output (R104); with no conversion in the ms it stays. -/
def takeMean (s : State) (n : Chan) : State :=
  s.modCell n (fun c => { c with
    rb := if c.rbCnt = 0 then c.rb else (roundNear ((c.rbSum : Rat) / c.rbCnt)).toNat, rbSum := 0, rbCnt := 0 })

/-- READBACK_CHECK (R100, R104, R105): every 1 ms the readback means are written, the load estimates and rail targets
follow, and each driving AO_I and AO_V cell is compared with its target. -/
def readbackCheck (s : State) (b : Bank) (m : BankRb) : State :=
  if ¬ (s.bank b).running then s else
  let s1 := (s.foldReadback b).forEach (List.finRange 8) (fun s k =>
    if isLoopFn (s.fn (chanOf b k)) then ((s.takeMean (chanOf b k)).loadEstimate (chanOf b k) m.cells[k]).compareReadback (chanOf b k) m.cells[k]
    else s)
  let s2 := s1.railsUpdate b
  let s3 := s2.modRail b 0 (fun x => { x with meas := m.railMv[0], pdiss := s2.railPower b 0 m })
  s3.modRail b 1 (fun x => { x with meas := m.railMv[1], pdiss := s2.railPower b 1 m })

/-- ALARM_STRAP_CHANGE (R108): the filtered strap reading changes (0 low, 1 high, 2 open); an alarm current already
driven follows. -/
def alarmStrapChange (s : State) (b : Bank) (r : Fin 3) : State :=
  if ¬ (s.bank b).running then s else
  let s1 := s.modBank b (fun k => { k with alm := r })
  let s2 := s1.forEach (bankChans b) (fun s n =>
    if (s.cell n).state = .safe ∧ s.fn n = FN_AO_I then
      s.modCell n (fun c => { c with applied := s.valueOf n c.state c.cause })
    else s)
  s2.railsUpdate b

/-- A cell the loop-output thermal clamp acts on: AO_I, AO_V or loop-powered AI_I (R111). -/
def clampable (s : State) (n : Chan) : Bool :=
  isLoopFn (s.fn n) || (s.fn n == FN_AI_I && s.fget (bankOf n) (CELL_AI_CFG_LOOP n) == 1)

/-- THERMAL_CLAMP_STEP (R111), once each ms: at or above 150 degrees the output is lowered by 1 % of full scale, at or below
145 degrees it is raised by 1 % until its target is met. -/
def thermalClampStep (s : State) (n : Chan) (temp : Int) : State :=
  if ¬ s.clampable n ∨ ¬ (s.bank (bankOf n)).running then s
  else
    let step := s.clampFull n / 100
    if 150 * 16 ≤ temp then s.modCell n (fun c => { c with clampOut := some (max 0 (s.clampedTo n - step)) })
    else if temp ≤ 145 * 16 then
      s.modCell n (fun c => { c with
        clampOut := if s.clampTarget n ≤ s.clampedTo n + step then none else some (s.clampedTo n + step) })
    else s

/-- What a change of function, wiring or counting configuration resets on the field die: the first level waits again
(R82), FREQ reads 0 and its gate starts anew (R87), the load estimate is 1,275 ohm (R100), a parallel record is
cleared for both cells and no earlier report names the cell (R73), no policy action is in force. The fuse's trip state stays
(R60, R61). An open-load slot that runs ends with OL_OFF_EN (R72), an inrush window with DO_LAMP (R62). A cell that becomes an output while the bank is below its UV_OFF level is held off like the others, and each cell in use shows VF_LOW (R156, R158). -/
def noteConfig (s : State) (old : List (Nat × Word)) (n : Chan) : State :=
  let was (f : Fld) : Nat := bits (sparseGet resetWord old f.addr) f.lo f.w
  let b := bankOf n
  let k := s.bank b
  let newFn := decide (was (CELL_CFG_FUNC n) ≠ s.fn n)
  let newCtr := decide (was (CELL_CTR_CFG_MODE n) ≠ s.fget b (CELL_CTR_CFG_MODE n) ∨
    was (CELL_CTR_CFG_GATE_MS n) ≠ s.fget b (CELL_CTR_CFG_GATE_MS n))
  let s0 := if s.fget b (CELL_DIAG_CFG_OL_OFF_EN n) = 0 then s.modCell n (fun c => { c with slot := false }) else s
  let s1 := if newFn ∨ newCtr then s0.modCell n (fun c => { c with freq := 0, freqOk := false, gate := 0 }) else s0
  if ¬ newFn then s1 else
  let s2 := s1.forEach (bankChans b) (fun s m => s.modCell m (fun c => { c with xfeedSeen := c.xfeedSeen.erase n }))
  let s3 := match (s1.cell n).parWith with
    | some m => s2.modCell m (fun c => { c with
        parWith := none, xfeedSeen := [], live := setBit c.live FL_PARALLEL_SEEN false })
    | none => s2
  (s3.stopWick n).modCell n (fun c => { c with
    fresh := false, rEst := 1275, parWith := none, xfeedSeen := [], xfeedSrc := none, policyAct := false, tComp := 0,
    tRb := 0, clampOut := none, faultBand := none, alarm := false, inrush := c.inrush && s.fn n == FN_DO_LAMP
    uvHeld := family (s.fn n) == 2 && (c.uvHeld || ! k.restoreMet)
    live := setBit (setBit (c.live &&& setBit (setBit (flagMask (s.fn n)) FL_FUSE_TRIP true) FL_PARALLEL_SEEN false)
      FL_UV_OFF (family (s.fn n) == 2 && (c.uvHeld || ! k.restoreMet))) FL_VF_LOW (k.vfLow && s.fn n != FN_OFF) })

end State

end Sys2Proof.Machine
end

