-- ==== Sys2Proof/Machine/Links.lean ====
section
/-!
DEFINITION. The barrier links (R24 to R26, R436): sending and receiving frames, loss and return of either side, and
how a received report reaches the registers of the logic side.
-/

namespace Sys2Proof.Machine

namespace State

/-- The logic-side cause of a cell (R29). VOTIVE is of the whole device (R354). A cell both silent and in mismatch is sent
MISMATCH, and its silence stands when the mismatch ends (DESIGN CHOICE, log entry 48: R31 leaves open which of the two holds). -/
def wordCause (c : LCell) : LogicCause := if c.mismatch ∧ c.cause ≠ .votive then .mismatch else c.cause

/-- The command word the logic side writes for a cell (R18 step 5). -/
def cmdWord (s : State) (n : Chan) : CmdWord :=
  let c := s.lcell n
  {
    value := s.get (CELL_OUT_VALUE n), held := c.syncing, cause := wordCause c, txn := c.txn, adopt := c.adopt
    faultClr := c.faultClr, ctrClr := c.ctrClr, wrote := c.wrote, marker := c.marker }

/-- The bank mode the logic side commands: RECOVERY for a bank in RECOVERY, else the device mode, or the mode
that the holder's snapshots have given the bank since (R165, R168, R315). -/
def bankModeCmd (s : State) (b : Bank) : Mode :=
  if s.mode = .votive then .votive else if (s.lbank b).recovery then .recovery else (s.lbank b).mirrored.getD s.mode

/-- Whether a word of the bank configuration belongs to a cell of the bank's second engine, or of its first; none for the
bank's own words (R40, R43). -/
def engineB (a : Nat) : Option Bool :=
  match a / 0x10000 with
  | 0x4 => some (decide (4 ≤ a / 0x400 % 8))
  | 0x7 => some (decide (4 ≤ a / 0x40 % 8))
  | 0xA => some (decide (4 ≤ a / 0x20 % 8))
  | _ => none

/-- The bank configuration a frame carries: for the cells of an engine that overran, as the frame before it (R20). -/
def downCopy (s : State) (b : Bank) (overrunA overrunB : Bool) : List (Nat × Word) :=
  match (s.lbank b).lastCopy with
  | none => s.bankConfig b
  | some old =>
    let held (a : Nat) : Bool := match engineB a with
      | none => false
      | some second => if second then overrunB else overrunA
    (old.filter (fun e => held e.1)).foldl (fun m e => sparseSet resetWord m e.1 e.2)
      ((s.bankConfig b).filter (fun e => ! held e.1))

/-- The downward frame of a bank at a boundary (R18, R24, R25): the heartbeat rides in frames of even cycle number.
For a cell of an engine that overran, the previous command words are repeated (R20). -/
def downFrame (s : State) (b : Bank) (overrunA overrunB : Bool) : DownFrame :=
  let l := s.lbank b
  {
    heartbeat := s.cycle % 2 = 0, por := l.porMarker, votive := s.mode = .votive, mode := s.bankModeCmd b,
    configured := s.fabLoaded && ! s.readBack[b],
    words := Vector.ofFn (fun k => if (k.val < 4 ∧ overrunA) ∨ (4 ≤ k.val ∧ overrunB) then l.last[k].repeated
      else s.cmdWord (chanOf b k)),
    copy := if s.fabLoaded && ! s.readBack[b] then some (s.downCopy b overrunA overrunB) else none }

/-- The barrier link sends one frame for a bank; the requests it carries are taken. -/
def sendDown (s : State) (b : Bank) (overrunA overrunB : Bool) : State :=
  let f := s.downFrame b overrunA overrunB
  let s1 := s.modLbank b (fun l => { l with
    down := l.down ++ [f], last := f.words, lastCopy := if f.copy.isSome then f.copy else l.lastCopy })
  s1.forEach (List.finRange 8) (fun s k =>
    if (k.val < 4 ∧ overrunA) ∨ (4 ≤ k.val ∧ overrunB) then s
    else s.modLcell (chanOf b k) (fun c => { c with
      adopt := false, faultClr := false, ctrClr := c.ctrLate, ctrLate := false, wrote := false, marker := false }))

/-- The orders of a frame that its field die has not taken go out again with the next command words, so that none is lost
(DESIGN CHOICE, log entry 49: R25 says only that the die goes on applying the previous commands). An adoption and an owner's
write do not outlive a loss of the logic side or an FBR, after which the cell has to be adopted anew and OUT waits for no value. -/
def orderAgain (s : State) (b : Bank) (f : DownFrame) (sameToken : Bool) : State :=
  s.forEach (List.finRange 8) (fun s k => s.modLcell (chanOf b k) (fun c => { c with
    faultClr := c.faultClr || f.words[k].faultClr, ctrClr := c.ctrClr || f.words[k].ctrClr,
    syncing := c.syncing && (sameToken || ! f.words[k].adopt)
    adopt := c.adopt || (sameToken && f.words[k].adopt), wrote := c.wrote || (sameToken && f.words[k].wrote) }))

/-- A discarded frame is counted (R25). -/
def countCrc (s : State) (b : Bank) : State := s.addSat (BANK_LINK_ERR_CRC_ERR b) 1

/-- A field die takes a POR marker (R346): all outputs off, its copy and counters discarded, new TOKENs, bank mode BOOT,
cells in CONFIG. What it knows of its supply stays, with the cells it holds off by it (R158). -/
def porMarker (s : State) (b : Bank) : State :=
  let s1 := s.forEach (bankChans b) (fun s n => (s.newToken n).modCell n (fun c => {
    token := c.token, uvHeld := c.uvHeld
    live := setBit (setBit 0 FL_UV_OFF (c.live.getLsbD FL_UV_OFF)) FL_VF_LOW (c.live.getLsbD FL_VF_LOW) }))
  s1.modBank b (fun k => {
    running := k.running, lost := k.lost, missed := k.missed, present := k.present, hbNext := k.hbNext, porActed := true
    band := k.band, vfLow := k.vfLow, uvLatched := k.uvLatched, restoreMet := k.restoreMet, vfMv := k.vfMv, frameNo := k.frameNo
    paired := k.paired
    line := k.line, holds := k.holds, releasing := k.releasing, graceAt := k.graceAt, clamp := k.clamp, partnerSeen := k.partnerSeen
    takeReqIn := k.takeReqIn, opening := k.opening, lha := k.lha, lhb := k.lhb, isel := k.isel, alm := k.alm, tDie := k.tDie, tbwarn := k.tbwarn })

/-- The commanded value an adoption takes (R174, its table): the value applied, which for a generator in HOLD or SAFE is its duty,
and off for a cell held off by UV_OFF. -/
def adoptedValue (c : FCell) : Nat := if c.uvHeld then 0 else if c.state = .active then c.applied else c.shown

/-- The cell is in SAFE for the cause the running logic side gives it: an adoption only marks it adopted (R174). -/
def silenced (c : FCell) : Bool := c.state == .safe && c.logicCause != .none && c.cause == c.logicCause.cause

/-- A command word reaches its cell (R21, R31, R174): adoption sets the commanded value to the value applied; an
accepted FAULT_CLR leaves FAULT with the commanded value off; under STAY_OFF the write or the adoption releases the
cell from UV_OFF (R159); the cell applies what its state makes of it; the lamp that a write ending a silence turns on does not wait for a phase point
(DESIGN CHOICE, log entry 65), nor does a release (R63). A command off ends the wait of a TSD trip, and a command
on after it turns the switch on at once, LIVE.TSD or not (R52; DESIGN CHOICE, log entry 60). -/
def applyWord (s : State) (n : Chan) (w : CmdWord) : State :=
  let c := s.cell n
  let adopting := w.adopt && ! c.adopted
  let cleared := w.faultClr && (c.latched || c.stalled)
  let taken := adopting && ! silenced c
  let released := c.uvHeld && (w.wrote || adopting) && s.fget (bankOf n) (BANK_SUP_CFG_UV_RESTORE (bankOf n)) == 1 &&
    (s.bank (bankOf n)).restoreMet
  let s1 := s.modCell n (fun c => { c with
    logicCause := w.cause, txn := w.txn,
    adopted := c.adopted || w.adopt, kept := if w.adopt then none else c.kept,
    latched := c.latched && ! cleared, stalled := c.stalled && ! cleared,
    retryCnt := if cleared then 0 else c.retryCnt,
    commanded := if cleared then 0 else if taken then adoptedValue c
      else if (c.adopted || c.state == .config || c.state == .active) && ! w.held then w.value else c.commanded,
    applied := if taken then adoptedValue c else c.applied, heldDuty := if taken then none else c.heldDuty,
    markers := if w.marker then c.markers + 1 else c.markers, sinceMarker := if w.marker then 0 else c.sinceMarker,
    count := if w.ctrClr then 0 else c.count, gap := if w.ctrClr then false else c.gap,
    alarm := c.alarm && ! w.wrote && ! cleared,
    policyAct := c.policyAct && ! w.wrote, tComp := if w.wrote ∧ c.policyAct then 0 else c.tComp,
    uvHeld := c.uvHeld && ! released, live := if released then setBit c.live FL_UV_OFF false else c.live })
  if cleared ∨ w.txn ≠ c.txn ∨ w.cause ≠ c.logicCause ∨ taken then s1.reselect n
  else if c.state = .active then
    let v := s1.valueOf n .active .none
    let s2 := s1.modCell n (fun d => { d with applied := v, retryOff := if v = 0 then none else d.retryOff })
    s2.settle n (w.value ≠ 0 && c.applied = 0 && ! released)
  else s1.settle n false

/-- A configuration pairs a bank (table PAIR.CFG). -/
def pairedIn (b : Bank) (copy : List (Nat × Word)) : Bool :=
  (sparseGet resetWord copy PAIR_CFG_EN.addr).getLsbD 0 && (sparseGet resetWord copy PAIR_CFG_EN.addr).getLsbD (4 + b.val)

/-- The place of a downward frame passes at the field die (R25, R26, R31): a heartbeat it was to carry is received or missed,
and a gap of more than 60 us between fuse-step markers breaks their row. -/
def frameSlot (s : State) (b : Bank) (heartbeat received : Bool) : State :=
  let s1 := s.modBank b (fun k => { k with
    missed := if heartbeat then (if received then 0 else k.missed + 1) else k.missed
    present := if heartbeat then (if received then k.present + 1 else 0) else k.present
    hbNext := ! heartbeat })
  s1.forEach (bankChans b) (fun s n => s.modCell n (fun c => { c with
    sinceMarker := min (c.sinceMarker + 10) 150, markers := if 60 ≤ c.sinceMarker then 0 else c.markers }))

/-- No downward frame comes at a boundary, because the logic side is in reset (R24, R25). -/
def emptySlots (s : State) : State :=
  s.forEach allBanks (fun s b => if (s.bank b).running then s.frameSlot b (s.bank b).hbNext false else s)

/-- A new bank period has come with the configuration (R69). -/
def notePeriod (s : State) (b : Bank) (old : Nat) : State :=
  let per := s.fget b (BANK_WICK_PERIOD_PERIOD_US b)
  if per = old then s else s.modBank b (fun k => { k with wickPers := ((s.now, per) :: k.wickPers).take 4 })

/-- A downward frame that passed its check reaches the field die (R26): unless the logic side is lost the die takes the
configuration, the bank mode and the command words. With the last staged cell released, its rails go by the needs of their new
sets (R202). -/
def takeDown (s : State) (b : Bank) (f : DownFrame) : State :=
  let s2 := if f.por then (if (s.bank b).porActed then s else s.porMarker b)
    else s.modBank b (fun k => { k with porActed := false })
  if (s2.bank b).lost then s2.orderAgain b f false else
  let was := (s2.bank b).configuring
  let per := s2.fget b (BANK_WICK_PERIOD_PERIOD_US b)
  let s3 := s2.modBank b (fun k => { k with
    copy := f.copy.getD k.copy, paired := pairedIn b (f.copy.getD k.copy), mode := k.modeAfter f.mode, votive := f.votive
    configuring := k.configuring && ! f.configured })
  let s3 := (s3.notePeriod b per).forEach (bankChans b) (fun s n => (s.noteConfig (s2.bank b).copy n).reformLevel (s2.bank b).copy n)
  let s4 := s3.forEach (List.finRange 8) (fun s k => s.applyWord (chanOf b k) f.words[k])
  let s5 := if was ∧ f.configured then s4.forEach (bankChans b) (fun s n => s.reselect n) else s4
  let staged (s : State) : Bool := (bankChans b).any (fun n => (s.cell n).txn != .none)
  let s6 := if staged s3 ∧ ! staged s5 then s5.modBank b (fun k => { k with joinMv := Vector.replicate 2 0 }) else s5
  (s6.noteHeld b).railsUpdate b

/-- DOWNWARD_FRAME_RECEIVED (R25): the field die takes the oldest downward frame; with a bad CRC it is discarded whole
and counted, and its heartbeat counts as missed. A die that does not run takes nothing. -/
def downwardFrameReceived (s : State) (b : Bank) (crcOk : Bool) : State :=
  match (s.lbank b).down with
  | [] => s
  | f :: rest =>
    let s1 := s.modLbank b (fun l => { l with down := rest })
    if ¬ (s1.bank b).running then s1.orderAgain b f false
    else
      let s2 := s1.frameSlot b f.heartbeat crcOk
      if crcOk then s2.takeDown b f else (s2.countCrc b).orderAgain b f true

/-- Above VF_LOW, whether the supply lies over 32 V, by its 1 ms mean (table BAND). -/
def bandOf (k : FBank) (mv : Nat) : VfBand :=
  if k.band = .normal ∨ k.band = .high then (if mv ≤ 32000 then .normal else .high) else k.band

/-- UPWARD_FRAME (R24, R29): the field die selects each cell's state and sends its report; the heartbeat rides in
frames of even number (R25). -/
def upwardFrame (s : State) (b : Bank) (m : FrameMeas) : State :=
  if ¬ (s.bank b).running then s else
  let s0 := (s.modBank b (fun k => { k with vfMv := m.vfMv, band := bandOf k m.vfMv })).forEach (List.finRange 8) (fun s k =>
    s.modCell (chanOf b k) (fun c => { c with iUa := m.iUa[k] }))
  let s1 := (s0.forEach (bankChans b) (fun s n => s.reselect n)).railsUpdate b
  let s1 := s1.forEach (bankChans b) (fun s n => s.modCell n (fun c => { c with tclamp := s.clamping n }))
  let f : UpFrame := {
    heartbeat := (s1.bank b).frameNo % 2 = 0, bank := s1.bank b,
    cells := Vector.ofFn (fun k => s1.cell (chanOf b k)), needs := Vector.ofFn (fun k => s1.vNeed (chanOf b k)) }
  (s1.modLbank b (fun l => { l with up := l.up ++ [f] })).modBank b (fun k => { k with frameNo := k.frameNo + 1 })

/-- A digital input has accepted its first level (R82); an analogue input waits for its first sample only once it has been taken
with its bank (R307). -/
def acquires (f : Nat) (c : FCell) : Bool := if f = FN_AI_V ∨ f = FN_AI_I then ! c.untaken else c.fresh

/-- The value an input shows is held: in HOLD, and while the field die reports that it has lost the logic side (R27, R82,
R436). -/
def inputHeld (s : State) (n : Chan) (st : CellState) : Bool := st == .hold || (s.lbank (bankOf n)).dieLost

/-- The input of a cell is not current (R27, R82, R87, R436). -/
def cellStale (s : State) (n : Chan) (c : FCell) : Bool :=
  family (s.lfn n) == 1 && (c.state != .active || s.inputHeld n c.state || ! acquires (s.lfn n) c ||
    (s.lfn n == FN_DI_COUNT && s.get (CELL_CTR_CFG_MODE n) == 3 && ! c.freqOk))

/-- The live flags a report gives for a cell, cut to those that can arise for its function (R44). -/
def liveBits (s : State) (n : Chan) (c : FCell) : FlagBits :=
  setBit c.live FL_STALE (s.cellStale n c) &&& flagMask (s.lfn n)

/-- The band a cell reports (R89): 0 BREAK, 1 OFF, 2 ON, 3 SHORT; 1 for every cell but DI_NAMUR (table CELL[n].IN). -/
def bandCode (f : Nat) (c : FCell) : Nat :=
  if f = FN_DI_NAMUR then (match c.faultBand with | some k => k.val | none => if c.acc then 2 else 1) else 1

/-- The report of an adoption: OUT reads the commanded value the field die has taken (R174). -/
def takeAdopted (s : State) (n : Chan) (c : FCell) : State :=
  (s.put (CELL_OUT_VALUE n) c.commanded).modLcell n (fun l => { l with syncing := false })

/-- CELL[n].IN but for STALE (R82, R89). -/
def showInput (s : State) (n : Chan) (c : FCell) (wireBreak : Bool) : State :=
  let s := s.putB (CELL_IN_LEVEL n) (c.level && c.fresh)
  let s := s.putB (CELL_IN_WIRE_BREAK n) wireBreak
  let s := s.put (CELL_IN_BAND n) (bandCode (s.lfn n) c)
  s.put (CELL_IN_EDGE_CNT n) c.edgeCnt.toNat

/-- A field die's report of a cell, with the voltage it needs in mV, reaches the registers (R23, R24). PAR_WITH and PAR_VALID show
the die's record, which an FBR clears (R73), though their Survives column names the FBR (DESIGN CHOICE, log entry 61). -/
def mirrorCell (s : State) (n : Chan) (c : FCell) (vNeed : Nat) : State :=
  let f := s.lfn n
  let up := s.isSet (BANK_LINK_UP (bankOf n))
  let s := s.put (CELL_STATE_STATE n) c.state.code
  let s := s.put (CELL_STATE_CAUSE n) c.cause.code
  let s := s.putB (CELL_STATE_ADOPTED n) c.adopted
  let s := if c.adopted ∧ (s.lcell n).syncing then s.takeAdopted n c else s
  let s := s.putB (CELL_STATE_LINK_UP n) up
  let s := s.put (CELL_STATE_TOKEN n) c.token.toNat
  let live := s.liveBits n c
  let s := s.setWord (CELL_LIVE_OPEN_LOAD n).addr (live.setWidth 32)
  let s := s.setFlags n (live ||| (c.occ &&& flagMask f))
  let s := s.putB (CELL_SW_STAT_ON n) c.on
  let s := s.putB (CELL_SW_STAT_IN_LIMIT n) c.inLimit
  let s := s.putB (CELL_SW_STAT_INRUSH_ACTIVE n) c.inrush
  let s := s.putB (CELL_SW_STAT_RETRY_OFF n) c.retryOff.isSome
  let s := s.put (CELL_SW_STAT_RETRY_CNT n) c.retryCnt
  let s := s.addSat (CELL_PROT_CNT_ILIM_TRIPS n) c.repIlim
  let s := s.addSat (CELL_PROT_CNT_TSD_TRIPS n) c.repTsd
  let s := s.addSat (CELL_PROT_CNT_FUSE_TRIPS n) c.repFuse
  let s := s.put (CELL_DIAG_STAT_VTERM n) (toCode 16 c.vterm)
  let s := s.put (CELL_DIAG_STAT_XFEED_SRC n) (match c.xfeedSrc with | some m => m.val | none => 0)
  let s := s.putB (CELL_DIAG_STAT_XFEED_VALID n) c.xfeedSrc.isSome
  let s := s.put (CELL_DIAG_STAT_PAR_WITH n) (match c.parWith with | some m => m.val | none => 0)
  let s := s.putB (CELL_DIAG_STAT_PAR_VALID n) c.parWith.isSome
  let s := s.put (WICK_STAT_DUTY_NOW n) c.duty
  let s := s.putB (WICK_STAT_RUNNING n) (c.wickRun && c.duty != 0 && c.duty != 0xFFFF)
  let s := s.putB (WICK_STAT_SOFT_ACTIVE n) (c.softOn && c.softLim)
  let s := if s.inputHeld n c.state then s else s.showInput n c (live.getLsbD FL_WIRE_BREAK)
  let s := s.putB (CELL_IN_STALE n) (s.cellStale n c || family f != 1)
  let s := s.put (CELL_COUNT_COUNT n) c.count.toNat
  let s := s.putB (CELL_CTR_CTRL_GAP n) c.gap
  let s := s.put (CELL_FREQ_FREQ n) c.freq
  let s := s.put (CELL_NAMUR_STAT_BAND n) (if f = FN_DI_NAMUR then bandCode f c else 0)
  let s := s.put (CELL_NAMUR_STAT_I_UA n) (if f = FN_DI_NAMUR then c.iUa else 0)
  let s := s.put (CELL_AO_STAT_RB n) (if isLoopFn f then min c.rb 0xFFFF else 0)
  let s := s.put (CELL_AO_STAT_VTERM n) (min ((c.vtermMv + 100) / 200) 255)
  let s := s.putB (CELL_AO_STAT_TCLAMP n) (isLoopFn f && c.tclamp)
  let s := s.putB (CELL_AO_STAT_POLICY_ACT n) c.policyAct
  let s := s.putB (CELL_AO_STAT_HEADROOM_OUT n) c.exhausted
  let s := s.put (CELL_AO_LOAD_R_EST n) c.rEst
  s.put (CELL_RAIL_V_NEED n) (min ((vNeed + 50) / 100) 255)

/-- A rail as LNT_A and LNT_B show it: setpoint and measured voltage in 0.1 V (R100). -/
def railWord (r : Rail) : Word :=
  let w := setBits (0 : Word) 0 9 ((r.setpoint + 50) / 100)
  let w := setBits w 9 1 r.atMax.toNat
  let w := setBits w 10 1 r.dropout.toNat
  let w := setBits w 11 1 r.enabled.toNat
  setBits w 16 9 (min ((r.meas + 50) / 100) 511)

/-- The code of a band in PAIR.OWN (table PAIR.OWN). -/
def lineCode : LineBand → Nat
  | .low => 0 | .released => 1 | .high => 2 | .undefined => 3

/-- The OWN_n byte of a bank (table PAIR.OWN), beside LINE_FAULT; CLAMP is that of a powered unit. -/
def ownByte (k : FBank) : Nat :=
  lineCode k.line + 4 * k.holds.toNat + 8 * k.partnerSeen.toNat + 16 * k.takeReqIn.toNat + 32 * k.takeReqOut.toNat + 64 * (k.clamp && k.running).toNat

/-- PAIR.OWN shows what a field die reports of its interlock line. -/
def showOwn (s : State) (b : Bank) (k : FBank) : State := s.put ⟨PAIR_OWN_LINE_0.addr, 8 * b.val, 7⟩ (ownByte k)

/-- A field die's report of its bank reaches the registers; a change of the bank's mode raises line 49 (R231). -/
def mirrorBank (s : State) (b : Bank) (k : FBank) : State :=
  let s := if s.get (BANK_MODE_MODE b) = k.mode.code then s else (s.put (BANK_MODE_MODE b) k.mode.code).raiseLine 49 allSeats
  let s := if k.paired then s.showOwn b k else s
  let s := s.putB (BANK_LIMP_PIN_LHA b) k.lha
  let s := s.putB (BANK_LIMP_PIN_LHB b) k.lhb
  let s := s.put (BANK_LIMP_PIN_ISEL b) k.isel.val
  let s := s.putB (BANK_ARB_STAT_TBWARN b) k.tbwarn
  let s := s.put (BANK_LOOP_ALM_PIN b) k.alm
  let s := s.putB (BANK_LOOP_ALM_EFFECTIVE b) (s.almHigh b)
  let s := s.setWord (BANK_LNT_A_V_TARGET b).addr (railWord k.rails[0])
  let s := s.setWord (BANK_LNT_B_V_TARGET b).addr (railWord k.rails[1])
  let s := s.put (BANK_LNT_PWR_PDISS_A b) (min k.rails[0].pdiss 0xFFFF)
  let s := s.put (BANK_LNT_PWR_PDISS_B b) (min k.rails[1].pdiss 0xFFFF)
  let s := s.put (BANK_SUP_STAT_VF_MV b) k.vfMv
  let s := s.put (BANK_SUP_STAT_BAND b) k.band.code
  let s := s.putB (BANK_SUP_STAT_UV_LATCHED b) k.uvLatched
  let s := s.putB (BANK_SUP_STAT_RESTORING b) k.restoring
  let s := s.put (BANK_SUP_MIN_VF_MIN_MV b) (min (s.get (BANK_SUP_MIN_VF_MIN_MV b)) (if k.band = .starting then 0xFFFF else k.vfMv))
  let s := s.addSat (BANK_SUP_CNT_VF_LOW_CNT b) k.repVfLow
  s.addSat (BANK_SUP_CNT_UV_OFF_CNT b) k.repUvOff

/-- What a received report acknowledges is removed from the field die: it is not reported again (log entry 11). -/
def acknowledge (s : State) (b : Bank) (f : UpFrame) : State :=
  let s1 := s.modBank b (fun k => { k with
    fbrReport := k.fbrReport && ! f.bank.fbrReport, lossReport := k.lossReport && ! f.bank.lossReport,
    repVfLow := k.repVfLow - f.bank.repVfLow, repUvOff := k.repUvOff - f.bank.repUvOff })
  s1.forEach (List.finRange 8) (fun s k => s.modCell (chanOf b k) (fun c => { c with
    occ := c.occ &&& ~~~ f.cells[k].occ, repIlim := c.repIlim - f.cells[k].repIlim,
    repTsd := c.repTsd - f.cells[k].repTsd, repFuse := c.repFuse - f.cells[k].repFuse }))

/-- The bits of a CELL, WICK or BANK register that a field die reports as its configuration (R40, R191). -/
def reportMask (a : Nat) : Word := if 4 ≤ a / 0x10000 ∧ a / 0x10000 < 8 then imgMask a else 0

/-- BANK_REC shows, and the command words carry, RECOVERY of a bank (R162, R168); a change raises line 49 (R231; log entry
56). -/
def setBankRec (s : State) (b : Bank) (v : Bool) : State :=
  let f : Fld := ⟨SYS_MODE_BANK_REC.addr, 4 + b.val, 1⟩
  let s1 := (s.modLbank b (fun l => { l with recovery := v })).putB f v
  if s.isSet f = v then s1 else s1.raiseLine 49 allSeats

/-- The configuration a field die reports takes the place of the loaded image's where they differ (R40, R191):
RECONCILE_PENDING reads 1 and DIGEST all zeros. -/
def takeReported (s : State) (b : Bank) (copy : List (Nat × Word)) : State :=
  let held (a : Nat) : Word := sparseGet resetWord copy a &&& reportMask a
  let addrs := ((s.bankConfig b).map (·.1) ++ copy.map (·.1)).filter (fun a => s.word a &&& reportMask a != held a)
  let s1 := s.forEach addrs (fun s a => s.setWord a ((s.word a &&& ~~~ reportMask a) ||| held a))
  if addrs = [] then s1
  else (((s1.putB FABRIC_STAT_RECONCILE_PENDING true).putB FABRIC_STAT_NV_DIFFERS true).put FABRIC_DIGEST_HI_HI 0).put
    FABRIC_DIGEST_LO_LO 0

/-- After a reset of the logic side, the first report gives it back what the field die kept: the image fields in
effect (R40), RECOVERY (R168), OUT as the value applied (R43), the fuse model state (R61). -/
def readBackBank (s : State) (b : Bank) (f : UpFrame) : State :=
  if ¬ s.readBack[b] then s else
  let s0 := { s with readBack := s.readBack.set b false }
  if f.bank.configuring then s0 else
  let s1 := if s.fabLoaded then s0.takeReported b f.bank.copy else s0
  let s2 := if f.bank.mode = .recovery then s1.setBankRec b true else s1
  s2.forEach (List.finRange 8) (fun s k =>
    let n := chanOf b k
    let c := f.cells[k]
    let s := if family (s.lfn n) = 2 then s.put (CELL_OUT_VALUE n) c.applied else s
    let s := s.put (CELL_FUSE_STAT_T_WIRE n) (toCode 16 (roundNear (c.tWire * 16)))
    s.put (CELL_FUSE_STAT_I_HOLD n) (c.iHold.getD 0))

/-- FBR_REPORTED (R162): the first heartbeat of a restarted field die; the FBR is counted and line 48 raised. The
configuration goes out again with the next downward frame. The logic side gives back the fuse model from its own copy of
the last step (R61), and COUNT with GAP set, to which the edges counted since the start add (R88). -/
def fbrReported (s : State) (b : Bank) : State :=
  let s1 := (s.addSat (BANK_SUP_CNT_FBR_CNT b) 1).raiseLine 48 allSeats
  s1.forEach (bankChans b) (fun s n =>
    let counting := s.lfn n == FN_DI_COUNT
    let s := s.modCell n (fun c => { c with
      count := c.count + BitVec.ofNat 32 (s.get (CELL_COUNT_COUNT n)), gap := c.gap || counting })
    match (s.lcell n).fuse with
    | none => s
    | some x => s.modCell n (fun c => { c with
        tWire := x.tWire, tBase := x.tBase, tAmb := x.tAmb, tNb := x.tNb, modelled := true }))

/-- RESET_INTENT.DONE reads 1 once all four field dies have reported RECOVERY (R172). -/
def noteRecovery (s : State) (b : Bank) (k : FBank) : State :=
  let s1 := if k.mode = .recovery then s.modLbank b (fun l => { l with reported := true }) else s
  if s1.mode = .recovery ∧ allBanks.all (fun b => (s1.lbank b).reported) then s1.putB SYS_RESET_INTENT_DONE true else s1

/-- LINK.SINCE_LOSS (table LINK): the ms since the last loss, while the link is up. -/
def showSinceLoss (s : State) (b : Bank) : State :=
  s.put (BANK_LINK_SINCE_LOSS b) (match (s.lbank b).sinceLoss with
    | some us => if s.isSet (BANK_LINK_UP b) then min (us / 1000) 0xFFFF else 0
    | none => 0)

/-- A bank's link comes up (R24, R231): LINK.UP sets and line 47 marks the return. -/
def linkUp (s : State) (b : Bank) : State :=
  let s2 := ((s.putB (BANK_LINK_UP b) true).showSinceLoss b).forEach (bankChans b) (fun s n => s.putB (CELL_STATE_LINK_UP n) true)
  s2.raiseLine 47 allSeats

/-- A report sent before the logic side has given COUNT back after an FBR, as it is shown: the restored COUNT and GAP, or until
then what they read before (R88). -/
def afterFbr (s : State) (n : Chan) (restored : Bool) (c : FCell) : FCell :=
  { c with
    count := if restored then (s.cell n).count else BitVec.ofNat 32 (s.get (CELL_COUNT_COUNT n))
    gap := if restored then (s.cell n).gap else s.isSet (CELL_CTR_CTRL_GAP n) }

/-- An upward frame that passed its check is taken in (R24, R26, R162, R436). -/
def takeUp (s : State) (b : Bank) (f : UpFrame) : State :=
  let s0 := if f.bank.porActed then s.modLbank b (fun l => { l with porMarker := false }) else s
  let s1 := s0.modLbank b (fun l => { l with missed := if f.heartbeat then 0 else l.missed, dieLost := f.bank.lost })
  let s2 := if f.heartbeat ∧ ¬ s1.isSet (BANK_LINK_UP b) then s1.linkUp b else s1
  let s3 := s2.putB (BANK_LINK_FIELD_ALIVE b) f.bank.running
  let started := f.bank.fbrReport && f.heartbeat && (s.bank b).fbrReport
  let declared := f.bank.lossReport && (s.bank b).lossReport
  let s4 := if started then s3.fbrReported b else s3
  let s4 := if declared || started then
      { s4 with ring := { s4.ring with adoptDue := true } }.forEach (bankChans b) (fun s n => s.modLcell n (fun c => { c with
        syncing := false, adopt := false }))
    else s4
  let s5 := if declared then s4.raiseLine 47 allSeats else s4
  let s6 := (s5.readBackBank b f).mirrorBank b f.bank
  let s7 := s6.forEach (List.finRange 8) (fun s k =>
    s.mirrorCell (chanOf b k) (if f.bank.fbrReport then s6.afterFbr (chanOf b k) (started || ! (s.bank b).fbrReport) f.cells[k]
      else f.cells[k]) f.needs[k])
  (s7.noteRecovery b f.bank).acknowledge b
    { f with bank := { f.bank with fbrReport := f.bank.fbrReport && f.heartbeat } }

/-- UPWARD_FRAME_RECEIVED (R24, R25): the logic side takes the oldest upward frame; with a bad CRC it is discarded
whole and counted, and its heartbeat counts as missed. A logic side in reset takes nothing. -/
def upwardFrameReceived (s : State) (b : Bank) (crcOk : Bool) : State :=
  match (s.lbank b).up with
  | [] => s
  | f :: rest =>
    let s1 := s.modLbank b (fun l => { l with up := rest, hbNext := ! f.heartbeat })
    if s1.inReset then s1
    else let s1 := s1.modLbank b (fun l => { l with
      frames := if 1000000 ≤ l.frames then 1 else l.frames + 1
      frameErrs := (if 1000000 ≤ l.frames then 0 else l.frameErrs) + (! crcOk).toNat })
    if crcOk then s1.takeUp b f
    else
      let s2 := s1.countCrc b
      if f.heartbeat then s2.modLbank b (fun l => { l with missed := l.missed + 1 }) else s2

/-- What governs an output cell from the loss on: the copy in effect at the loss, until the cell is adopted (R43, R110). -/
def keepCopy (s : State) (n : Chan) : State :=
  let b := bankOf n
  if family (s.fn n) = 2 then
    s.modCell n (fun c => { c with kept := some (c.kept.getD {
      code := s.safeCode n, value := s.safeField n, limp := s.limpPin n, almSel := s.fget b (BANK_LOOP_ALM_SEL b)
      almLo := s.fget b (CELL_AO_ALM_LO_UA n), almHi := s.fget b (CELL_AO_ALM_HI_UA n)
      policy := s.fget b (CELL_AO_COMPLY_POLICY n), ne43 := s.fget b (CELL_AO_NE43_CLAMP n) }) })
  else s

/-- LOGIC_SIDE_LOSS (R4, R25, R26, R436): at the third heartbeat missed in a row the field die declares loss of the logic
side: new TOKENs, ADOPTED cleared, TAKE_ENABLE cleared (R305), staged steps dropped with their rails (R205), timed holds start, and each cell's state is selected under the
loss rules. -/
def logicSideLoss (s : State) (b : Bank) : State :=
  let k := s.bank b
  if ¬ k.running ∨ k.lost ∨ k.missed < 3 then s else
  let s1 := s.modBank b (fun k => { k with
    lost := true, present := 0, lossReport := true, porActed := false, recoveryOver := false, pairHoldOver := false, takeEnable := false
    joinMv := Vector.replicate 2 0 })
  let s2 := s1.forEach (bankChans b) (fun s n => (s.newToken n).keepCopy n)
  (s2.forEach (bankChans b) (fun s n => s.reselect n)).railsUpdate b

/-- LOGIC_SIDE_RETURN (R26, R436): after three heartbeats in a row the logic side is present again and the die follows
its command words; every output cell keeps its state until it is adopted. -/
def logicSideReturn (s : State) (b : Bank) : State :=
  let k := s.bank b
  if k.running ∧ k.lost ∧ 3 ≤ k.present then s.modBank b (fun k => { k with lost := false, missed := 0 }) else s

end State

end Sys2Proof.Machine
end

