-- ==== Sys2Proof/Machine/Measure.lean ====
section
/-!
DEFINITION. Converters, sequences and statistics (chapter 04): passes (R124 to R127), injected entries (R128 to R130),
self-calibration (R131 to R135), over-range and dirty windows (R136 to R140), plausibility (R141 to R143), and the
statistics units with their snapshots and history (R144 to R151). Times are in 0.25 us.
-/

namespace Sys2Proof.Machine

/-- The code of a close cause (R145). -/
def CloseCause.code : CloseCause → Nat
  | .window => 0 | .host => 1 | .reconfig => 2 | .full => 3 | .link => 4 | .power => 5

/-- The unit of a bank (R126, R128). -/
def unitOf (b : Bank) (j : Nat) : Unit96 := Fin.ofNat 96 (24 * b.val + j)

/-- The bank of a unit. -/
def bankOfUnit (u : Unit96) : Bank := ⟨u.val / 24, by omega⟩

/-- The units of a bank. -/
def bankUnits (b : Bank) : List Unit96 := (List.range 24).map (unitOf b)

/-- The cell an input code names, if it names one (R119). -/
def inputCell (b : Bank) (input : Nat) : Option Chan :=
  if h : input < 8 then some (chanOf b ⟨input, h⟩) else none

/-- The triggers of injected entries in the order they run: by time, at one instant in ascending entry order (R129). -/
def insertTrig (x : Fin 8 × Nat) : List (Fin 8 × Nat) → List (Fin 8 × Nat)
  | [] => [x]
  | y :: l => if y.2 < x.2 ∨ (y.2 = x.2 ∧ y.1 ≤ x.1) then y :: insertTrig x l else x :: y :: l

/-- The clamp codes of a coding of w bits (R91, R120). -/
def codeLo (w : Nat) (sgn : Bool) : Int := if sgn then -((2 : Int) ^ (w - 1)) else 0
def codeHi (w : Nat) (sgn : Bool) : Int := if sgn then (2 : Int) ^ (w - 1) - 1 else (2 : Int) ^ w - 1

/-- A code corrected by an offset in 1/16 LSB and a gain in ppm (R131), rounded (log entry 9) and limited. -/
def correct (c offset gain lo hi : Int) : Int :=
  clampInt lo hi (roundNear (((c : Rat) - (offset : Rat) / 16) * (1 + (gain : Rat) / 1000000)))

namespace State

/-- The owner of a unit (R152). -/
def unitOwner (s : State) (u : Unit96) : Seat := Fin.ofNat 4 (s.get (STAT_OWN_SEAT u))

/-- A seat owns a unit of a bank (R132, R152). -/
def ownsUnitOf (s : State) (seat : Seat) (b : Bank) : Bool := (bankUnits b).any (fun u => s.unitOwner u == seat)

/-- The window mode of a unit: 0 count, 1 time, 2 manual (R145). -/
def winMode (s : State) (u : Unit96) : Nat := s.get (STAT_CFG_WIN_MODE u)

/-- N_NOW of a unit (R144). -/
def nNow (s : State) (u : Unit96) : Nat := let x := s.units[u]; x.count + x.ovr + x.dirty

/-- A MEAS_FLAGS bit set by an occurrence, with line 36 + bank on a 0-to-1 change whose enable is 1 (R140, R231). -/
def measFlag (s : State) (b : Bank) (i : Nat) : State :=
  let a := (BANK_MEAS_FLAGS_OVR b).addr
  let was := (s.word a).getLsbD i
  let t := s.raiseBits a (1#32 <<< i)
  if ! was && (s.word a).getLsbD (16 + i) then t.raiseLine (36 + b.val) (allSeats.filter (fun x => s.ownsUnitOf x b)) else t

/-- The record of a closing window (the snapshot record): twelve words, GEN first (R146, R150). -/
def record (s : State) (u : Unit96) (w : Nat) (cause : CloseCause) (t : Nat) : List Word :=
  let x := s.units[u]
  let sum := toCode 64 x.sum
  let dev := s.devTime t
  let info : Word := setBits 0 0 3 cause.code
  let info := setBits info 3 1 (s.get RING_STAT_UNSYNC)
  let info := setBits info 4 1 x.cal.toNat
  let info := setBits info 5 1 x.skipped.toNat
  let info := setBits info 8 4 (s.get (STAT_SRC_INPUT u))
  let info := setBits info 12 3 (s.get (STAT_SRC_GAIN u))
  [ BitVec.ofNat 32 (2 * w), BitVec.ofNat 32 sum, BitVec.ofNat 32 (sum / 2 ^ 32), BitVec.ofNat 32 x.count,
    if x.count = 0 then 0x7FFFFFFF else BitVec.ofInt 32 x.min, if x.count = 0 then 0x80000000 else BitVec.ofInt 32 x.max,
    BitVec.ofNat 32 x.ovr, BitVec.ofNat 32 x.dirty, BitVec.ofNat 32 dev, BitVec.ofNat 32 (dev / 2 ^ 32),
    BitVec.ofNat 32 (min ((t - x.openedAt) * 5 / 2) 0xFFFFFFFF), info ]

/-- A calibration of the unit's bank runs (R134). -/
def calRuns (s : State) (u : Unit96) : Bool := s.meas[bankOfUnit u].cal == .busy

/-- The open window of a unit closes at a time (R144 to R148): the record goes into the slot that does not hold the
newest snapshot and, with HIST_EN, into the history ring; the accumulators clear; the unit's event is raised. A time
window is open again at once, but after a loss of the link and in STANDBY and SLEEP (R145, R151). The first window goes to slot 1, as the worked example
of R152 has it (log entry 12). -/
def closeNow (s : State) (u : Unit96) (cause : CloseCause) (t : Nat) : State :=
  let x := s.units[u]
  if ¬ x.isOpen then s else
  let w := if x.w = 2147483647 then 1 else x.w + 1
  let rec12 := s.record u w cause t
  let s1 := s.setWords (if x.newest1 then (STAT_SLOT0_GEN_GEN u).addr else (STAT_SLOT1_GEN_GEN u).addr) rec12
  let s2 := if s.isSet (STAT_CFG_HIST_EN u) then
      (s1.setMemWords (0x1200000 + u.val * 0x1000 + s.get (STAT_HIST_HEAD u) * 0x40) (rec12 ++ [BitVec.ofNat 32 u.val])).put
        (STAT_HIST_HEAD u) (s.get (STAT_HIST_HEAD u) + 1)
    else s1
  let again := s.winMode u == 1 && cause != .link && cause != .power
  let s3 := s2.modUnit u (fun _ => {
    isOpen := again, openedAt := t, cal := again && s.calRuns u, w := w, newest1 := ! x.newest1
    afterLoss := cause == .link, fed := x.fed })
  if s.isSet (STAT_CFG_EVT_EN u) then s3.raiseSnap (s.unitOwner u) u.val
  else s3

/-- The conversion that runs at a time had ended its sampling phase for the unit: in time mode its sample belongs to the window
of that moment (R145). -/
def inFlight (s : State) (u : Unit96) (t : Nat) : Bool :=
  match s.meas[bankOfUnit u].cur with
  | some c => s.winMode u == 1 && unitOf (bankOfUnit u) c.unit == u && decide (c.start + c.ts ≤ t) && decide (t < c.start + c.ts + 3)
  | none => false

/-- A window of a unit ends at a time: it closes at once, or once the sample in flight has entered it (R145). No sample comes
any more where the link is lost. -/
def closeUnit (s : State) (u : Unit96) (cause : CloseCause) (t : Nat) : State :=
  let x := s.units[u]
  if ¬ x.isOpen ∨ x.closing.isSome then s
  else if cause ≠ .link ∧ s.inFlight u t then s.modUnit u (fun x => { x with closing := some (cause, t) })
  else s.closeNow u cause t

/-- A window that has ended closes: its last sample is in, or will not come (R145). -/
def finishClose (s : State) (u : Unit96) : State :=
  match s.units[u].closing with
  | some (cause, t) => s.closeNow u cause t
  | none => s

/-- A window of a unit opens; one open during a calibration carries INFO.CAL (R134). -/
def openUnit (s : State) (u : Unit96) (t : Nat) : State :=
  if s.units[u].isOpen then s
  else s.modUnit u (fun x => { x with isOpen := true, openedAt := t, afterLoss := false, cal := x.cal || s.calRuns u })

/-- The statistics run in the power state: they stop in STANDBY and SLEEP (R151, R360). -/
def sequencesRun (s : State) : Bool := s.get SYS_PWR_STAT_STATE ≤ 1

/-- A unit takes a sample in (R145, R151): its bank's link is up, the statistics run, and its window is open or opens with the
sample, as a count or manual window does, and a time window after a loss of the link only. -/
def takesSample (s : State) (u : Unit96) : Bool :=
  let x := s.units[u]
  s.isSet (BANK_LINK_UP (bankOfUnit u)) && s.sequencesRun && (x.isOpen || s.winMode u != 1 || x.afterLoss)

/-- A sample reaches its unit (R138, R144): over-range, DIRTY, or included. -/
def sampleUnit (s : State) (u : Unit96) (code : Int) (ovrn dirty : Bool) (t : Nat) : State :=
  if ¬ s.takesSample u then s else
  let s1 := (s.openUnit u t).modUnit u (fun x =>
    if ovrn then { x with ovr := x.ovr + 1 }
    else if dirty then { x with dirty := x.dirty + 1 }
    else { x with
      sum := x.sum + code, count := x.count + 1, min := if x.count = 0 ∨ code < x.min then code else x.min,
      max := if x.count = 0 ∨ x.max < code then code else x.max })
  if s.winMode u = 0 ∧ s1.nNow u = s.get (STAT_WIN_WIN_LEN u) then s1.closeUnit u .window t
  else if s1.nNow u = 2 ^ 28 then s1.closeUnit u .full t
  else s1

/-- TIME_WINDOW_CLOSE (R18, R145): the number of the boundary to come is a multiple of WIN_LEN, and the open time window
closes at it. -/
def timeWindowClose (s : State) (u : Unit96) : State :=
  let len := s.get (STAT_WIN_WIN_LEN u)
  if s.winMode u = 1 ∧ len ≠ 0 ∧ (s.cycle + 1) % len = 0 ∧ s.units[u].openedAt < s.now + 40 ∧ s.sequencesRun then
    s.closeUnit u .window (s.now + 40)
  else s

/-- The open windows of a bank close at a time (R151), after those that had ended already; a sample of the pass that goes on is
not waited for. -/
def closeBank (s : State) (b : Bank) (cause : CloseCause) (t : Nat) : State :=
  s.forEach (bankUnits b) (fun s u => (s.finishClose u).closeNow u cause t)

/-- FIELD_DIE_LOSS (R26, R151): after three missed heartbeats the link of the bank is down: inputs STALE, the loss
counted, line 47, every open window closed with cause LINK. DESIGN CHOICE: the close is dated at the start of the running fabric
cycle, as the command gives no instant within it (log entry 65). -/
def fieldDieLoss (s : State) (b : Bank) : State :=
  if ¬ s.isSet (BANK_LINK_UP b) ∨ (s.lbank b).missed < 3 then s else
  let s1 := s.closeBank b .link s.now
  let s1 := s1.forEach (bankUnits b) (fun s u => s.modUnit u (fun x => { x with afterLoss := true }))
  let s2 := ((s1.putB (BANK_LINK_UP b) false).putB (BANK_LINK_FIELD_ALIVE b) false).put (BANK_LINK_SINCE_LOSS b) 0
  let s3 := ((s2.addSat (BANK_LINK_LOST_CNT b) 1).modLbank b (fun l => { l with sinceLoss := some 0 })).raiseLine 47 allSeats
  s3.forEach (bankChans b) (fun s n =>
    let s := s.putB (CELL_STATE_LINK_UP n) false
    if family (s.lfn n) = 1 then
      let stale : FlagBits := setBit 0 FL_STALE true
      ((s.setWord (CELL_LIVE_OPEN_LOAD n).addr (s.word (CELL_LIVE_OPEN_LOAD n).addr ||| stale.setWidth 32)).setFlags n stale).putB
        (CELL_IN_STALE n) true
    else s)

/-- The word of an injected entry in the field-side copy. -/
def injWord (s : State) (b : Bank) (k : Nat) : Word := sparseGet resetWord (s.bank b).copy (BANK_INJ_INPUT b k).addr

/-- The next entry of the plausibility ring (R141): the first member at or after the ring's position, else the first. -/
def ringEntry (m : Meas) : Option Nat :=
  let members := (List.range 16).filter (fun k => decide (k < m.len) && bits (m.seq[k]?.getD 0) 7 1 == 1)
  match members.find? (fun k => decide (m.ring ≤ k)) with
  | some k => some k
  | none => members.head?

/-- The input of a cell has no sense path or is not acquired (R27, R122, R303): functions OFF and DI_NAMUR, an input in CONFIG or
FAULT, a cell of a bank that the unit does not hold. -/
def senseOff (s : State) (n : Chan) : Bool :=
  let c := s.cell n
  s.fn n == FN_OFF || s.fn n == FN_DI_NAMUR || (family (s.fn n) == 1 && (c.state == .config || c.state == .fault)) ||
    s.parted (bankOf n)

/-- A conversion begins sampling (R124, R129): an injected entry stops being pending. DESIGN CHOICE: a sample is taken within the
50 us of R94 and R123 where any of its sampling phase lies within them (log entry 65; `noteRange` marks the one that runs). Beside the entry the plausibility ring has
come to, the check converter samples too, for at least 0.5 us and 1.5 us of conversion, unless it is busy (R117, R141,
R143). -/
def startConv (s : State) (b : Bank) (inj : Bool) (k t : Nat) : State :=
  let m := s.meas[b]
  let w := if inj then s.injWord b k else m.seq[k]?.getD 0
  let input := bits w 0 4
  let cell := inputCell b input
  let dirty := decide (t < m.dirtyEnd) || (if h : input < 8 then decide (t < m.cellDirty[input]) else false)
  let skip : Bool := match cell with
    | some n => s.senseOff n
    | none => false
  let ts := bits w 8 8 + 1
  let pl := ! inj && (bits w 7 1 == 1)
  let busy := decide (t < max m.rbEnd m.plEnd)
  let checks := pl && ! busy && ! m.tried && State.ringEntry m == some k
  s.modMeas b (fun m => { m with
    plEnd := if checks then t + max ts 2 + 6 else m.plEnd
    cur := some {
      inj := inj, idx := k, input := input, gain := bits w 4 3, ts := ts, start := t,
      unit := if inj then 16 + bits w 16 3 else bits w 16 4, dirty := dirty, skip := skip, pl := pl, ckBusy := busy } })

/-- INJ_STAT.PENDING shows the entries pending or held. -/
def notePending (s : State) (b : Bank) : State :=
  let m := s.meas[b]
  s.put (BANK_INJ_STAT_PENDING b) (((m.pending ++ m.held).map (·.1)).eraseDups.foldl (fun a k => a + 2 ^ k.val) 0)

/-- The converter takes up its next conversion at a time (R129): the first pending injected entry, else the next entry
of the running pass, which otherwise ends; a calibration that waits suspends the sequence there (R133 step 4). -/
def nextConv (s : State) (b : Bank) (t : Nat) : State :=
  let m := s.meas[b]
  match m.pending with
  | (k, _) :: rest => ((s.modMeas b (fun m => { m with pending := rest })).startConv b true k t).notePending b
  | [] =>
    if ¬ m.passing then s
    else if m.cal = .draining then (s.modMeas b (fun m => { m with passing := false })).putB (BANK_SEQ_STAT_RUNNING b) false
    else if m.next < m.len then (s.modMeas b (fun m => { m with next := m.next + 1 })).startConv b false m.next t
    else ((s.modMeas b (fun m => { m with passing := false })).putB (BANK_SEQ_STAT_RUNNING b) false).put
      (BANK_SEQ_STAT_PASS_TIME b) (min (t - m.passStart) 0xFFFF)

/-- What feeds a unit with the entries in effect (R126): the bits of its entries, their input and gain. -/
def seqFeed (m : Meas) (j : Nat) : Nat × Nat × Nat :=
  ((List.range 16).filter (fun k => decide (k < m.len) && bits (m.seq[k]?.getD 0) 16 4 == j)).foldl
    (fun a k => (a.1 + 2 ^ k, bits (m.seq[k]?.getD 0) 0 4, bits (m.seq[k]?.getD 0) 4 3)) (0, 0, 0)

/-- The same for a unit that injected entries feed (R128). DESIGN CHOICE: an entry with TRIG = 0, which never runs, feeds none
(log entry 53). -/
def injFeed (s : State) (b : Bank) (j : Nat) : Nat × Nat × Nat :=
  ((List.range 8).filter (fun k => s.get (BANK_INJ_TRIG b k) != 0 && s.get (BANK_INJ_UNIT b k) == j)).foldl
    (fun a k => (a.1 + 2 ^ k, s.get (BANK_INJ_INPUT b k), s.get (BANK_INJ_GAIN b k))) (0, 0, 0)

/-- STAT[u].SRC takes what feeds the unit; a change closes its open window with cause RECONFIG (R127). DEDUCED: what feeds a unit
first after a full reset changes nothing, as in the example of R152, whose window 50 closes 5 s after the reset (log entry
53). -/
def setFeed (s : State) (u : Unit96) (f : Nat × Nat × Nat) (inj : Bool) (t : Nat) : State :=
  let first := ! s.units[u].fed
  let s0 := s.modUnit u (fun x => { x with fed := true })
  if s.get (STAT_SRC_ENTRIES u) = f.1 ∧ s.get (STAT_SRC_INPUT u) = f.2.1 ∧ s.get (STAT_SRC_GAIN u) = f.2.2 ∧
      s.isSet (STAT_SRC_INJ u) = inj then s0
  else
    let s1 := if first then s0 else s0.closeUnit u .reconfig t
    (((s1.put (STAT_SRC_ENTRIES u) f.1).put (STAT_SRC_INPUT u) f.2.1).put (STAT_SRC_GAIN u) f.2.2).putB (STAT_SRC_INJ u) inj

/-- The injected entries of a bank feed their units as committed (R127, R128; log entry 13). -/
def refreshInjFeeds (s : State) (b : Bank) (t : Nat) : State :=
  s.forEach (List.range 8) (fun s j => s.setFeed (unitOf b (16 + j)) (s.injFeed b j) true t)

/-- A time lies on the period grid of a bank (R125): within the 0.25 us in which device time reaches a whole multiple of
PERIOD_US. With PERIOD_US = 0 there is no grid; while the logic side is lost the field die goes on with the last one on its own
clock. -/
def onTick (s : State) (b : Bank) (t : Nat) : Bool :=
  let p := s.fget b (BANK_SEQ_CTRL_PERIOD_US b)
  p == 0 || (s.bank b).lost || decide (s.devTime t % (1000 * p) < 250)

/-- A period tick within a running pass is skipped and counted, but for the one that ends the interval of a step of device time
(R125). -/
def skipTick (s : State) (b : Bank) : State :=
  if s.fget b (BANK_SEQ_CTRL_PERIOD_US b) = 0 then s
  else if s.meas[b].stepped then s.modMeas b (fun m => { m with stepped := false })
  else s.addSat (BANK_SEQ_STAT_OVERRUN b) 1

/-- SEQUENCE_PASS_START (R125, R127, R132): a pass is due, at a period tick or at the end of the previous pass, q
quarters of a us into the fabric cycle. A tick within a calibration is skipped uncounted (R133). The entries committed take
effect. -/
def sequencePassStart (s : State) (b : Bank) (q : Nat) : State :=
  let k := s.bank b
  let m := s.meas[b]
  let t := s.now + q
  if ¬ k.running ∨ k.configuring ∨ s.fget b (BANK_SEQ_CTRL_RUN b) = 0 ∨ ¬ s.sequencesRun ∨ m.startDue ∨ ¬ s.onTick b t then s
  else if m.passing then s.skipTick b
  else if m.cal ≠ .none then s
  else
    let s1 := s.modMeas b (fun m => { m with
      seq := Vector.ofFn (fun i => sparseGet resetWord k.copy (BANK_SEQ_INPUT b i).addr)
      len := s.fget b (BANK_SEQ_CTRL_LEN_M1 b) + 1, passing := true, next := 0, passStart := t, tried := false
      stepped := false })
    let s2 := s1.forEach (List.range 16) (fun s j => s.setFeed (unitOf b j) (seqFeed s.meas[b] j) false t)
    let s3 := s2.putB (BANK_SEQ_STAT_RUNNING b) true
    if s3.meas[b].cur.isNone then s3.nextConv b t else s3

/-- A trigger reaches an injected entry at a time (R129, R133): it becomes pending, is held through a calibration, or
is lost. -/
def trigger (s : State) (b : Bank) (k : Fin 8) (t : Nat) : State :=
  let m := s.meas[b]
  if ¬ (s.bank b).running then s
  else if m.cal = .draining ∨ m.cal = .busy then
    if k ∈ m.held.map (·.1) then s.addWrap (BANK_INJ_STAT_LOST b) 1
    else ((s.modMeas b (fun m => { m with held := insertTrig (k, t) m.held })).addWrap (BANK_INJ_STAT_LATE b) 1).notePending b
  else if k ∈ m.pending.map (·.1) then s.addWrap (BANK_INJ_STAT_LOST b) 1
  else (s.modMeas b (fun m => { m with pending := insertTrig (k, t) m.pending })).notePending b

/-- Triggers that reach a bank at one instant (R129): then an idle converter takes up the first. -/
def triggers (s : State) (b : Bank) (ks : List (Fin 8)) (t : Nat) : State :=
  let s1 := s.forEach ks (fun s k => s.trigger b k t)
  if s1.meas[b].cur.isNone ∧ s1.meas[b].pending ≠ s.meas[b].pending then s1.nextConv b t else s1

/-- The entries of a bank that a trigger of the table of R128 triggers: those with its TRIG code and, for an event of a cell, with
the cell as SRC; ascending. -/
def triggered (s : State) (b : Bank) (trig : Nat) (src : Option (Fin 8)) : List (Fin 8) :=
  (List.finRange 8).filter (fun k => bits (s.injWord b k) 20 4 == trig && src.all (fun c => bits (s.injWord b k) 24 3 == c.val))

/-- An event of the running fabric cycle triggers entries (R128): a Wick edge those with its code after INJ_DLY. The instant within
the cycle comes with INJ_TRIGGER; entries of one delay are triggered at one instant (DESIGN CHOICE, log entry 62). -/
def armTriggers (s : State) (b : Bank) (trig : Nat) (src : Option (Fin 8)) : State :=
  if ¬ (s.bank b).running then s else
  let ks := s.triggered b trig src
  let dly (k : Fin 8) : Nat := s.fget b (BANK_INJ_DLY_DELAY b k)
  s.modMeas b (fun m => { m with
    due := m.due ++ ((ks.map dly).eraseDups.map (fun d => (ks.filter (fun k => dly k == d), s.now + d))) })

/-- INJ_TRIGGER (R128, R129): the trigger of entry k for which an event of the field die has made it due, at the end of its delay,
with the entries the same event triggers at the same instant. -/
def injTrigger (s : State) (b : Bank) (k : Fin 8) (q : Nat) : State :=
  match s.meas[b].due.find? (fun d => decide (k ∈ d.1) && decide (d.2 ≤ s.now + q)) with
  | some d => (s.modMeas b (fun m => { m with due := m.due.erase d })).triggers b d.1 (s.now + q)
  | none => s

/-- INJ_TIMER_TICK (R128): the entries the bank injection timer triggers, in ascending order. -/
def injTimerTick (s : State) (b : Bank) (q : Nat) : State :=
  if s.fget b (BANK_INJ_TIMER_PERIOD_US b) = 0 then s
  else s.triggers b (s.triggered b 2 none) (s.now + q)

/-- A write to INJ_TRIG triggers the entries whose TRIG is 0x1 (R128, R130, R152). -/
def hostTrigger (s : State) (b : Bank) (mask q : Nat) : State :=
  s.triggers b ((s.triggered b 1 none).filter (fun k => mask / 2 ^ k.val % 2 == 1)) (s.now + q)

/-- What an input measures (R91, R92, R120): terminal voltage for AI_V and the outputs, burden current for AI_I, input-sink
current for DI and DI_COUNT, the converter input for an internal channel. -/
def inScale (s : State) (b : Bank) (input : Nat) : InScale :=
  match inputCell b input with
  | none => { lsb := 10000, top := 0, sgn := true }
  | some n =>
    let f := s.fn n
    if f = FN_AI_V then
      if s.fget b (CELL_AI_CFG_VRANGE n) = 1 then { lsb := 80000, top := 10000000000, sgn := true }
      else { lsb := 40000, top := 10000000000, sgn := false }
    else if f = FN_AI_I then { lsb := 100000, top := 25000000000, sgn := false }
    else if f = FN_DI ∨ f = FN_DI_COUNT then { lsb := 40000, top := 10000000000, sgn := false }
    else { lsb := 160000, top := 40000000000, sgn := false }

/-- The uncorrected code of a value (R120, R121): the LSB is divided by the gain; `per` is 1 for the primary converter and 4 for
the check converter, whose code counts four primary LSB (R142). DESIGN CHOICE: it is not limited to the converter's width, as R131
limits the corrected code alone (log entry 65). -/
def rawCode (z : InScale) (gain per : Nat) (v : Int) : Int := roundNear ((v * 2 ^ gain : Rat) / (z.lsb * per : Nat))

/-- An over-range comparator has tripped (R121, R136): at 103 % of the end of the divided range, on an unsigned range at -3 % of it
too. -/
def tripped (z : InScale) (gain : Nat) (m : ConvMeas) : Bool :=
  decide (103 * (z.top : Int) ≤ 100 * (m.high * 2 ^ gain)) ||
    decide (100 * (m.low * 2 ^ gain) ≤ -((if z.sgn then 103 else 3) * (z.top : Int)))

/-- The second pair of comparators has tripped (R137): the overdrive went beyond 200 % of the range end, or beyond -100 % on an
unsigned range. -/
def beyond (z : InScale) (gain : Nat) (m : ConvMeas) : Bool :=
  decide (2 * (z.top : Int) < m.high * 2 ^ gain) || decide (m.low * 2 ^ gain < -((if z.sgn then 2 else 1) * (z.top : Int)))

/-- PLAUS_FAIL of an entry's input sets or clears (R142): on the cell, or in MEAS_FLAGS. -/
def plausFlag (s : State) (b : Bank) (input : Nat) (fail : Bool) : State :=
  match inputCell b input with
  | some n => s.modCell n (fun c => { c with
      live := setBit c.live FL_PLAUS_FAIL fail, occ := if fail then setBit c.occ FL_PLAUS_FAIL true else c.occ })
  | none => if fail then s.measFlag b 2 else s

/-- The plausibility comparison of a ring entry (R142): made unless the sample is over-range, at a clamp code or DIRTY, or the
check converter was busy. -/
def plausCompare (s : State) (b : Bank) (c : RunConv) (code check : Int) (ovrn : Bool) : State :=
  let m := s.meas[b]
  if c.inj ∨ ¬ c.pl ∨ m.tried ∨ State.ringEntry m ≠ some c.idx then s else
  let s0 := s.modMeas b (fun m => { m with tried := true })
  let z := s.inScale b c.input
  if ovrn ∨ code = codeLo 18 z.sgn ∨ code = codeHi 18 z.sgn ∨ c.dirty ∨ c.ckBusy ∨ c.skip then
    s0.addWrap (BANK_PLAUS_STAT_SKIP_CNT b) 1
  else
  let cc := correct (State.rawCode z c.gain 4 check) (signed 24 (s.get (BANK_C_OFFSET_OFFSET b)))
    (signed 24 (s.get (BANK_C_GAIN_GAIN b))) (codeLo 16 z.sgn) (codeHi 16 z.sgn)
  let d := code - 4 * cc
  let miss := decide (16 * (s.fget b (BANK_PLAUS_CFG_TOL b) : Int) < d.natAbs)
  let i := c.idx
  let runs := if miss then (m.missRun[i]?.getD 0) + 1 else (m.matchRun[i]?.getD 0) + 1
  let s1 := s0.modMeas b (fun m => { m with
    ring := c.idx + 1,
    missRun := m.missRun.setIfInBounds i (if miss then runs else 0),
    matchRun := m.matchRun.setIfInBounds i (if miss then 0 else runs) })
  let s2 := ((s1.put (BANK_PLAUS_DIFF_D b) (toCode 32 d)).put (BANK_PLAUS_STAT_LAST_ENTRY b) c.idx).putB
    (BANK_PLAUS_STAT_LAST_FAIL b) miss
  let s3 := if miss then s2.addSat (BANK_PLAUS_STAT_MISMATCH_CNT b) 1 else s2
  if s.fget b (BANK_PLAUS_CFG_N b) ≤ runs then s3.plausFlag b c.input miss else s3

/-- The flags of a delivered sample (R140): an over-range sample sets OVR, one that is DIRTY, over-range or not (R137), sets DIRTY;
the live bits show the class of the latest sample, of which R138 gives it one. -/
def sampleFlags (s : State) (b : Bank) (input : Nat) (ovrn dirty : Bool) : State :=
  match inputCell b input with
  | some n => s.modCell n (fun c => { c with
      live := setBit (setBit c.live FL_OVR ovrn) FL_DIRTY (dirty && ! ovrn)
      occ := c.occ ||| setBit (setBit 0 FL_OVR ovrn) FL_DIRTY dirty })
  | none =>
    let s1 := if ovrn then s.measFlag b 0 else s
    if dirty then s1.measFlag b 1 else s1

/-- An over-range sample of a cell opens a dirty window at the end of its sampling phase (R121, R137); the AO_V readback
conversions within it are dropped. -/
def openDirty (s : State) (b : Bank) (c : RunConv) (far : Bool) : State :=
  if (inputCell b c.input).isNone then s else
  let len := s.fget b (if far then BANK_DIRTY_CFG_LONG_US b else BANK_DIRTY_CFG_SHORT_US b)
  let t0 := c.start + c.ts
  let within (x : RbConv) : Bool := s.fn (chanOf b x.pos) == FN_AO_V && decide (t0 ≤ x.start) && decide (x.start < t0 + 4 * len)
  s.modMeas b (fun m => { m with dirtyEnd := max m.dirtyEnd (t0 + 4 * len), rbRun := m.rbRun.filter (fun x => ! within x) })

/-- A conversion's sample is corrected and delivered (R131, R136 to R142, R144); one without a sense path is discarded
and marks its unit (R122). -/
def deliver (s : State) (b : Bank) (c : RunConv) (m : ConvMeas) : State :=
  let u := unitOf b c.unit
  let t := c.start + c.ts + 3
  let z := s.inScale b c.input
  let code := correct (State.rawCode z c.gain 1 m.level) (signed 24 (s.get (BANK_P_OFFSET_OFFSET b)))
    (signed 24 (s.get (BANK_P_GAIN_GAIN b c.gain))) (codeLo 18 z.sgn) (codeHi 18 z.sgn)
  let ovrn := if (inputCell b c.input).isSome then State.tripped z c.gain m
    else code == codeLo 18 z.sgn || code == codeHi 18 z.sgn
  if c.skip then (s.modUnit u (fun x => { x with skipped := true })).plausCompare b c code m.check ovrn
  else
    let s1 := s.sampleUnit u code ovrn c.dirty t
    let s2 := s1.sampleFlags b c.input ovrn c.dirty
    let s2 := match inputCell b c.input with
      | some n => if ovrn ∨ c.dirty then s2 else s2.modCell n (fun c => { c with untaken := false })
      | none => s2
    let s3 := if ovrn then s2.openDirty b c (State.beyond z c.gain m) else s2
    s3.plausCompare b c code m.check ovrn

/-- CONVERSION_END (R124, R129, R133, R144): the conversion in progress ends, its sample is delivered and the next
conversion begins. With a calibration queued only entries already pending run, and then the running pass is dropped. -/
def conversionEnd (s : State) (b : Bank) (m : ConvMeas) : State :=
  match s.meas[b].cur with
  | none => s
  | some c =>
    let s1 := ((s.modMeas b (fun x => { x with cur := none })).deliver b c m).finishClose (unitOf b c.unit)
    let s2 := if s1.meas[b].cal = .queued then s1.modMeas b (fun x => { x with cal := .draining }) else s1
    s2.nextConv b (c.start + c.ts + 3)

/-- DIRTY_WINDOW_END (R137): the window whose end the running fabric cycle reaches has run out. -/
def dirtyWindowEnd (s : State) (b : Bank) : State :=
  if s.meas[b].dirtyEnd ≤ s.now + 40 then s.modMeas b (fun m => { m with dirtyEnd := 0 }) else s

/-- A calibration is requested (R132, R133): queued unless one is queued or running; nothing in progress, it waits
only for the entries pending. -/
def queueCal (s : State) (b : Bank) : State :=
  let m := s.meas[b]
  if m.cal ≠ .none ∨ ¬ (s.bank b).running then s
  else if m.cur.isSome then
    (s.modMeas b (fun m => { m with cal := .queued })).putB (BANK_CAL_CTRL_QUEUED b) true
  else
    ((s.modMeas b (fun m => { m with cal := .draining, passing := false })).putB (BANK_CAL_CTRL_QUEUED b) true).putB
      (BANK_SEQ_STAT_RUNNING b) false

/-- CAL_AUTO_CHECK (R132): once a second, with the bank die temperature of that second in 1/16 degree. -/
def calAutoCheck (s : State) (b : Bank) (temp : Int) : State :=
  if ¬ (s.bank b).running then s else
  let m := s.meas[b]
  let age := s.now - m.calAt
  let s1 := s.put (BANK_CAL_INFO_AGE_MIN b) (min (age / 240000000) 0xFFFF)
  let interval := s.get (BANK_CAL_PLAN_INTERVAL_H b)
  let dt := s.get (BANK_CAL_CFG_DT_K b)
  let byAge := interval != 0 && decide (14400000000 * interval ≤ age)
  let byTemp := dt != 0 && decide (16 * dt < (temp - signed 16 (s.get (BANK_CAL_INFO_TEMP_AT_CAL b))).natAbs)
  let quiet : Bool := match m.failedAt with
    | none => true
    | some t => decide (t + 240000000 ≤ s.now)
  if s.isSet (BANK_CAL_CFG_AUTO_EN b) ∧ quiet ∧ (byAge ∨ byTemp) then s1.queueCal b else s1

/-- The start-up calibration of a bank (R132): after POR and after every FBR, before the first pass. -/
def startupCal (s : State) (b : Bank) : State := if s.meas[b].startDue then s.queueCal b else s

/-- CAL_BEGIN (R133): everything pending has been delivered; the sequence is suspended and the calibration runs. Open
windows of the bank carry INFO.CAL (R134). -/
def calBegin (s : State) (b : Bank) : State :=
  let m := s.meas[b]
  if m.cal ≠ .draining ∨ m.cur.isSome ∨ m.pending ≠ [] then s else
  let s1 := s.modMeas b (fun m => { m with cal := .busy })
  let s2 := ((s1.putB (BANK_CAL_CTRL_QUEUED b) false).putB (BANK_CAL_CTRL_BUSY b) true).putB (BANK_SEQ_STAT_CAL_ACTIVE b) true
  s2.forEach (bankUnits b) (fun s u => s.modUnit u (fun x => { x with cal := x.cal || x.isOpen }))

/-- The code of a calibration's result (R131 and the ERR_CODE table); of several causes the first counts. -/
def calError (m : CalMeas) : Nat :=
  if 4096 < m.pOffset.natAbs ∨ 4096 < m.cOffset.natAbs then 1
  else if (m.pGain.toList ++ [m.cGain]).any (fun g => decide (20000 < g.natAbs)) then 2
  else if 2000 < m.refPpm.natAbs then 3
  else 0

/-- The factors of a calibration completed at a time come into effect (R131). -/
def applyCal (s : State) (b : Bank) (m : CalMeas) (t : Nat) : State :=
  let s1 := (s.put (BANK_P_OFFSET_OFFSET b) (toCode 24 m.pOffset)).forEach (List.finRange 5) (fun s g =>
    s.put (BANK_P_GAIN_GAIN b g) (toCode 24 m.pGain[g]))
  let s2 := (s1.put (BANK_C_OFFSET_OFFSET b) (toCode 24 m.cOffset)).put (BANK_C_GAIN_GAIN b) (toCode 24 m.cGain)
  let s3 := ((s2.addWrap (BANK_CAL_CTRL_CAL_CNT b) 1).put (BANK_CAL_INFO_TEMP_AT_CAL b) (toCode 16 m.temp)).put
    (BANK_CAL_INFO_AGE_MIN b) 0
  (s3.modMeas b (fun x => { x with calAt := t, failedAt := none })).measFlag b 3

/-- The calibration of a bank ends (R131, R133): completed or failed; held entries become pending and run, and a new
pass may start. -/
def calFinish (s : State) (b : Bank) (m : CalMeas) (q : Nat) : State :=
  if s.meas[b].cal ≠ .busy then s else
  let e := State.calError m
  let s1 := if e = 0 then s.applyCal b m (s.now + q)
    else ((s.put (BANK_CAL_CTRL_ERR_CODE b) e).modMeas b (fun x => { x with failedAt := some (s.now + q) })).measFlag b 4
  let s2 := (s1.putB (BANK_CAL_CTRL_BUSY b) false).putB (BANK_SEQ_STAT_CAL_ACTIVE b) false
  let s3 := (s2.modMeas b (fun x => { x with cal := .none, startDue := false, pending := x.held, held := [] })).notePending b
  s3.nextConv b (s.now + q)

/-- A readback code corrected (R131). DESIGN CHOICE: its LSB is the unit of AO_STAT.RB, 1 uA or 1 mV (log entry 54). -/
def readback (s : State) (b : Bank) (raw : Nat) : Nat :=
  (correct raw (signed 24 (s.get (BANK_C_OFFSET_OFFSET b))) (signed 24 (s.get (BANK_C_GAIN_GAIN b))) 0 65535).toNat

/-- READBACK_GROUP (R143): one 2 us conversion of each loop output of the bank, in ascending order, after a plausibility
conversion that runs. AO_V conversions inside a dirty window are dropped (R137); the others enter their means with the next group
or check. -/
def readbackGroup (s : State) (b : Bank) (rb : Vector Nat 8) (q : Nat) : State :=
  if ¬ (s.bank b).running then s else
  let t := max (s.now + q) s.meas[b].plEnd
  let loops := (List.finRange 8).filter (fun k => isLoopFn (s.fn (chanOf b k)))
  let convs := loops.zipIdx.map (fun (x : Fin 8 × Nat) => ({ pos := x.1, start := t + 8 * x.2, val := s.readback b rb[x.1] } : RbConv))
  (s.foldReadback b).modMeas b (fun m => { m with
    rbEnd := t + 8 * loops.length
    rbRun := convs.filter (fun x => ! (s.fn (chanOf b x.pos) == FN_AO_V && decide (x.start < m.dirtyEnd))) })

/-- The field die of a bank loses its converters' state in an FBR; a calibration queued or running is aborted, and the
next report says so (R132). -/
def fieldResetMeas (s : State) (b : Bank) : State :=
  let aborted := s.meas[b].cal != .none
  let s1 := (s.forEach (bankUnits b) State.finishClose).modMeas b (fun _ => { abortReport := aborted, calAt := s.now })
  ((((s1.putB (BANK_SEQ_STAT_RUNNING b) false).putB (BANK_SEQ_STAT_CAL_ACTIVE b) false).put (BANK_INJ_STAT_PENDING b) 0).putB
    (BANK_CAL_CTRL_QUEUED b) false).putB (BANK_CAL_CTRL_BUSY b) false

/-- The first report after an FBR gives the abort of a calibration (R132). -/
def reportCalAbort (s : State) (b : Bank) : State :=
  if s.meas[b].abortReport then
    ((s.put (BANK_CAL_CTRL_ERR_CODE b) 4).measFlag b 4).modMeas b (fun m => { m with abortReport := false })
  else s

/-- A commit at a boundary changes CFG.FUNC, VRANGE, LOOP or LOOP_V of a cell: its samples are DIRTY for 50 us (R94, R123), the one whose
sampling phase the boundary falls into among them. -/
def noteRange (s : State) (n : Chan) (t : Nat) : State :=
  s.modMeas (bankOf n) (fun m => { m with
    cellDirty := m.cellDirty.set (posOf n) (t + 200)
    cur := m.cur.map (fun c => { c with dirty := c.dirty || (c.input == (posOf n).val && decide (t < c.start + c.ts)) }) })

end State

end Sys2Proof.Machine
end

