-- ==== Sys2Proof/Machine/Switching.lean ====
section
/-!
DEFINITION. Switching outputs (chapter 02): current limit and restart policy (R51, R52), inrush windows and the power
arbiter (R62 to R64), the Wick generators (R66 to R70), the wire-matched fuse (R55 to R61), diagnostics (R72 to R74)
and the limp-home pins (R77).
-/

namespace Sys2Proof.Machine

/-- WIRE_TABLE (R55): R'20 in ohm/m, Rth' in K·m/W, C' in J/(K·m). -/
def wireTable (w : Nat) : Rat × Rat × Rat :=
  match w with
  | 0 => (0.1270, 218, 1.1)
  | 1 => (0.0712, 185, 1.6)
  | 2 => (0.0524, 171, 2.0)
  | 3 => (0.0356, 150, 2.7)
  | 4 => (0.0237, 126, 3.7)
  | 5 => (0.0178, 114, 4.7)
  | 6 => (0.0119, 96, 6.6)
  | _ => (0.00712, 77, 10.4)

/-- T_lim of an insulation class, in degrees Celsius (R56). -/
def tLim (insul : Nat) : Rat :=
  match insul with
  | 0 => 70
  | 1 => 90
  | _ => 180

namespace State

/-- The retry budget in force: the smaller of THERM_CFG.RETRIES and Candle's budget (R51). -/
def retriesEff (s : State) (n : Chan) : Nat :=
  min (s.fget (bankOf n) (CELL_THERM_CFG_RETRIES n)) (s.fget (bankOf n) (CANDLE_CH_PLAN_RETRY_BUDGET n))

/-- The limit of a switch in 0.01 mA (R46, R50, R62): inside an inrush window the inrush limit, else ILIM, each a figure of
the part within the bounds of R46, scaled by ILIM_PCT. -/
def limitAt (s : State) (n : Chan) : Nat :=
  (if (s.cell n).inrush then 7650 + (Config.inrushOver n.val).val else 3825 + (Config.ilimOver n.val).val) *
    s.fget (bankOf n) (CELL_SW_DERATE_ILIM_PCT n)

/-- ILIM_ENTRY (R50, R51): the current of a conducting switch, in mA, reaches its limit; ILIM sets in FLAGS and LIVE. -/
def ilimEntry (s : State) (n : Chan) (ma : Nat) : State :=
  if (s.cell n).on ∧ s.limitAt n ≤ 100 * ma then
    s.modCell n (fun c => { c with
      inLimit := true, live := setBit c.live FL_ILIM true, occ := setBit c.occ FL_ILIM true })
  else s

/-- ILIM_EXIT (R51): the current falls below the limit; LIVE.ILIM clears. -/
def ilimExit (s : State) (n : Chan) : State :=
  s.modCell n (fun c => { c with inLimit := false, live := setBit c.live FL_ILIM false })

/-- A trip (R51): the switch turns off and the trip is counted; the cell latches, or starts an automatic restart. -/
def trip (s : State) (n : Chan) (k : TripKind) : State :=
  let s1 := s.modCell n (fun c =>
    match k with
    | .limit => { c with repIlim := c.repIlim + 1 }
    | .tsd => { c with
        repTsd := c.repTsd + 1, live := setBit c.live FL_TSD true, occ := setBit c.occ FL_TSD true })
  if s.fget (bankOf n) (CELL_THERM_CFG_RESTART n) = 0 ∨ s.retriesEff n ≤ (s.cell n).retryCnt then s1.latchProtection n
  else
    ((s1.turnOff n).stopWick n).modCell n (fun c => { c with retryCnt := c.retryCnt + 1, retryOff := some k })

/-- LIMIT_TIMEOUT (R51): 200 us in current limit. -/
def limitTimeout (s : State) (n : Chan) : State :=
  if (s.cell n).on ∧ (s.cell n).inLimit then s.trip n .limit else s

/-- TSD_TRIP (R51, R52): the junction reaches 175 degrees while the switch conducts. -/
def tsdTrip (s : State) (n : Chan) : State :=
  if (s.cell n).on then s.trip n .tsd else s

/-- TSD_OFF_HOLD (R52): an off switch reaches 175 degrees: TSD sets, the switch is held off, no trip is taken; a DAC is not. -/
def tsdOffHold (s : State) (n : Chan) : State :=
  if (s.cell n).on then s
  else s.modCell n (fun c => { c with
    tsdHold := true, phaseWait := false, live := setBit c.live FL_TSD true, occ := setBit c.occ FL_TSD true })

/-- The value the state of a cell applies reaches its output stage again, when a hold at rank 2 or 3 ends (R36). -/
def resume (s : State) (n : Chan) : State := s.settle n false

/-- TSD_RELEASE (R52): the junction falls to 160 degrees; LIVE.TSD clears and a hold of an off switch ends. -/
def tsdRelease (s : State) (n : Chan) : State :=
  (s.modCell n (fun c => { c with tsdHold := false, live := setBit c.live FL_TSD false })).resume n

/-- RESTART_WAIT_END (R51): the off-time has run and the junction is at 160 degrees or less; the switch turns on if the
state still applies an on value. -/
def restartWaitEnd (s : State) (n : Chan) : State :=
  if (s.cell n).retryOff.isSome ∧ ¬ (s.cell n).live.getLsbD FL_TSD then
    (s.modCell n (fun c => { c with retryOff := none })).resume n
  else s

/-- RETRY_COUNT_RESET (R51): on for 1 s with no trip, a running generator included. -/
def retryCountReset (s : State) (n : Chan) : State :=
  if (s.cell n).on ∨ (s.cell n).wickRun then s.modCell n (fun c => { c with retryCnt := 0 }) else s

/-- INRUSH_WINDOW_END (R62): the window reaches its length. -/
def inrushWindowEnd (s : State) (n : Chan) : State := s.modCell n (fun c => { c with inrush := false })

/-- ARBITER_TBWARN (R64): running windows of the bank are truncated and INRUSH_CUT sets on their channels. -/
def arbiterTbwarn (s : State) (b : Bank) : State :=
  (s.modBank b (fun k => { k with tbwarn := true })).forEach (bankChans b) (fun s n =>
    if (s.cell n).inrush then s.modCell n (fun c => { c with inrush := false, occ := setBit c.occ FL_INRUSH_CUT true })
    else s)

/-- ARBITER_COOLED (R64). -/
def arbiterCooled (s : State) (b : Bank) : State := s.modBank b (fun k => { k with tbwarn := false })

/-- PHASE_POINT_TURN_ON (R63): a waiting turn-on is applied at the phase point. -/
def phasePointTurnOn (s : State) (n : Chan) : State :=
  if (s.cell n).phaseWait ∧ ¬ s.blocked n then s.turnOn n else s

/-- The bank period of the bank's timebase from a period start at a time on (R69): the newest the die had been given by then. -/
def bankPeriodAt (s : State) (b : Bank) (t : Nat) : Nat :=
  match (s.bank b).wickPers.find? (fun e => decide (e.1 ≤ t)) with
  | some e => e.2
  | none => if (s.bank b).wickPer ≠ 0 then (s.bank b).wickPer else s.fget b (BANK_WICK_PERIOD_PERIOD_US b)

/-- A standby whose time is aligned takes a bank's period start from the snapshots (R313). -/
def wickLocked (s : State) (b : Bank) : Bool := s.parted b && ! s.isSet RING_STAT_UNSYNC

/-- A period start of a generator on the bank's timebase (R66, R69): the bank's period start, which lies PHASE/256 of the
period before the generator's own. A bank period given since that start waits for the next one, so that all generators on the
bank period change together. -/
def bankPeriodStart (s : State) (n : Chan) : State :=
  let b := bankOf n
  let c := s.cell n
  let k := s.bank b
  let start := s.now - 4 * c.period * c.phase / 256
  if s.wickLocked b then s
  else if k.wickPer ≠ 0 ∧ start < k.wickAt + 100 then s
  else s.modBank b (fun k => { k with wickAt := start, wickPer := s.bankPeriodAt b start })

/-- A generator that comes from its own period joins the bank's timebase (R69): it takes the bank period in force there, at no
period start of the bank. -/
def joinBankPeriod (s : State) (b : Bank) : State :=
  let k := s.bank b
  if s.wickLocked b then s else
  let start := if k.wickPer = 0 then s.now else k.wickAt + (s.now - k.wickAt) / (4 * k.wickPer) * (4 * k.wickPer)
  s.modBank b (fun k => { k with wickAt := start, wickPer := s.bankPeriodAt b start })

/-- The on-time of a period in field-die clocks of 31.25 ns (R66): period x duty / 65,535, rounded. -/
def onTime (periodUs duty : Nat) : Nat := (roundNear ((periodUs * 32 * duty : Rat) / 65535)).toNat

/-- The soft-start ramp at a time after its start: from its starting duty at 65,535 per soft-start time (R70). -/
def softRamp (startDuty softMs t : Nat) : Nat := startDuty + 65535 * t / (softMs * 1000)

/-- A generator takes new period and phase at its period start; the period in which a new phase is taken is lengthened by the
increase modulo 256 (R69). While its state freezes it, it keeps them (R70). -/
def retime (s : State) (n : Chan) : State :=
  let b := bankOf n
  let own := decide (s.fget b (WICK_CFG_PER_SEL n) = 1)
  let s1 := if own then s else if (s.cell n).wickRun ∧ (s.cell n).perSel = 1 then s.joinBankPeriod b else s.bankPeriodStart n
  if s.fn n = FN_DO_PWM ∧ s.freezes n (s.cell n).state (s.cell n).cause then s1
  else
    let ph := s.fget b (WICK_CFG_PHASE n)
    s1.modCell n (fun c => { c with
      period := if own then s.fget b (WICK_PERIOD_PERIOD_US n) else (s1.bank b).wickPer
      perSel := own.toNat, stretch := (ph + 256 - c.phase) % 256, phase := ph })

/-- WICK_PERIOD_START (R66, R69, R70): the generator takes new duty, phase and period. A soft start begins from stopped or
duty 0, to 100 % too, and caps the duty. A DO_PWM cell that is held off, or whose switch its state sets directly, has no
generator to start. The ramp goes by the time since the last period start, as long as that period was. -/
def wickPeriodStart (s : State) (n : Chan) : State :=
  let s0 := s.retime n
  let c := s0.cell n
  if s.fn n ≠ FN_DO_PWM ∨ s.blocked n ∨ s.direct n ∨ ! (c.state == .active || c.state == .hold || c.state == .safe) then s0
  else
    let target := c.heldDuty.getD c.applied
    if target = 0 then (s0.turnOff n).stopWick n
    else
      let soft := s.fget (bankOf n) (WICK_CFG_SOFT n) * 10
      let starting := ! c.on && (! c.wickRun || (c.duty == 0 && ! c.softOn))
      let ramping := soft != 0 && (starting || c.softOn)
      let was := s.cell n
      let t := if starting then 0 else c.softT + was.period + was.period * was.stretch / 256
      let ramp := softRamp (if starting then 0 else c.softFrom) (max soft 1) t
      let eff := if ramping then min target ramp else target
      let s1 := s0.modCell n (fun c => { c with
        wickRun := true, duty := eff, onTicks := onTime c.period eff, softOn := ramping && decide (ramp < 65535), softLim := ramping && decide (ramp < target)
        softT := if ramping then t else 0, softFrom := if starting then 0 else c.softFrom })
      if eff = 0xFFFF then s1.turnOn n else s1

/-- WICK_EDGE (R66, R68, R72): a rising or falling edge of a running generator, which has none at duty 0 and at 100 %. The
250 ns separation moves the edge in time only (log entry 8). -/
def wickEdge (s : State) (n : Chan) (rising : Bool) : State :=
  let c := s.cell n
  if s.fn n = FN_DO_PWM ∧ c.wickRun ∧ c.duty ≠ 0 ∧ c.duty ≠ 0xFFFF ∧ ¬ s.blocked n then
    (if rising then s.turnOn n else s.turnOff n)
  else s

/-- TWARN (R53): sets its flag; the output is unchanged. -/
def twarn (s : State) (n : Chan) : State :=
  s.modCell n (fun c => { c with live := setBit c.live FL_TWARN true, occ := setBit c.occ FL_TWARN true })

/-- TWARN_CLEAR (R46): 145 degrees; TWARN clears in LIVE. -/
def twarnClear (s : State) (n : Chan) : State := s.modCell n (fun c => { c with live := setBit c.live FL_TWARN false })

/-- FUSE_STALL (R35): no marker for 150 us, which fourteen downward frames before the event show, on an on output while the
logic side is present and the command words carry no VOTIVE marker. -/
def fuseStall (s : State) (n : Chan) : State :=
  let k := s.bank (bankOf n)
  if (s.cell n).on ∧ k.running ∧ ¬ k.lost ∧ ¬ k.votive ∧ 140 ≤ (s.cell n).sinceMarker then
    (s.modCell n (fun c => { c with stalled := true, markers := 0 })).reselect n
  else s

/-- A cell the field die watches against I_HOLD (R34): in HOLD, in SAFE with an on value, or in LIMP with its pin
asserted; a SAFE cell with code LIMP counts as on while its pin is high. -/
def watched (s : State) (n : Chan) : Bool :=
  let c := s.cell n
  let k := s.bank (bankOf n)
  k.running && (k.lost || k.votive) && isSwitchFn (s.fn n) &&
    (c.state == .hold || ((c.state == .safe || c.state == .limp) && c.applied != 0))

/-- HOLD_CURRENT_TRIP (R34): the mirrored current of a watched cell exceeds the last I_HOLD, or 1,000 mA where the die
has received none, for 10 ms. -/
def holdCurrentTrip (s : State) (n : Chan) (ma : Nat) : State :=
  if s.watched n ∧ (s.cell n).iHold.getD 1000 < ma then
    (s.modCell n (fun c => { c with
      repFuse := c.repFuse + 1, live := setBit c.live FL_FUSE_TRIP true, occ := setBit c.occ FL_FUSE_TRIP true
      })).latchProtection n
  else s

/-- BLANKING_END (R72): the pull-down of an off cell is connected. -/
def blankingEnd (s : State) (n : Chan) : State := s.modCell n (fun c => { c with blanking := false })

/-- Whether the off-state tests run on a cell: an output-family switch or OFF cell that is off, after its blanking; a
running DO_PWM never counts as off (R72), and a unit that does not hold the bank is disconnected from it (R303). -/
def offTested (s : State) (n : Chan) : Bool :=
  let c := s.cell n
  let f := s.fn n
  (isSwitchFn f || f == FN_OFF) && ! c.on && ! c.blanking && ! (f == FN_DO_PWM && c.wickRun) &&
    (s.bank (bankOf n)).running && ! s.parted (bankOf n)

/-- OFF_STATE_SLOT (R72, R73): the cell's open-load slot starts, or ends with the terminal judged against 3.0 V; three
consecutive rounds decide. A slot whose cell is no longer tested ends unjudged. VTERM counts 2 mV. -/
def offStateSlot (s : State) (n : Chan) (starts : Bool) (vterm : Int) : State :=
  if starts then
    if s.offTested n ∧ s.fget (bankOf n) (CELL_DIAG_CFG_OL_OFF_EN n) = 1 then s.modCell n (fun c => { c with slot := true }) else s
  else if ¬ (s.cell n).slot then s
  else if ¬ s.offTested n then s.modCell n (fun c => { c with slot := false })
  else s.modCell n (fun c =>
    let high := if 1500 < vterm then c.olHigh + 1 else 0
    let low := if vterm < 1500 then c.olLow + 1 else 0
    let live := if 3 ≤ high then setBit c.live FL_OPEN_LOAD true
      else if 3 ≤ low then setBit c.live FL_OPEN_LOAD false else c.live
    { c with
      slot := false, vterm := vterm, olHigh := high, olLow := low, live := live,
      occ := if 3 ≤ high then setBit c.occ FL_OPEN_LOAD true else c.occ })

/-- Both cells of a parallel pair are flagged once each has reported XFEED with the other (R73). -/
def judgeParallel (s : State) (n m : Chan) : State :=
  if m ∈ (s.cell n).xfeedSeen ∧ n ∈ (s.cell m).xfeedSeen then
    let s1 := s.modCell n (fun c => { c with
      parWith := some m, live := setBit c.live FL_PARALLEL_SEEN true, occ := setBit c.occ FL_PARALLEL_SEEN true })
    s1.modCell m (fun c => { c with
      parWith := some n, live := setBit c.live FL_PARALLEL_SEEN true, occ := setBit c.occ FL_PARALLEL_SEEN true })
  else s

/-- The lowest-numbered XFEED candidate of a list: an on output of the same bank, not the cell itself (R73). -/
def xfeedCandidate (s : State) (n : Chan) (near : List Chan) : Option Chan :=
  (bankChans (bankOf n)).find? (fun m => m ∈ near ∧ m ≠ n ∧ isSwitchFn (s.fn m) ∧
    ((s.cell m).on ∨ (s.cell m).wickRun))

/-- OFF_STATE_FLAG_TIMER (R73): a 10 ms off-state condition has held. `high`: the terminal was above 2.0 V; `near`:
the outputs whose terminal matched it. -/
def offStateFlagTimer (s : State) (n : Chan) (high : Bool) (near : List Chan) (vterm : Int) : State :=
  if ¬ s.offTested n ∨ (s.cell n).slot then s
  else
    let s0 := s.modCell n (fun c => { c with vterm := vterm })
    if ¬ high then
      s0.modCell n (fun c => { c with
        xfeedSrc := none, live := setBit (setBit c.live FL_SHORT_VF false) FL_XFEED false })
    else
      let held := match (s.cell n).xfeedSrc with
        | some m => if (s.cell n).live.getLsbD FL_XFEED ∧ ((s.cell m).on ∨ (s.cell m).wickRun) then some m else none
        | none => none
      match held.orElse (fun _ => s.xfeedCandidate n near) with
      | some m =>
        let s1 := s0.modCell n (fun c => { c with
          xfeedSrc := some m, xfeedSeen := if m ∈ c.xfeedSeen then c.xfeedSeen else c.xfeedSeen ++ [m],
          live := setBit c.live FL_XFEED true, occ := setBit c.occ FL_XFEED true })
        s1.judgeParallel n m
      | none =>
        s0.modCell n (fun c => { c with
          xfeedSrc := none, live := setBit (setBit c.live FL_SHORT_VF true) FL_XFEED false,
          occ := setBit c.occ FL_SHORT_VF true })

/-- OPEN_LOAD_ON_TIMER (R74): the mean on-state current has been below (or at or above) OL_ON_MA for 10 ms of on-time.
The time of an inrush window is not counted. -/
def openLoadOnTimer (s : State) (n : Chan) (ma : Nat) : State :=
  let c := s.cell n
  if (c.on ∨ c.wickRun) ∧ ¬ c.inrush ∧ isSwitchFn (s.fn n) then
    if ma < s.fget (bankOf n) (CELL_DIAG_CFG_OL_ON_MA n) then
      s.modCell n (fun c => { c with live := setBit c.live FL_OPEN_LOAD true, occ := setBit c.occ FL_OPEN_LOAD true })
    else s.modCell n (fun c => { c with live := setBit c.live FL_OPEN_LOAD false })
  else s

/-- The cells a limp-home pin acts on: in LIMP, or in SAFE with safe code LIMP and a map entry (R77). -/
def followsPin (s : State) (n : Chan) : Bool :=
  let c := s.cell n
  s.limpPin n != 0 && isSwitchFn (s.fn n) &&
    (c.state == .limp || (c.state == .safe && s.safeCode n == 4 &&
      programmed c.cause))

/-- LIMP_PIN_EDGE (R77, R78): a filtered edge of LH_nA (pin 0) or LH_nB (pin 1); the cells that follow it switch. -/
def limpPinEdge (s : State) (b : Bank) (pin : Fin 2) (level : Bool) : State :=
  if ¬ (s.bank b).running then s else
  let s1 := s.modBank b (fun k => if pin = 0 then { k with lha := level } else { k with lhb := level })
  s1.forEach (bankChans b) (fun s n =>
    if s.followsPin n then
      (s.modCell n (fun c => { c with applied := s.valueOf n c.state c.cause })).settle n false
    else s)

/-- ISEL_CHANGE (R75): the pins select another channel for the ISNS mirror. -/
def iselChange (s : State) (b : Bank) (k : Fin 8) : State := s.modBank b (fun f => { f with isel := k })

/-- The current the ISNS_n mirror gives, in units of 1/5,000 mA of load current, from the signed load currents of the bank's
channels in mA: that of the selected channel; zero for reverse current, and when the channel is off or not of the output
family (R75). -/
def isnsSource (s : State) (b : Bank) (loadMa : Vector Int 8) : Nat :=
  let n := chanOf b (s.bank b).isel
  if (s.cell n).on ∧ family (s.fn n) = 2 then loadMa[(s.bank b).isel].toNat else 0

/-- The modelled base temperature of a cell in a fuse step (R57): bank die temperature plus OFFSET. -/
def fuseBase (s : State) (m : FuseMeas) (n : Chan) : Rat :=
  (m.die[bankOf n] : Rat) / 16 + (signed 8 (s.get (CELL_FUSE_CFG_OFFSET n)) : Rat)

/-- The rise of a cell's conductor over its base at the previous step (R57): as its field die has it, or after an FBR as the
engine's own copy has it (R61). -/
def fuseRise (s : State) (n : Chan) : Rat :=
  if (s.cell n).modelled then (s.cell n).tWire - (s.cell n).tBase
  else match (s.lcell n).fuse with
    | some x => x.tWire - x.tBase
    | none => 0

/-- The neighbour term N (R57, R59): the rise of the other members of the bundle at the previous step. -/
def fuseNeighbour (s : State) (n : Chan) : Rat :=
  let g := s.get (CELL_FUSE_CFG_BUNDLE n)
  if g = 0 then 0
  else
    let sum := allChans.foldl (fun (a : Rat) j =>
      if j ≠ n ∧ s.get (CELL_FUSE_CFG_BUNDLE j) = g ∧ family (s.lfn j) = 2 then
        a + max 0 (s.fuseRise j) else a) 0
    sum * (s.get (CELL_FUSE_CFG_K_N n) : Rat) / 16

/-- What one fuse step gives a cell (R57): base, ambient and neighbour term, the new temperature, and the hold
current in mA under Candle's ceiling. -/
structure FuseStep where
  tBase : Rat
  tNb : Rat
  tAmb : Rat
  tWire : Rat
  iHold : Nat
  deriving DecidableEq, Repr

/-- The copper coefficient ALPHA (R57). -/
def fuseAlpha : Rat := 0.00393

/-- One step of the model for a cell (R57), from the values of the previous step. -/
def fuseStepOf (s : State) (m : FuseMeas) (n : Chan) : FuseStep :=
  let (rp, rth0, cp) := wireTable (s.get (CELL_FUSE_CFG_WIRE n))
  let rth := if s.get (CELL_FUSE_CFG_ROUTE n) = 1 then rth0 / 2 else rth0
  let base := s.fuseBase m n
  let nb := s.fuseNeighbour n
  let amb := base + nb
  let t0 := if (s.cell n).modelled then (s.cell n).tWire else base
  let i2 : Rat := (m.i2[n] : Rat) / 1000000
  let p := i2 * rp * (1 + fuseAlpha * (t0 - 20))
  let t1 := t0 + (50 / 1000000 : Rat) / cp * (p - (t0 - amb) / rth)
  let lim := tLim (s.get (CELL_FUSE_CFG_INSUL n))
  let hold := sqrtNear (max 0 (lim - amb) / (rth * rp * (1 + fuseAlpha * (lim - 20))) * 1000000)
  { tBase := base, tNb := nb, tAmb := amb, tWire := t1, iHold := min hold (s.get (CELL_SW_DERATE_I_CEIL n)) }

/-- FUSE_TRIP (R57): the cell's conductor reaches T_lim; the fuse always latches. The trip is counted. -/
def fuseTrip (s : State) (n : Chan) : State :=
  let s1 := s.addSat (CELL_PROT_CNT_FUSE_TRIPS n) 1
  (s1.modCell n (fun c => { c with
    live := setBit c.live FL_FUSE_TRIP true, occ := setBit c.occ FL_FUSE_TRIP true })).latchProtection n

/-- A fuse step's results for a cell are written to the field die and its registers (R57), and LIVE.FUSE_TRIP clears
once the wire has cooled half way (R60). The model of a bank that is not held stays as the snapshots carry it (R307). -/
def writeFuse (s : State) (m : FuseMeas) (n : Chan) (r : FuseStep) : State :=
  let lim := tLim (s.get (CELL_FUSE_CFG_INSUL n))
  let rms := sqrtNear (m.i2[n] : Rat)
  let cooled := r.tWire ≤ r.tAmb + (lim - r.tAmb) / 2
  let s1 := (s.modCell n (fun c => { c with currentMa := rms, temp := m.temp[n], tempValid := true })).modLcell n (fun l => { l with marker := true })
  let s2 := ((s1.put (CELL_SW_STAT_CURRENT_MA n) rms).put (CELL_TEMP_TEMP n) (toCode 16 m.temp[n])).putB (CELL_TEMP_VALID n) true
  if s.parted (bankOf n) then s2
  else
    let s3 := s2.modCell n (fun c => { c with
      tBase := r.tBase, tNb := r.tNb, tAmb := r.tAmb, tWire := r.tWire, iHold := some r.iHold, modelled := true
      live := if cooled then setBit c.live FL_FUSE_TRIP false else c.live })
    let s4 := s3.modLcell n (fun l => { l with fuse := some ⟨r.tWire, r.tBase, r.tAmb, r.tNb⟩ })
    let s5 := (s4.put (CELL_FUSE_STAT_T_WIRE n) (toCode 16 (roundNear (r.tWire * 16)))).put (CELL_FUSE_STAT_I_HOLD n) r.iHold
    let s6 := (s5.put (CELL_FUSE_AMB_T_AMB n) (toCode 16 (roundNear (r.tAmb * 16)))).put (CELL_FUSE_AMB_T_NB n) (toCode 16 (roundNear (r.tNb * 16)))
    if lim ≤ r.tWire ∧ ¬ (s.cell n).live.getLsbD FL_FUSE_TRIP ∧ isSwitchFn (s.lfn n) then s6.fuseTrip n else s6

/-- The fuse step reaches a cell: its engine completed it and the field die is there to take it, after an FBR once the engine
has given the model back (R61). -/
def fuseReaches (s : State) (m : FuseMeas) (n : Chan) : Bool :=
  n ∉ m.incomplete && (s.bank (bankOf n)).running && ! (s.bank (bankOf n)).lost && ! (s.bank (bankOf n)).fbrReport

/-- The aggregate current of a bank in a fuse step (R47). -/
def noteAggregate (s : State) (b : Bank) (ma : Nat) (die : Int) : State :=
  let s1 := s.modBank b (fun k => { k with aggMa := ma, tDie := (die : Rat) / 16 })
  let s2 := s1.put (BANK_ARB_STAT_AGG_MA b) ma
  s2.put (BANK_ARB_PEAK_PEAK_MA b) (max (s.get (BANK_ARB_PEAK_PEAK_MA b)) (min ma 0xFFFF))

/-- FUSE_STEP (R19, R57): at a boundary whose cycle number is a multiple of 5, every cell's model advances one step of
50 us, from the values of the previous step; a cell whose step did not complete keeps its model and gets no marker
(R20). No step runs in VOTIVE (R354) or in SLEEP (R360). -/
def fuseStep (s : State) (m : FuseMeas) : State :=
  if s.inReset ∨ (s.cycle + 1) % 5 ≠ 0 ∨ s.fuseDone ∨ s.mode = .votive ∨ s.get SYS_PWR_STAT_STATE = 3 then s else
  let s1 := s.forEach allBanks (fun t b => if (s.bank b).running then t.noteAggregate b m.agg[b] m.die[b] else t)
  let s2 := s1.forEach allChans (fun t n =>
    if s.fuseReaches m n then t.writeFuse m n (s.fuseStepOf m n) else t)
  { s2 with fuseDone := true }

end State

end Sys2Proof.Machine
end

