-- ==== Sys2Proof/Machine/Candle.lean ====
section
/-!
DEFINITION. Candle (chapter 11): what it measures at each fuse step, each second and each hour (R365 to R367), its log in
NV memory (R368 to R370), re-planning (R372 to R376), remaining life (R377, R378), the stored calibration factors (R371)
and the calendar (R379).
-/

namespace Sys2Proof.Machine

/-- The kinds of EVENT record (R368). -/
inductive LogEvent | fuseTrip | protLatch | calFail | derate | sectorRetired | aonLost
  deriving DecidableEq, Repr

/-- A number for each kind, to name its free code by. -/
def LogEvent.idx : LogEvent → Nat
  | .fuseTrip => 0 | .protLatch => 1 | .calFail => 2 | .derate => 3 | .sectorRetired => 4 | .aonLost => 5

/-- A log record (R368): RMAGIC, RTYPE, RVER, SEQ, LEN, TIME, payload, CRC. -/
def logRecord (rtype seq time : Nat) (payload : List Byte) : List Byte :=
  let head := leBytes 2 0x4C43 ++ [BitVec.ofNat 8 rtype, 0x01] ++ leBytes 4 seq ++ leBytes 4 payload.length ++ leBytes 4 time
  head ++ payload ++ wordBytes (crc32 (head ++ payload))

/-- The records of a sector in order: type, SEQ and payload of each whose CRC is correct (R368, R369). -/
def logRecords : Nat → List Byte → List (Nat × Nat × List Byte)
  | 0, _ => []
  | k + 1, l =>
    if leNat (l.take 2) ≠ 0x4C43 then [] else
    let len := leNat ((l.drop 8).take 4)
    let body := l.take (16 + len)
    let rest := logRecords k (l.drop (20 + len))
    if l.length < 20 + len then []
    else if bytesWord ((l.drop (16 + len)).take 4) = crc32 body then
      ((l.getD 2 0).toNat, leNat ((l.drop 4).take 4), body.drop 16) :: rest
    else rest

/-- SEQ a is newer than SEQ b (R146, R178): by less than half the number range. -/
def seqNewer (a b : Nat) : Bool := let d := (a + 4294967296 - b) % 4294967296; decide (0 < d) && decide (d < 2147483648)

/-- The median of a list of numbers, 0 of none: the lower middle value. -/
def median (l : List Nat) : Nat := let m := l.mergeSort (· ≤ ·); m.getD ((m.length - 1) / 2) 0

/-- The acceleration factors of R377, in 1/1000: logic die, bank dies. -/
def accelFactors (logic : Bool) : List Nat := if logic then [149, 549, 1765, 13100] else [190, 591, 1648, 3338]

/-- The temperature bin of a die at a temperature in 1/16 degree (R377). -/
def tempBin (logic : Bool) (t : Int) : Nat :=
  let lim := if logic then [70, 90, 110] else [95, 115, 135]
  lim.foldl (fun k (x : Int) => if 16 * x < t then k + 1 else k) 0

/-- One step of R366's procedure with a temperature in 1/16 degree; the first sample starts it. -/
def thermalStep (c : CandleCh) (t : Int) : CandleCh :=
  let half (swing : Int) (h : Vector Nat 3) : Vector Nat 3 :=
    if 1280 ≤ swing then h.set 2 (h[2] + 1) else if 640 ≤ swing then h.set 1 (h[1] + 1)
    else if 320 ≤ swing then h.set 0 (h[0] + 1) else h
  if ¬ c.seen then { c with seen := true, dirUp := true, tExt := t, tStart := t }
  else if c.dirUp then
    if c.tExt < t then { c with tExt := t }
    else if 80 ≤ c.tExt - t then
      { c with half := half (c.tExt - c.tStart) c.half, tStart := c.tExt, tExt := t, dirUp := false }
    else c
  else if t < c.tExt then { c with tExt := t }
  else if 80 ≤ t - c.tExt then
    { c with half := half (c.tStart - c.tExt) c.half, tStart := c.tExt, tExt := t, dirUp := true }
  else c

/-- I_CEIL in mA of an r_plan in 1/1000 (R373). -/
def planCeil (r : Nat) : Nat := if r ≤ 1100 then 2000 else max 1000 (isqrt (4400000000 / r))

/-- ILIM_PCT of an r_plan in 1/1000 (R373). -/
def planIlim (r : Nat) : Nat := if r ≤ 1200 then 100 else max 70 ((220000 - 100 * r) / 1000)

/-- The retry budget of a channel with a trip count and a damage (R374). -/
def planBudget (trips : Nat) (d : Rat) : Nat :=
  if 4 / 5 ≤ d then 0 else if trips < 1000 then 15 else 15 - trips / 1000

/-- LIFE_PCT of a damage (R378). -/
def lifePct (d : Rat) : Nat := (100 * (1 - d)).floor.toNat

/-- REMAIN_H of a damage and the damage 1,000 powered hours earlier (R378). -/
def remainHours (d d0 : Rat) : Nat :=
  if 1 ≤ d then 0 else if d ≤ d0 then 0xFFFFFFFF else min (((1 - d) / ((d - d0) / 1000)).floor.toNat) 0xFFFFFFFF

/-- INTERVAL_H of a bank from its calibrations, newest first: offset in 1/16 LSB, gain in ppm, powered second (R375). -/
def planInterval (cals : List (Int × Int × Nat)) : Nat :=
  if cals.length < 4 then 168 else
  let pairs := (cals.zip cals.tail).take 8
  let rate := pairs.foldl (fun (m : Rat) p =>
    let drift : Rat := ((p.1.2.1 - p.2.2.1).natAbs : Rat) + (19 / 5 : Rat) * ((p.1.1 - p.2.1).natAbs : Rat) / 16
    max m (drift * 3600 / ((p.1.2.2 - p.2.2.2 : Nat) : Rat))) 0
  if rate = 0 then 4380 else min (max (100 / rate).floor.toNat 24) 4380

namespace State

/-- Candle's part changed. -/
def modCandle (s : State) (g : Candle → Candle) : State := { s with candle := g s.candle }

/-- Candle's part of a channel changed. -/
def modCandleCh (s : State) (n : Chan) (g : CandleCh → CandleCh) : State :=
  s.modCandle (fun c => { c with ch := c.ch.set n (g c.ch[n]) })

/-- NV memory changed. -/
def modNv (s : State) (g : Nv → Nv) : State := { s with nv := g s.nv }

/-- A bit of CANDLE.EVT set by an occurrence: line 52 on a 0-to-1 change whose enable is 1 (table CANDLE.EVT). -/
def candleEvt (s : State) (i : Nat) : State :=
  let was := (s.word CANDLE_EVT_EVT.addr).getLsbD i
  let t := s.raiseBits CANDLE_EVT_EVT.addr (1#32 <<< i)
  if ! was && (s.word CANDLE_EVT_EN_EN.addr).getLsbD i then t.raiseLine 52 allSeats else t

/-- Powered time in seconds. -/
def powered (s : State) : Nat := s.get (CANDLE_MODE_S_S 7)

/-- The highest erase count of the sectors a region uses. -/
def topErases (l : List Wear) : Nat := l.foldl (fun m w => if w.retired then m else max m w.erases) 0

/-- NV_WEAR follows the sectors in use (table CANDLE.NV_WEAR). -/
def noteWear (s : State) : State :=
  let top := max (max (topErases (s.nv.log.toList.map (·.wear))) (topErases (s.nv.words.toList.map (·.wear))))
    (s.nv.slotErases.toList.foldl max 0)
  (s.put CANDLE_NV_WEAR_MAX_ERASE (min top 0xFFFF)).put CANDLE_NV_WEAR_SPARES s.nv.spares

/-- The sectors of a slot are erased: fabric slots A and B, firmware slots A and B (R192, R365). -/
def eraseSlot (s : State) (i : Fin 4) : State :=
  (s.modNv (fun v => { v with slotErases := v.slotErases.set i (v.slotErases[i] + 1) })).noteWear

/-- A sector of the log changed. -/
def modSector (s : State) (i : Fin 64) (g : LogSector → LogSector) : State :=
  s.modNv (fun v => { v with log := v.log.set i (g v.log[i]) })

/-- The bytes of a record are put into the sector being written. -/
def appendLog (s : State) (bytes : List Byte) : State :=
  s.modSector (Fin.ofNat 64 s.candle.sector) (fun x => { x with bytes := x.bytes ++ bytes })

/-- The next sequence number is taken. -/
def nextSeq (s : State) : State := s.modCandle (fun c => { c with seq := (c.seq + 1) % 4294967296 })

/-- The next sector in ring order that is not retired, from one after i, looking at k of them. -/
def nextSector (s : State) : Nat → Nat → Nat
  | 0, i => i
  | k + 1, i => let j := (i + 1) % 64; if (s.nv.log[j]?.getD {}).wear.retired then s.nextSector k j else j

/-- The wear of a sector's place after it is retired (R370): a spare takes it, or the region goes on with one sector fewer. -/
def spareWear (s : State) (w : Wear) : Wear :=
  if s.nv.spares = 0 then { w with retired := true } else { erases := 0, spare := some (8 - s.nv.spares) }

/-- A sector is being retired (R370): NV_RETIRE, and a spare is taken, or with none left NO_SPARE is raised. -/
def takeSpare (s : State) : State :=
  let s1 := s.candleEvt 4
  if s.nv.spares = 0 then (s1.candleEvt 5).put NVM_STAT_ERR 4 else s1.modNv (fun v => { v with spares := v.spares - 1 })

/-- A sector of the log is retired (R370). -/
def retireSector (s : State) (i : Fin 64) : State :=
  s.takeSpare.modSector i (fun x => { x with wear := s.spareWear x.wear })

/-- A record is put behind the last one of the sector being written, under the next sequence number (R368). -/
def putRecord (s : State) (rtype : Nat) (payload : List Byte) : State :=
  let s1 := s.nextSeq
  s1.appendLog (logRecord rtype s1.candle.seq s1.powered payload)

/-- The payload of an EVENT record (R368): code and value are free values. -/
def eventPayload (s : State) (k : LogEvent) (who : Nat) : List Byte :=
  leBytes 2 (Config.eventCode k.idx).toNat ++ leBytes 2 who ++
    leBytes 8 (if s.isSet CAL_CTRL_VALID then s.candle.calSec else 0) ++ wordBytes (Config.eventValue s.free)

/-- The sector that follows a retired one: its spare in the same place, else the next that is not retired (R370). -/
def afterRetired (s : State) (i : Fin 64) : Nat := if s.nv.log[i].wear.retired then s.nextSector 64 i.val else i.val

/-- The log goes on in a sector (R368 to R370): erased, its erase count written as a SECTOR record. One that reaches 16,000
erases is retired, with an EVENT record in the sector that follows it; at most k sectors are tried. -/
def openSector : Nat → Nat → State → State
  | 0, _, s => s
  | k + 1, j, s =>
    let i : Fin 64 := Fin.ofNat 64 j
    let s1 := (s.modCandle (fun c => { c with sector := i.val })).modSector i (fun x => {
      bytes := [], wear := { x.wear with erases := x.wear.erases + 1 } })
    if s1.nv.log[i].wear.erases < 16000 then (s1.putRecord 0x0F (leBytes 4 s1.nv.log[i].wear.erases)).noteWear
    else
      let s2 := s1.retireSector i
      let s3 := openSector k (s2.afterRetired i) s2
      s3.useFree.putRecord 0x02 (s3.eventPayload .sectorRetired i.val)

/-- The log moves to its next sector (R369). -/
def turnSector (s : State) : State := openSector 64 (s.nextSector 64 s.candle.sector) s

/-- A record with a payload of k bytes does not fit in the sector being written (R369). -/
def logTurns (s : State) (k : Nat) : Bool :=
  let bytes := (s.nv.log[s.candle.sector]?.getD {}).bytes
  bytes.isEmpty || decide (4096 - bytes.length < k + 20)

/-- A record is appended (R369): in the sector being written, or in the next one where it does not fit. -/
def writeLog (s : State) (rtype : Nat) (payload : List Byte) : State :=
  (if s.logTurns payload.length then s.turnSector else s).putRecord rtype payload

/-- An EVENT record is written (R368). -/
def logEvent (s : State) (k : LogEvent) (who : Nat) : State := s.useFree.writeLog 0x02 (s.eventPayload k who)

/-! ### The calibration and configuration words -/

/-- A sector of the calibration and configuration words changed. -/
def modWords (s : State) (i : Fin 16) (g : WordSector → WordSector) : State :=
  s.modNv (fun v => { v with words := v.words.set i (g v.words[i]) })

/-- The next sector of the words in ring order that is not retired, from one after i, looking at k of them. -/
def nextWords (s : State) : Nat → Nat → Nat
  | 0, i => i
  | k + 1, i => let j := (i + 1) % 16; if (s.nv.words[j]?.getD {}).wear.retired then s.nextWords k j else j

/-- The ring of the words goes on in a sector (R370): the records of it that are the newest of their kind, and those carried from
a sector before it, are copied forward as it is erased. One that reaches 16,000 erases is retired; at most k are tried. -/
def openWords : Nat → Nat → List WordKind → State → State
  | 0, _, _, s => s
  | k + 1, j, carried, s =>
    let i : Fin 16 := Fin.ofNat 16 j
    let live := carried ++ s.nv.words[i].live
    let s1 := (s.modNv (fun v => { v with wordSector := i.val })).modWords i (fun x => {
      live := live, used := 24 + (live.map WordKind.size).sum, wear := { x.wear with erases := x.wear.erases + 1 } })
    if s1.nv.words[i].wear.erases < 16000 then s1.noteWear
    else
      let s2 := s1.takeSpare.modWords i (fun x => { wear := s1.spareWear x.wear })
      (openWords k (if s2.nv.words[i].wear.retired then s2.nextWords 16 i.val else i.val) live s2).logEvent .sectorRetired (64 + i.val)

/-- A record of a kind does not fit in the sector of the words being written (R369, R370). -/
def wordsTurn (s : State) (k : WordKind) : Bool :=
  let x := s.nv.words[s.nv.wordSector]?.getD {}
  x.used == 0 || decide (4096 < x.used + k.size)

/-- A record of a kind is written: it is now the newest of its kind (R370). -/
def putWord (s : State) (k : WordKind) : State :=
  let s1 := if s.wordsTurn k then openWords 16 (s.nextWords 16 s.nv.wordSector) [] s else s
  (s1.modNv (fun v => { v with words := v.words.map (fun x => { x with live := x.live.filter (· != k) }) })).modWords
    (Fin.ofNat 16 s1.nv.wordSector) (fun x => { x with live := x.live ++ [k], used := x.used + k.size })

/-- The write of a record of a kind fails (R370): the previous record stays in force, and a sector in which a program or an erase
fails verification is retired. -/
def wordFails (s : State) (k : WordKind) (err : Nat) : State :=
  let i : Fin 16 := Fin.ofNat 16 (if s.wordsTurn k then s.nextWords 16 s.nv.wordSector else s.nv.wordSector)
  let s1 := s.nvError err (s.nv.words[i].wear.offset (0x1E0000 + 4096 * i.val))
  if err ≠ 1 ∧ err ≠ 2 then s1
  else
    let s2 := s1.takeSpare.modWords i (fun x => { wear := s.spareWear x.wear })
    (openWords 16 (if s2.nv.words[i].wear.retired then s2.nextWords 16 i.val else i.val) s.nv.words[i].live s2).logEvent
      .sectorRetired (64 + i.val)

/-! ### What Candle measures -/

/-- R_ON of a channel in uOhm for its energy: as last sampled, before that the factory's (R365, R367; log entry 64). -/
def rOnOf (s : State) (n : Chan) : Nat := s.candle.ch[n].rOn.getD s.nv.rRef[n]

/-- The switch energy in uJ since the last collection (R365): i^2 in mA^2 over steps of 50 us on R_ON in uOhm, and the
demagnetisation energy. -/
def switchEnergy (s : State) (m : FuseMeas) (n : Chan) : Nat := m.i2Sum[n] * s.rOnOf n / 20000000000 + m.demagUj[n]

/-- An on-resistance sample is taken of a channel at a fuse step (R367): 0.5 A or more, fully on for 1 ms and so outside any edge,
outside current limit and inrush window. -/
def samplesRon (s : State) (n : Chan) : Bool :=
  let c := s.cell n
  c.on && decide (500 ≤ c.currentMa) && decide (c.onAt + 4000 ≤ s.now) && ! c.inLimit && ! c.inrush

/-- The on-resistance sample of a channel (R367): R_ON in uOhm, and R_REF, normalised to 25 degrees. -/
def takeRon (s : State) (m : FuseMeas) (n : Chan) : State :=
  let r := m.dropUv[n] * 1000 / (s.cell n).currentMa
  let ref : Rat := (r : Rat) / (1 + 0.0045 * ((m.temp[n] : Rat) / 16 - 25))
  s.modCandleCh n (fun x => { x with rOn := some r, ronSum := x.ronSum + ref, ronCnt := x.ronCnt + 1 })

/-- What Candle takes in of a channel at a fuse step (R365 to R367): its switching cycles, its energy, its temperature with the
extremes its die has kept, and an on-resistance sample. -/
def candleFuse (s : State) (m : FuseMeas) (n : Chan) : State :=
  if family (s.lfn n) ≠ 2 ∨ ¬ s.fuseReaches m n then s else
  let c := s.cell n
  let s := if s.samplesRon n then s.takeRon m n else s
  let uj := s.candle.ch[n].energyUj + s.switchEnergy m n
  let s1 := (s.addSat (CANDLE_CH_CYCLES_N n) c.cycles).addSat (CANDLE_CH_ENERGY_J n) (uj / 1000000)
  let s2 := (s1.modCell n (fun c => { c with cycles := 0 })).modCandleCh n (fun x =>
    (m.extremes[n] ++ [m.temp[n]]).foldl thermalStep { x with energyUj := uj % 1000000 })
  let h := s2.candle.ch[n].half
  ((s2.put (CANDLE_CH_TCYC1_N n) (h[0] / 2)).put (CANDLE_CH_TCYC2_N n) (h[1] / 2)).put (CANDLE_CH_TCYC3_N n) (h[2] / 2)

/-- FUSE_STEP with what Candle collects there (R57, R365). -/
def fuseStepAll (s : State) (m : FuseMeas) : State :=
  let t := s.fuseStep m
  if t.fuseDone ∧ ¬ s.fuseDone then
    let t1 := t.forEach allChans (fun u n => u.candleFuse m n)
    t1.forEach allChans (fun u n =>
      if (s.cell n).latched = false ∧ (t.cell n).latched then (u.logEvent .fuseTrip n.val).logEvent .protLatch n.val else u)
  else t

/-- What Candle takes of the report the logic side is about to take in: lifetime trips (R365), and EVENT records of fuse
trips and protection latches (R368). -/
def candleReport (s : State) (b : Bank) (f : UpFrame) : State :=
  s.forEach (List.finRange 8) (fun s k =>
    let n := chanOf b k
    let c := f.cells[k]
    let latch := c.state == .fault && c.cause == .protection && s.get (CELL_STATE_STATE n) != CellState.fault.code
    let s1 := s.addSat (CANDLE_CH_PLAN_TRIPS n) (c.repIlim + c.repTsd)
    let s2 := if 0 < c.repFuse then s1.logEvent .fuseTrip n.val else s1
    if latch ∧ ¬ (c.live.getLsbD FL_FUSE_TRIP ∧ c.repFuse = 0) then s2.logEvent .protLatch n.val else s2)

/-- The damage of a channel (R377). -/
def damageOf (s : State) (n : Chan) : Rat :=
  let h := s.candle.ch[n].half
  let cyc : Rat := (h[0] : Rat) / 6000000 + (h[1] : Rat) / 600000 + (h[2] : Rat) / 60000
  max cyc (max 0 (((s.get (CANDLE_CH_RON_R_PLAN n) : Rat) / 1000 - 1) * 2))

/-- The damage of the device (R377): the worst die, or the most erased sector. -/
def deviceDamage (s : State) : Rat :=
  let die (d : Nat) : Rat :=
    ((accelFactors (d == 0)).zip (List.range 4)).foldl (fun (a : Rat) p =>
      a + (s.get (CANDLE_TEMP_S_S (4 * d + p.2)) : Rat) * p.1 / 1000) 0 / 630720000
  (List.range 5).foldl (fun m d => max m (die d)) ((s.get CANDLE_NV_WEAR_MAX_ERASE : Rat) / 20000)

/-- LIFE_ALARM (R378): live while the device's LIFE_PCT or that of an output-family channel is below ALARM_PCT; its event
occurs when it becomes live. -/
def noteLifeAlarm (s : State) : State :=
  let lim := s.get CANDLE_CTRL_ALARM_PCT
  let live := decide (s.get CANDLE_DEV_LIFE_LIFE_PCT < lim) ||
    allChans.any (fun (n : Chan) => family (s.lfn n) == 2 && decide (s.get (CANDLE_CH_PLAN_LIFE_PCT n) < lim))
  let s1 := if live ∧ ¬ s.isSet CANDLE_STAT_LIFE_ALARM then s.candleEvt 0 else s
  s1.putB CANDLE_STAT_LIFE_ALARM live

/-- A planned value waits for the next commit (R372). -/
def planField (s : State) (f : Fld) (v : Nat) : State :=
  if s.get f = v then s else { s with commits := s.commits ++ [.field f v] }

/-- Re-planning of a channel (R373, R374, R378); `d0` is its damage 1,000 powered hours earlier. A change of a derating
value is an event and an EVENT record. -/
def planChannel (s : State) (n : Chan) : State :=
  let d := s.damageOf n
  let r := s.get (CANDLE_CH_RON_R_PLAN n)
  let out := family (s.lfn n) == 2
  let ceil := if out then planCeil r else s.get (CELL_SW_DERATE_I_CEIL n)
  let pct := if out then planIlim r else s.get (CELL_SW_DERATE_ILIM_PCT n)
  let moved := out && s.candle.ch[n].plan != (ceil, pct)
  let s0 := if out then s.modCandleCh n (fun c => { c with plan := (ceil, pct) }) else s
  let s1 := (((s0.planField (CELL_SW_DERATE_I_CEIL n) ceil).planField (CELL_SW_DERATE_ILIM_PCT n) pct).planField
    (CANDLE_CH_PLAN_RETRY_BUDGET n) (planBudget (s.get (CANDLE_CH_PLAN_TRIPS n)) d)).put (CANDLE_CH_PLAN_LIFE_PCT n) (lifePct d)
  let s2 := s1.put (CANDLE_CH_REMAIN_H_H n) (remainHours d (s.candle.ch[n].damage.getD 999 0))
  if moved then (s2.candleEvt 1).logEvent .derate n.val else s2

/-- Re-planning of a bank's calibration interval (R375). -/
def planBank (s : State) (b : Bank) : State :=
  let i := planInterval s.candle.cals[b]
  let s1 := s.planField (BANK_CAL_PLAN_INTERVAL_H b) i
  if s.get (BANK_CAL_PLAN_INTERVAL_H b) ≠ i then s1.candleEvt 2 else s1

/-- The mean equaliser setting of a ring port's last 24 hours (R376); before its first hour, the one in effect. -/
def meanEq (s : State) (x : Fin 2) : Nat :=
  let l := s.candle.eqHist[x]
  if l = [] then s.get (CANDLE_RING_EQ_START x) else l.sum / l.length

/-- Re-planning of a ring port (R376): where its receiver starts, and its EYE threshold. -/
def planPort (s : State) (x : Fin 2) : State :=
  (s.planField (CANDLE_RING_EQ_START x) (s.meanEq x)).planField (CANDLE_RING_EYE_WARN x)
    (max 35 (s.candle.eyeRef[x].getD 0 - 25))

/-- Candle re-plans (R372): every channel, every bank, every ring port, the device's life and the life alarm. -/
def replan (s : State) : State :=
  let s0 := (s.forEach allChans (fun s n => s.planChannel n)).forEach allBanks (fun s b => s.planBank b)
  let s1 := s0.forEach (List.finRange 2) (fun s x => s.planPort x)
  let d := s1.deviceDamage
  ((s1.put CANDLE_DEV_LIFE_LIFE_PCT (lifePct d)).put CANDLE_DEV_REMAIN_H_H (remainHours d (s1.candle.damage.getD 999 0))).noteLifeAlarm

/-- The payload of a SUMMARY record (R368). -/
def summaryPayload (s : State) : List Byte :=
  let ch := allChans.flatMap (fun (n : Chan) =>
    leBytes 4 (s.get (CANDLE_CH_CYCLES_N n)) ++ leBytes 4 (s.get (CANDLE_CH_ENERGY_J n)) ++
    (s.candle.ch[n].half.toList.flatMap (fun k => leBytes 4 k)) ++ leBytes 2 (s.get (CANDLE_CH_RON_R_PLAN n)) ++
    leBytes 2 (s.get (CANDLE_CH_PLAN_TRIPS n)))
  let bk := allBanks.flatMap (fun (b : Bank) =>
    leBytes 4 (s.get (CANDLE_DRIFT_OFS_OFS b)) ++ leBytes 4 (s.get (CANDLE_DRIFT_GAIN_PPM b)) ++
    (List.range 4).flatMap (fun i => leBytes 4 (s.get (CANDLE_TEMP_S_S (4 * (1 + b.val) + i)))))
  let logic := (List.range 4).flatMap (fun i => leBytes 4 (s.get (CANDLE_TEMP_S_S i)))
  let modes := (List.range 8).flatMap (fun i => leBytes 4 (s.get (CANDLE_MODE_S_S i)))
  let osc := leBytes 4 (toCode 32 (signed 16 (s.get CANDLE_OSC_MAIN_PPM))) ++
    leBytes 4 (toCode 32 (signed 16 (s.get CANDLE_OSC_XTAL32_PPM)))
  let ring := (List.finRange 2).flatMap (fun (x : Fin 2) =>
    leBytes 4 (s.get (CANDLE_RING_ERR_CNT x)) ++ leBytes 1 (s.get (CANDLE_RING_EYE_MIN_H x)) ++
    leBytes 1 (s.meanEq x) ++ leBytes 1 (s.candle.eyeRef[x].getD 0) ++ [0])
  let body := ch ++ bk ++ logic ++ modes ++ osc ++ ring ++ leBytes 4 (s.get CANDLE_NV_WEAR_MAX_ERASE) ++ leBytes 4 s.nv.spares
  body ++ List.replicate (1004 - body.length) 0

/-- The hourly values of a channel (R367): r of the hour from 100 samples or more, r_plan the highest of all. -/
def hourlyRon (s : State) (n : Chan) : State :=
  let c := s.candle.ch[n]
  let r := if c.ronCnt < 100 ∨ s.nv.rRef[n] = 0 then 0
    else min (roundNear (c.ronSum / c.ronCnt / s.nv.rRef[n] * 1000)).toNat 0xFFFF
  let s1 := (s.put (CANDLE_CH_RON_R_NOW n) r).put (CANDLE_CH_RON_R_PLAN n) (max (s.get (CANDLE_CH_RON_R_PLAN n)) r)
  s1.modCandleCh n (fun c => { c with ronSum := 0, ronCnt := 0 })

/-- The hourly values of a ring port (R365, R376): errors, minimum EYE, what is kept of an hour in which it was up, EYE_REF after
its first 1,000, and RING_MARGIN. -/
def hourlyPort (s : State) (m : FoldMeas) (x : Fin 2) : State :=
  let errs := s.candle.hourErrs[x]
  let s0 := ((s.put (CANDLE_RING_ERR_CNT x) errs).put (CANDLE_RING_EYE_MIN_H x) m.eye[x]).modCandle (fun c => { c with
    hourErrs := c.hourErrs.set x 0 })
  let hours := s.candle.portHours[x] + 1
  let eyes := if hours ≤ 1000 then m.eye[x] :: s.candle.eyeHist[x] else s.candle.eyeHist[x]
  let s1 := if ¬ m.up[x] then s0 else s0.modCandle (fun c => { c with
    portHours := c.portHours.set x hours, eyeHist := c.eyeHist.set x eyes
    eyeRef := if hours = 1000 then c.eyeRef.set x (some (median eyes)) else c.eyeRef
    eqHist := c.eqHist.set x ((m.eq[x] :: c.eqHist[x]).take 24) })
  if (m.up[x] ∧ m.eye[x] < s.get (CANDLE_RING_EYE_WARN x)) ∨ 11 < errs then s1.candleEvt 3 else s1

/-- The factors of a bank in the order they are stored: P_OFFSET, P_GAIN[0..4], C_OFFSET, C_GAIN. -/
def calFactors (s : State) (b : Bank) : List Word :=
  [s.word (BANK_P_OFFSET_OFFSET b).addr] ++ (List.range 5).map (fun g => s.word (BANK_P_GAIN_GAIN b g).addr) ++
    [s.word (BANK_C_OFFSET_OFFSET b).addr, s.word (BANK_C_GAIN_GAIN b).addr]

/-- The calibration factors of a bank are stored (R371). -/
def storeCal (s : State) (b : Bank) : State :=
  (s.modNv (fun v => { v with cal := v.cal.set b (some (s.calFactors b, s.powered)) })).putWord (.cal b)

/-- Two sets of factors differ by more than 2 LSB in an offset or 20 ppm in a gain (R371). -/
def calMoved (old new : List Word) : Bool :=
  (List.range 8).any (fun i =>
    let d := (signed 24 (bits (old.getD i 0) 0 24) - signed 24 (bits (new.getD i 0) 0 24)).natAbs
    if i = 0 ∨ i = 6 then decide (32 < d) else decide (20 < d))

/-- Whether a bank's factors are due for storing (R371): never stored, moved and 24 h old, or 720 h old. -/
def calDue (s : State) (b : Bank) : Bool :=
  match s.nv.cal[b] with
  | none => true
  | some (old, at') =>
    (calMoved old (s.calFactors b) && decide (at' + 24 * 3600 ≤ s.powered)) || decide (at' + 720 * 3600 ≤ s.powered)

/-- The last calibration R375 counts of a bank lies at least 24 h back. -/
def calFar (s : State) (b : Bank) : Bool :=
  match s.candle.cals[b] with
  | [] => true
  | x :: _ => decide (x.2.2 + 24 * 3600 ≤ s.powered)

/-- What Candle takes of a completed or failed calibration (R365, R368, R371, R375). -/
def candleCal (s : State) (b : Bank) (completed : Bool) : State :=
  if ¬ completed then s.logEvent .calFail b.val else
  let o := signed 24 (s.get (BANK_P_OFFSET_OFFSET b))
  let g := signed 24 (s.get (BANK_P_GAIN_GAIN b 0))
  let base := s.nv.calBase[b]
  let s1 := (s.put (CANDLE_DRIFT_OFS_OFS b) (toCode 32 (o - base.1))).put (CANDLE_DRIFT_GAIN_PPM b) (toCode 32 (g - base.2))
  let s2 : State := if s.calFar b then s1.modCandle (fun (c : Candle) => { c with cals := c.cals.set b (((o, g, s.powered) :: c.cals[b]).take 9) }) else s1
  if s2.calDue b then s2.storeCal b else s2

/-- CAL_END (R131, R133) with what Candle takes of it. -/
def calEnd (s : State) (b : Bank) (m : CalMeas) (q : Nat) : State :=
  if s.meas[b].cal ≠ .busy then s else (s.calFinish b m q).candleCal b (calError m == 0)

/-- A fold starts (R368): NV programs a SUMMARY. One that runs already covers the request. -/
def startFold (s : State) (hourly : Bool) : State :=
  if s.inReset then s
  else
    let s1 := s.modCandle (fun c => { c with fold := some (hourly || c.fold.getD false) })
    s1.putB CANDLE_STAT_FOLDING true

/-- FOLD (R365, R367, R368, R376): an hour of powered time is over; its hourly values are formed and a fold starts. -/
def fold (s : State) (m : FoldMeas) : State :=
  if s.inReset ∨ s.powered / 3600 ≤ s.candle.hours then s else
  let s0 := s.modCandle (fun c => { c with hours := s.powered / 3600 })
  let s1 := s0.forEach allChans (fun s n => s.hourlyRon n)
  let s2 := (List.finRange 2).foldl (fun s x => s.hourlyPort m x) s1
  let s3 := if s.isSet RING_STAT_UNSYNC then s2
    else (s2.put CANDLE_OSC_MAIN_PPM (toCode 16 m.mainPpm)).put CANDLE_OSC_XTAL32_PPM (toCode 16 m.xtalPpm)
  let s4 := s3.forEach allBanks (fun s b => if s.nv.cal[b].isSome ∧ s.calDue b then s.storeCal b else s)
  s4.startFold true

/-- The damages of the hour are kept (R378). -/
def keepDamage (s : State) : State :=
  let s1 := s.forEach allChans (fun s n => s.modCandleCh n (fun c => { c with damage := (s.damageOf n :: c.damage).take 1000 }))
  s1.modCandle (fun c => { c with damage := (s.deviceDamage :: c.damage).take 1000 })

/-- The sector the SUMMARY of a running fold goes to (R369): the next one where it does not fit, which is erased first. -/
def foldSector (s : State) : Fin 64 :=
  Fin.ofNat 64 (if s.logTurns 1004 then s.nextSector 64 s.candle.sector else s.candle.sector)

/-- A fold fails (R370): a sector whose program or erase fails verification is retired. -/
def foldFails (s : State) (err : Nat) : State :=
  let i := s.foldSector
  let s1 := s.nvError err (s.nv.log[i].wear.offset (0x1A0000 + 4096 * i.val))
  if err = 1 ∨ err = 2 then
    let t := s1.retireSector i
    (openSector 64 (t.afterRetired i) t).logEvent .sectorRetired i.val
  else s1

/-- A fold is cut short (R368, R369): it leaves no record; where it had erased a sector and not yet written its SECTOR record, a
free value, that sector takes as its erase count the highest of its region, plus 1. -/
def foldCut (s : State) : State :=
  if s.candle.fold.isSome ∧ s.logTurns 1004 ∧ Config.nvErasing s.free then
    s.useFree.modSector s.foldSector (fun x => {
      bytes := [], wear := { x.wear with erases := topErases (s.nv.log.toList.map (·.wear)) + 1 } })
  else s.useFree

/-- FOLD_DONE (R368, R370, R372): the SUMMARY record is written, or the fold fails with a code of NVM.STAT.ERR; after an hourly
fold Candle re-plans. -/
def foldDone (s : State) (err : Nat) : State :=
  match s.candle.fold with
  | none => s
  | some hourly =>
    let s1 := (s.modCandle (fun c => { c with fold := none })).putB CANDLE_STAT_FOLDING false
    let s2 := s1.raiseLine 53 allSeats
    let s3 := if err = 0 then
        let t := s2.writeLog 0x01 s2.summaryPayload
        (t.put CANDLE_LOG_SEQ_SEQ t.candle.seq).putB CANDLE_STAT_LOG_OK true
      else s2.foldFails err
    if hourly then s3.replan.keepDamage else s3

/-- TRIM in 0.1 ppm (table CAL CTRL). -/
def calTrim (s : State) : Int := signed 16 (s.get CAL_CTRL_TRIM)

/-- The calendar counts a second of its crystal (R379): TRIM adds or drops 0.1 us for each 0.1 ppm. -/
def calendarSecond (s : State) : State :=
  let t := ((s.candle.calPart : Int) + 10000000 + s.calTrim).toNat
  s.modCandle (fun c => { c with
    calSec := (c.calSec + t / 10000000) % 1099511627776, calPart := t % 10000000, calAt := s.now
    syncS := if s.isSet RING_STAT_UNSYNC then 0 else c.syncS + 1 })

/-- VDD33 is not valid: the device is held in a power-on or brown-out reset (R343, R358). -/
def unpowered (s : State) : Bool :=
  s.inReset && (s.get SYS_RESET_CAUSE_CLASS == ResetClass.por.code || s.get SYS_RESET_CAUSE_CLASS == ResetClass.bor.code)

/-- CANDLE_SECOND (R365, R379): with the temperatures of the logic die and the four bank dies in 1/16 degree; powered
time, the time of the mode and the temperature bins count a second while VDD33 is valid, the calendar on VBAT too. -/
def candleSecond (s : State) (temps : Vector Int 5) : State :=
  if s.unpowered then s.calendarSecond else
  let m := if s.get SYS_PWR_STAT_STATE = 3 then 6 else s.get SYS_MODE_MODE
  let s1 := (s.addSat (CANDLE_MODE_S_S m) 1).addSat (CANDLE_MODE_S_S 7) 1
  let s2 := s1.forEach (List.finRange 5) (fun s d => s.addSat (CANDLE_TEMP_S_S (4 * d.val + tempBin (d == 0) temps[d])) 1)
  s2.calendarSecond

/-- CALENDAR_SET (R379): the write of SEC_LO sets the calendar, with the SEC_HI written before, and VALID. -/
def calendarSet (s : State) (lo : Word) : State :=
  (s.modCandle (fun c => { c with calSec := 4294967296 * c.calHi + lo.toNat, calPart := 0, calAt := s.now })).putB CAL_CTRL_VALID true

/-- 1/32,768 s since the last whole second of the calendar, from the model's clock at the rate TRIM gives (R379). -/
def calSubsec (s : State) : Nat :=
  let t := (s.candle.calPart : Int) + ((s.now - s.candle.calAt : Nat) : Int) * (10000000 + s.calTrim) / 4000000
  min (t * 32768 / 10000000).toNat 32767

/-- A read of SEC_LO latches SEC_HI and SUBSEC (R379). -/
def calendarLatch (s : State) : State :=
  ((s.put CAL_SEC_LO_S s.candle.calSec).put CAL_SEC_HI_S (s.candle.calSec / 4294967296)).put CAL_SUBSEC_T s.calSubsec

/-- CALENDAR_AUTO_TRIM (R379): after 24 h in which UNSYNC has stayed 0, the measured rate in 0.1 ppm becomes TRIM. -/
def calendarAutoTrim (s : State) (trim : Int) : State :=
  if s.isSet CAL_CTRL_AUTO_TRIM ∧ 86400 ≤ s.candle.syncS then
    (s.modCandle (fun c => { c with syncS := 0 })).put CAL_CTRL_TRIM (toCode 16 (clampInt (-5000) 5000 trim))
  else s

/-- The newest valid SUMMARY of the log: SEQ and payload (R369). -/
def newestSummary (s : State) : Option (Nat × List Byte) :=
  (s.nv.log.toList.flatMap (fun x => logRecords 205 x.bytes)).foldl (fun best r =>
    if r.1 ≠ 0x01 then best
    else match best with
      | none => some r.2
      | some (q, _) => if seqNewer r.2.1 q then some r.2 else best) none

/-- After a loss of PD_AON Candle restores its accumulators from the newest valid SUMMARY (R357, R369); with none they
read 0. CAL_LOST is raised (R380). -/
def candleRestore (s : State) : State :=
  let s0 := (s.candleEvt 6).logEvent .aonLost 0
  match s.newestSummary with
  | none => s0
  | some (q, p) =>
    let u (o k : Nat) : Nat := leNat ((p.drop o).take k)
    let s1 := s0.forEach allChans (fun s n =>
      let o := 24 * n.val
      let s := ((s.put (CANDLE_CH_CYCLES_N n) (u o 4)).put (CANDLE_CH_ENERGY_J n) (u (o + 4) 4)).modCandleCh n (fun c => { c with
        half := #v[u (o + 8) 4, u (o + 12) 4, u (o + 16) 4] })
      let s := ((s.put (CANDLE_CH_TCYC1_N n) (u (o + 8) 4 / 2)).put (CANDLE_CH_TCYC2_N n) (u (o + 12) 4 / 2)).put
        (CANDLE_CH_TCYC3_N n) (u (o + 16) 4 / 2)
      let s := s.modCandleCh n (fun c => { c with plan := (planCeil (u (o + 20) 2), planIlim (u (o + 20) 2)) })
      (s.put (CANDLE_CH_RON_R_PLAN n) (u (o + 20) 2)).put (CANDLE_CH_PLAN_TRIPS n) (u (o + 22) 2))
    let s2 := s1.forEach allBanks (fun s b =>
      let o := 0x300 + 24 * b.val
      let s := (s.put (CANDLE_DRIFT_OFS_OFS b) (u o 4)).put (CANDLE_DRIFT_GAIN_PPM b) (u (o + 4) 4)
      s.forEach (List.range 4) (fun s i => s.put (CANDLE_TEMP_S_S (4 * (1 + b.val) + i)) (u (o + 8 + 4 * i) 4)))
    let s3 := s2.forEach (List.range 4) (fun s i => s.put (CANDLE_TEMP_S_S i) (u (0x360 + 4 * i) 4))
    let s4 := s3.forEach (List.range 8) (fun s i => s.put (CANDLE_MODE_S_S i) (u (0x370 + 4 * i) 4))
    let s5 := (s4.put CANDLE_OSC_MAIN_PPM (u 0x390 2)).put CANDLE_OSC_XTAL32_PPM (u 0x394 2)
    let s6 := s5.forEach (List.finRange 2) (fun s x =>
      let o := 0x398 + 8 * x.val
      let r := u (o + 6) 1
      let s := (s.put (CANDLE_RING_EQ_START x) (u (o + 5) 1)).put (CANDLE_RING_EYE_WARN x) (max 35 (r - 25))
      if r = 0 then s else s.modCandle (fun c => { c with portHours := c.portHours.set x 1000, eyeRef := c.eyeRef.set x (some r) }))
    (s6.modCandle (fun c => { c with hours := s6.powered / 3600 })).put CANDLE_LOG_SEQ_SEQ q

end State

end Sys2Proof.Machine
end

