-- ==== Sys2Proof/Machine/Values.lean ====
section
/-!
DEFINITION. The values a configuration may hold: the ranges and refused values of the field tables (step 16 of R187,
check 4 of R198), the cross rules (R188), and the classes of a change (R17, R200). A configuration is given as the word
of every address.
-/

namespace Sys2Proof.Machine

/-- The bits of a register whose access code satisfies a test. -/
def accMask (p : Acc → Bool) (a : Nat) : Word :=
  match describe a with
  | none => 0
  | some fs => fs.foldl (fun m f => if p f.acc then setBits m f.lo f.w (2 ^ f.w - 1) else m) 0

/-- The RWC bits of a register. -/
def rwcMask (a : Nat) : Word := accMask (· == .rwc) a

/-- The RWL bits of a register. -/
def rwlMask (a : Nat) : Word := accMask (· == .rwl) a

/-- The bits a write stores at once: RW and RWL. -/
def rwMask (a : Nat) : Word := accMask (fun x => x == .rw || x == .rwl) a

/-- The W1C bits of a register. -/
def w1cMask (a : Nat) : Word := accMask (· == .w1c) a

/-- The bits of a register a host may write 1 to. -/
def writableMask (a : Nat) : Word := accMask (· != .ro) a

/-- The bits a transaction record replaces: every image and RWC field (R197). -/
def recordMask (a : Nat) : Word := imageMask a ||| rwcMask a

/-- A configuration: the word of every address. -/
abbrev Cfg := Nat → Word

/-- A field of a configuration. -/
def Cfg.get (v : Cfg) (f : Fld) : Nat := bits (v f.addr) f.lo f.w

/-- The configuration in effect. -/
def State.cfg (s : State) : Cfg := s.word

/-- A configuration with records laid over it, a later record over an earlier one (R187, R197). -/
def Cfg.overlay (v : Cfg) (recs : List (Nat × Word)) : Cfg :=
  recs.foldl (fun v r a => if a = r.1 then (v a &&& ~~~ recordMask a) ||| (r.2 &&& recordMask a) else v a) v

/-- The channel of a CELL address. -/
def cellOfAddr (a : Nat) : Option Chan :=
  if 0x40000 ≤ a ∧ a < 0x48000 then some (Fin.ofNat 32 ((a - 0x40000) / 0x400)) else none

/-- The channel of a WICK address. -/
def wickOfAddr (a : Nat) : Option Chan :=
  if 0x70000 ≤ a ∧ a < 0x70800 then some (Fin.ofNat 32 ((a - 0x70000) / 0x40)) else none

/-- The bank of a BANK address. -/
def bankOfAddr (a : Nat) : Option Bank :=
  if 0x50000 ≤ a ∧ a < 0x54000 then some (Fin.ofNat 4 ((a - 0x50000) / 0x1000)) else none

/-- The unit of a STAT address. -/
def unitOfAddr (a : Nat) : Option Unit96 :=
  if 0x60000 ≤ a ∧ a < 0x63000 then some (Fin.ofNat 96 ((a - 0x60000) / 0x80)) else none

/-- Whether a register of the CELL block is in use for a function (R184). -/
def inUse (f off : Nat) : Bool :=
  let isSw := isSwitchFn f
  if off < 0x100 then true
  else if off < 0x180 then isSw
  else if off < 0x200 then isLoopFn f || (off == 0x180 && (f == FN_AI_I || f == FN_DI_NAMUR))
  else if off < 0x300 then family f == 1
  else if off < 0x380 then if off = 0x300 then true else isSw
  else isSw || f == FN_OFF

/-- A signed field within a range. -/
def signedIn (w v : Nat) (lo hi : Int) : Bool := let x := signed w v; decide (lo ≤ x) && decide (x ≤ hi)

/-- The output value fits the function (table of CELL[n].OUT): none fits OFF or an input but 0. -/
def outOk (f v : Nat) : Bool :=
  match f with
  | 0x3 | 0x4 => v ≤ 1
  | 0x5 => true
  | 0x8 => v ≤ 25000
  | 0x9 => v ≤ 11000
  | _ => v == 0

/-- The value rules of a register of the CELL block at an offset, for a function: the ranges of chapters 01 to 03. A
register the function does not use may hold 0 (R184). -/
def cellRegOk (f off : Nat) (w : Word) : Bool :=
  if ! inUse f off && w == 0 then true else
  match off with
  | 0x010 => outOk f (bits w 0 16)
  | 0x100 => bits w 4 7 ≤ 100
  | 0x184 => bits w 2 2 ≠ 3 && bits w 8 8 ≠ 0 && ! (f == FN_AO_V && bits w 2 2 == 1)
  | 0x188 => 3000 ≤ bits w 0 16 && bits w 0 16 ≤ 3600 && 21000 ≤ bits w 16 16 && bits w 16 16 ≤ 23000
  | 0x18C => signedIn 16 (bits w 0 16) (-2000) 2000 && signedIn 16 (bits w 16 16) (-20000) 20000
  | 0x200 => bits w 0 2 ≠ 3 &&
      (if bits w 3 1 = 1 then 5 ≤ bits w 4 8 && bits w 4 8 ≤ 100 else bits w 4 8 == 0)
  | 0x208 => if bits w 0 2 = 3 then 1 ≤ bits w 4 10 && bits w 4 10 ≤ 1000 else bits w 4 10 == 0
  | 0x218 => bits w 0 2 ≠ 3
  | 0x220 => bits w 0 2 ≤ 1 && bits w 5 2 ≠ 3 &&
      (if bits w 7 1 = 1 then 5 ≤ bits w 8 8 && bits w 8 8 ≤ 100 else bits w 8 8 == 0)
  | 0x300 => bits w 3 2 ≠ 3 && signedIn 8 (bits w 16 8) (-40) 40
  | 0x30C => bits w 8 8 ≠ 0
  | 0x380 => bits w 0 8 ≠ 0
  | _ => true

/-- A period field: 0, or within 10 us and 1 s. -/
def periodOk (v : Nat) : Bool := v == 0 || (10 ≤ v && v ≤ 1000000)

/-- The value rules of a register of the BANK block at an offset. -/
def bankRegOk (off : Nat) (w : Word) : Bool :=
  if off = 0x000 then periodOk (bits w 8 20)
  else if off = 0x008 then bits w 0 8 ≠ 0 && bits w 8 4 ≠ 0
  else if off = 0x00C then 20 ≤ bits w 0 10 && bits w 0 10 ≤ 1000 && 150 ≤ bits w 16 10 && bits w 16 10 ≤ 1000
  else if 0x100 ≤ off ∧ off < 0x140 then bits w 0 4 ≤ 0xD && bits w 4 3 ≤ 4
  else if 0x180 ≤ off ∧ off < 0x1A0 then bits w 0 4 ≤ 0xD && bits w 4 3 ≤ 4 && bits w 20 4 ≤ 7
  else if off = 0x1C8 then periodOk (bits w 0 20)
  else if off = 0x204 then bits w 8 8 ≤ 50
  else if off = 0xA00 then 50 ≤ bits w 0 20 && bits w 0 20 ≤ 1000000
  else if off = 0xA10 then (List.range 8).all (fun k => bits w (2 * k) 2 != 3)
  else if off = 0xC10 then bits w 0 14 ≤ 10000
  else true

/-- The value rules of a register of the global blocks, with the configuration it stands in (WDG.OPEN against TIMEOUT,
a firewall limit against its base, PAIR.CFG.EN against the role node (R299)). -/
def globalRegOk (v : Cfg) (a : Nat) (w : Word) : Bool :=
  if 0x20000 ≤ a ∧ a < 0x20400 then
    let o := a % 0x100
    if o = 0x00 then 1 ≤ bits w 0 14 && bits w 0 14 ≤ 10000 && bits w 16 2 ≤ 1
    else if 0x20 ≤ o ∧ o < 0x60 then
      if o % 8 = 0 then (bits w 1 2 == 1 || bits w 1 2 == 3) && bits w 6 26 ≤ bits (v (a + 4)) 6 26
      else bits (v (a - 4)) 6 26 ≤ bits w 6 26
    else true
  else if a = 0x10000 then 50 ≤ bits w 0 24 && bits w 0 24 + 100 ≤ bits (v 0x10004) 0 24
  else if a = 0x10004 then 1000 ≤ bits w 0 24 && bits w 0 24 ≤ 16000000 && bits (v 0x10000) 0 24 + 100 ≤ bits w 0 24
  else if a = 0x10008 then bits w 0 3 ≤ 4
  else if a = 0x80000 then bits w 0 2 ≠ 3 && 32 ≤ bits w 8 11 && bits w 8 11 ≤ 1024 && bits w 8 11 % 4 == 0 && bits w 24 8 ≠ 0 &&
      ! (bits w 0 2 == 1 && v.get PAIR_CFG_EN == 1)
  else if a = 0x80004 then 1000 ≤ bits w 0 22 && bits w 0 22 ≤ 2097152
  else if a % 0x100000000 = 0x80114 then bits w 0 16 ≠ 0
  else if a = 0x90000 then 10 ≤ bits w 16 13 && bits w 16 13 ≤ 5000 && ! (bits w 0 1 == 1 && v.get RING_CFG_ROLE == 1)
  else if a = 0xA0000 then bits w 8 8 ≤ 50
  else if a = 0x400 then bits w 1 2 ≠ 3 && ! (bits w 0 1 == 1 && bits w 1 2 != 0)
  else true

/-- The value rules of a register in a configuration (step 16 of R187). -/
def regOk (v : Cfg) (a : Nat) (w : Word) : Bool :=
  match cellOfAddr a with
  | some n => cellRegOk (v.get (CELL_CFG_FUNC n)) (a % 0x400) w
  | none =>
    match bankOfAddr a with
    | some _ => bankRegOk (a % 0x1000) w
    | none =>
      match unitOfAddr a with
      | some _ => if a % 0x80 = 0 then bits w 0 2 ≠ 3 else true
      | none =>
        match wickOfAddr a with
        | some _ => if a % 0x40 = 4 then 50 ≤ bits w 0 20 && bits w 0 20 ≤ 1000000 else true
        | none => globalRegOk v a w

/-- The image registers of a cell's CELL block that have value rules. -/
def cellImageOffsets : List Nat :=
  [0x100, 0x180, 0x184, 0x188, 0x18C, 0x200, 0x208, 0x218, 0x220, 0x300, 0x30C, 0x380]

/-- Every register of a cell holds an accepted value for the cell's function. -/
def cellValuesOk (v : Cfg) (n : Chan) : Bool :=
  cellImageOffsets.all (fun o => let a := 0x40000 + 0x400 * n.val + o; regOk v a (v a))

/-- The wiring of a cell uses a Lantern rail (R99). -/
def Cfg.usesRail (v : Cfg) (n : Chan) : Bool :=
  let f := v.get (CELL_CFG_FUNC n)
  (f == FN_AO_I && v.get (CELL_AO_MODE n) == 0) || f == FN_AO_V || f == FN_DI_NAMUR ||
    (f == FN_AI_I && v.get (CELL_AI_CFG_LOOP n) == 1)

/-- The rail a cell is on: none, 0 for A, 1 for B (R17, R99). -/
def Cfg.railOf (v : Cfg) (n : Chan) : Option Nat := if v.usesRail n then some (v.get (CELL_RAIL_SEL n)) else none

/-- The safe code and value are accepted for the function (R42). -/
def safeOk (f code value : Nat) : Bool :=
  match code with
  | 0 => value == 0
  | 1 => isSwitchFn f && value == 0
  | 2 => family f == 2 && value == 0
  | 3 => f == FN_DO_PWM || (f == FN_AO_I && value ≤ 25000) || (f == FN_AO_V && value ≤ 11000)
  | 4 => isSwitchFn f && value == 0
  | 5 => f == FN_AO_I && value == 0
  | _ => false

/-- The members of a bundle group (R59). -/
def bundleSize (v : Cfg) (g : Nat) : Nat := (allChans.filter (fun (n : Chan) => v.get (CELL_FUSE_CFG_BUNDLE n) == g)).length

/-- The cross rules of R188 that couple the fields of one cell, and R59 for it. -/
def crossCell (v : Cfg) (n : Chan) : Bool :=
  let f := v.get (CELL_CFG_FUNC n)
  let g := v.get (CELL_FUSE_CFG_BUNDLE n)
  let b := bankOf n
  let map := v.get ⟨0x50A10 + 0x1000 * b.val, 2 * (posOf n).val, 2⟩
  decide (f ≤ 0xA) && safeOk f (v.get (CELL_SAFE_CODE n)) (v.get (CELL_SAFE_VALUE n)) &&
  (v.usesRail n || v.get (CELL_RAIL_SEL n) == 0) &&
  (g == 0 || (family f == 2 && decide (v.get (CELL_FUSE_CFG_K_N n) * (bundleSize v g - 1) < 16))) &&
  (f == FN_DO_LAMP || (v.get (CELL_SW_CFG_INRUSH_MS n) == 0 && v.get (CELL_SW_CFG_PHASE_ALIGN n) == 0)) &&
  (map == 0 || isSwitchFn f) &&
  (f != FN_AO_V || (v.get (CELL_AO_MODE n) == 0 && v.get (CELL_AO_NE43_CLAMP n) == 0)) &&
  (f != FN_DI_NAMUR || (v.get (CELL_DI_TYPE n) == 0 && v.get (CELL_DI_WB_EN n) == 0)) &&
  (f != FN_AI_I || v.get (CELL_AI_CFG_VRANGE n) == 0) &&
  (v.get (CELL_AI_CFG_LOOP n) == 1 || v.get (CELL_AI_CFG_LOOP_V n) == 0)

/-- The units fed by several entries have one INPUT and GAIN (R126, R128); PL = 1 excludes SMP = 0 (R141); fields that
must be 0 for a trigger are (R128, table INJ[k]). All eight injected entries count, whatever their TRIG, as R128 exempts none. -/
def crossBank (v : Cfg) (b : Bank) : Bool :=
  let used := (List.range 16).filter (fun k => k ≤ v.get (BANK_SEQ_CTRL_LEN_M1 b))
  let same (l : List Nat) (u i g : Nat → Fld) : Bool := l.all (fun j => l.all (fun k =>
    v.get (u j) != v.get (u k) || (v.get (i j) == v.get (i k) && v.get (g j) == v.get (g k))))
  same used (fun k => BANK_SEQ_UNIT b k) (fun k => BANK_SEQ_INPUT b k) (fun k => BANK_SEQ_GAIN b k) &&
  same (List.range 8) (fun k => BANK_INJ_UNIT b k) (fun k => BANK_INJ_INPUT b k) (fun k => BANK_INJ_GAIN b k) &&
  (List.range 16).all (fun k => v.get (BANK_SEQ_PL b k) == 0 || v.get (BANK_SEQ_SMP b k) != 0) &&
  (List.range 8).all (fun k =>
    let t := v.get (BANK_INJ_TRIG b k)
    (t == 3 || t == 4 || t == 6 || t == 7 || v.get (BANK_INJ_SRC b k) == 0) &&
    (t == 3 || t == 4 || v.get (BANK_INJ_DLY_DELAY b k) == 0))

/-- WIN_LEN fits the window mode (R145). -/
def crossUnit (v : Cfg) (u : Unit96) : Bool := (v.get (STAT_CFG_WIN_MODE u) == 2) == (v.get (STAT_WIN_WIN_LEN u) == 0)

/-- The cross rules of R188 on a whole configuration. -/
def crossOk (v : Cfg) : Bool :=
  allChans.all (crossCell v) && allBanks.all (crossBank v) && (List.finRange 96).all (crossUnit v)

/-- The cross rules that a change of one register can break, on the resulting configuration. -/
def crossNear (v : Cfg) (a : Nat) : Bool :=
  match cellOfAddr a with
  | some _ => allChans.all (crossCell v)
  | none =>
    match bankOfAddr a with
    | some b => crossBank v b && (bankChans b).all (crossCell v)
    | none =>
      match unitOfAddr a with
      | some u => crossUnit v u
      | none => true

/-- A cell has a staged change: between the input and output families, or of the rail it is on (R17, R200). -/
def stagedCell (old new : Cfg) (n : Chan) : Bool :=
  let f := family (old.get (CELL_CFG_FUNC n))
  let g := family (new.get (CELL_CFG_FUNC n))
  (f != 0 && g != 0 && f != g) || old.railOf n != new.railOf n

/-- The only staged change of a cell is from one rail to the other (R202 order 4): a change of function within a family is not
staged (R200). -/
def railOnly (old new : Cfg) (n : Chan) : Bool :=
  family (old.get (CELL_CFG_FUNC n)) == family (new.get (CELL_CFG_FUNC n)) && (old.railOf n).isSome && (new.railOf n).isSome &&
    old.railOf n != new.railOf n

/-- The length of a bank's sequence changes (R200). -/
def lenChange (old new : Cfg) (b : Bank) : Bool := old.get (BANK_SEQ_CTRL_LEN_M1 b) != new.get (BANK_SEQ_CTRL_LEN_M1 b)

/-- A change is staged (R200). -/
def stagedChange (old new : Cfg) : Bool := allChans.any (stagedCell old new) || allBanks.any (lenChange old new)

end Sys2Proof.Machine
end

