-- ==== Sys2Proof/Machine/Rights.lean ====
section
/-!
DEFINITION. Which seat may write what (R41, R152, R197, R218, R428).
-/

namespace Sys2Proof.Machine

/-- Two registers of a bank's entries are the sequence control and entries (R126, R204). -/
def isSeqReg (a : Nat) : Bool :=
  (bankOfAddr a).isSome && (a % 0x1000 == 0 || (decide (0x100 ≤ a % 0x1000) && decide (a % 0x1000 < 0x140)))

namespace State

/-- MODE_SEATS as it acts: VOTIVE_SEATS in BOOT and VOTIVE (R428). -/
def modeSeats (s : State) : Nat :=
  if s.mode = .boot ∨ s.mode = .votive then s.get SYS_CW_STAT_VOTIVE_SEATS else s.get SYS_MODE_CFG_MODE_SEATS

/-- A seat has its MODE_SEATS bit. -/
def modeSeat (s : State) (x : Seat) : Bool := s.modeSeats / 2 ^ x.val % 2 == 1

/-- A seat owns a unit of a bank. -/
def ownsUnit (s : State) (x : Seat) (b : Bank) : Bool :=
  (List.range 24).any (fun j => s.get (STAT_OWN_SEAT (24 * b.val + j)) == x.val)

/-- A seat owns a cell of a bank. -/
def ownsCell (s : State) (x : Seat) (b : Bank) : Bool := (bankChans b).any (fun n => s.owner n == x)

/-- A seat owns unit j of a bank. -/
def ownsUnitJ (s : State) (x : Seat) (b : Bank) (j : Nat) : Bool := s.get (STAT_OWN_SEAT (24 * b.val + j)) == x.val

/-- The right to write a BANK register (R152, R218): an entry by the owner of its target unit before and after; SEQ_CTRL,
PLAUS_CFG, DIRTY_CFG, INJ_TIMER and CAL_CFG by an owner of a unit, as CAL_CTRL (R132); INJ_TRIG by the owner of the units of
the entries it names; the others by an owner of a cell or a unit. `old` is
the word the register holds, `w` the one it takes. -/
def bankRight (s : State) (x : Seat) (b : Bank) (off : Nat) (old w : Word) (injOld : Word) : Bool :=
  if 0x100 ≤ off ∧ off < 0x140 then s.ownsUnitJ x b (bits old 16 4) && s.ownsUnitJ x b (bits w 16 4)
  else if 0x180 ≤ off ∧ off < 0x1A0 then s.ownsUnitJ x b (16 + bits old 16 3) && s.ownsUnitJ x b (16 + bits w 16 3)
  else if 0x1A0 ≤ off ∧ off < 0x1C0 then s.ownsUnitJ x b (16 + bits injOld 16 3)
  else if off = 0x1C4 then (List.range 8).all (fun k => ! w.getLsbD k || s.ownsUnitJ x b (16 + s.get (BANK_INJ_UNIT b k)))
  else if off = 0x000 ∨ off = 0x008 ∨ off = 0x00C ∨ off = 0x1C8 ∨ off = 0x200 ∨ off = 0x204 then s.ownsUnit x b
  else s.ownsUnit x b || s.ownsCell x b

/-- The right of a seat to change a configuration register by a record (R197). -/
def recordRight (s : State) (x : Seat) (a : Nat) (w : Word) : Bool :=
  match cellOfAddr a with
  | some n => s.owner n == x
  | none =>
    match wickOfAddr a with
    | some n => s.get (WICK_OWN_SEAT n) == x.val
    | none =>
      match bankOfAddr a with
      | some b => s.bankRight x b (a % 0x1000) (s.word a) w (s.word (a - 0x20))
      | none =>
        match unitOfAddr a with
        | some u => s.get (STAT_OWN_SEAT u) == x.val
        | none => s.modeSeat x

end State

end Sys2Proof.Machine
end

