-- ==== Sys2Proof/Machine/Commit.lean ====
section
/-!
DEFINITION. What a commit does (R37, R201): words take effect together, and what follows from the change of each
register; the trim buttons (R113 to R116).
-/

namespace Sys2Proof.Machine

/-- An address has one copy for every seat (R421); its key for a seat. -/
def seatKey (x : Seat) (a : Nat) : Nat :=
  if (0x80100 ≤ a ∧ a < 0x80118) ∨ (0xE0080 ≤ a ∧ a < 0xE0090) ∨ (0xE0200 ≤ a ∧ a < 0xE0400) ∨ (0xE1000 ≤ a ∧ a < 0xE2000) then
    bankedKey x a
  else a

namespace State

/-- The time of the boundary the next FABRIC_CYCLE_BOUNDARY marks, in 0.25 us: what takes effect at a boundary is
commanded just before it (log entry 8). -/
def boundaryTime (s : State) : Nat := s.now + 40

/-- A word takes effect in its register: the fields a record replaces (R197). -/
def commitWord (s : State) (r : Nat × Word) : State :=
  s.setWord r.1 ((s.word r.1 &&& ~~~ recordMask r.1) ||| (r.2 &&& recordMask r.1))

/-- What follows from a change of a cell's registers: CFG_GEN (R37), OUT of a cell that leaves the output family reads 0
(table CELL[n].OUT), flags that cannot arise read 0 (R44), 50 us of DIRTY samples (R94, R123), a SEL bit cleared by a
change of owner (R114). `old` is the state before the commit. -/
def cellChanged (s old : State) (n : Chan) (bound : Nat) : State :=
  let a := 0x40000 + 0x400 * n.val
  let moved (o : Nat) : Bool := (old.word (a + o) ^^^ s.word (a + o)) &&& rwcMask (a + o) != 0
  let gen := (List.range 256).any (fun i => moved (4 * i))
  let s1 := if gen then s.addWrap (CELL_CFG_CFG_GEN n) 1 else s
  let s2 := if old.lfn n = s.lfn n then s1
    else
      let t := if family (s.lfn n) = 2 then s1 else s1.put (CELL_OUT_VALUE n) 0
      let m : Word := (flagMask (s.lfn n)).setWidth 32
      let t := t.setWord (CELL_FLAGS_OPEN_LOAD n).addr (t.word (CELL_FLAGS_OPEN_LOAD n).addr &&& m)
      t.setWord (CELL_LIVE_OPEN_LOAD n).addr (t.word (CELL_LIVE_OPEN_LOAD n).addr &&& m)
  let s3 := if old.lfn n ≠ s.lfn n ∨ (old.word (a + 0x220) ^^^ s.word (a + 0x220)) &&& 0x73 ≠ 0 then s2.noteRange n bound else s2
  if old.owner n ≠ s.owner n then
    s3.setWord TRIM_SEL_SEL.addr (setBit (s3.word TRIM_SEL_SEL.addr) n.val false)
  else s3

/-- What follows from a change of a unit's registers: a change of WIN_MODE or WIN_LEN closes its window (R145). -/
def unitChanged (s old : State) (u : Unit96) (t : Nat) : State :=
  if old.winMode u ≠ s.winMode u ∨ old.get (STAT_WIN_WIN_LEN u) ≠ s.get (STAT_WIN_WIN_LEN u) then s.closeUnit u .reconfig t
  else s

/-- Words take effect together at a time, with all that follows (R37, R201, R206). -/
def commitWords (old : State) (ws : List (Nat × Word)) (t : Nat) : State :=
  let s := old.forEach ws commitWord
  let addrs := (ws.map (·.1)).filter (fun a => old.word a != s.word a)
  let s1 := s.forEach ((addrs.filterMap cellOfAddr).eraseDups) (fun s n => s.cellChanged old n t)
  let s2 := s1.forEach ((addrs.filterMap unitOfAddr).eraseDups) (fun s u => s.unitChanged old u t)
  let s3 := s2.forEach (((addrs.filter (fun a => decide (0x180 ≤ a % 0x1000) && decide (a % 0x1000 < 0x1C0))).filterMap
    bankOfAddr).eraseDups) (fun s b => s.refreshInjFeeds b t)
  if addrs.any (fun a => (old.word a ^^^ s.word a) &&& imgMask a != 0) then s3.putB FABRIC_STAT_TXN_SINCE_IMAGE true else s3

/-- One step of a trim button on a trim: the value, held to its range, and whether it met the range end (R113). -/
def trimAdd (v step lim : Int) : Int × Bool := (clampInt (-lim) lim (v + step), decide (lim < (v + step).natAbs))

/-- The AO_TRIM word of a cell after the steps due, and whether a step met a range end (R113, R115). -/
def trimWord (s : State) (w : Word) : Word × Bool :=
  let zs := signed 8 (s.get TRIM_STEP_ZSTEP)
  let ss := 10 * signed 8 (s.get TRIM_STEP_SSTEP)
  let z := (List.range s.trimSteps[0]).foldl (fun (a : Int × Bool) _ =>
    let r := trimAdd a.1 zs 2000; (r.1, a.2 || r.2)) (signed 16 (bits w 0 16), false)
  let p := (List.range s.trimSteps[1]).foldl (fun (a : Int × Bool) _ =>
    let r := trimAdd a.1 ss 20000; (r.1, a.2 || r.2)) (signed 16 (bits w 16 16), false)
  (setBits (setBits w 0 16 (toCode 16 z.1)) 16 16 (toCode 16 p.1), z.2 || p.2)

/-- The cells a trim button steps: selected AO_I and AO_V cells (R113). -/
def trimCells (s : State) : List Chan :=
  allChans.filter (fun n => (s.word TRIM_SEL_SEL.addr).getLsbD n.val && isLoopFn (s.lfn n))

/-- The trim words the steps due give, on a configuration to come (R115). -/
def trimWords (s : State) (v : Cfg) : List (Nat × Word × Bool) :=
  if s.trimSteps = Vector.replicate 2 0 then []
  else s.trimCells.map (fun (n : Chan) => let a := (CELL_AO_TRIM_ZERO n).addr; (a, s.trimWord (v a)))

/-- An owner's output value takes effect (R31, R159): a silence of the cell ends with it. -/
def noteOut (s : State) (n : Chan) : State :=
  s.modLcell n (fun c => { c with
    wrote := true, cause := if c.cause = .silenceRun ∨ c.cause = .silence then .none else c.cause })

/-- The cells whose OUT words a commit takes. -/
def outCells (ws : List (Nat × Word)) : List Chan :=
  (ws.filter (fun (e : Nat × Word) => decide (e.1 % 0x400 = 0x10))).filterMap (fun (e : Nat × Word) => cellOfAddr e.1)

/-- A commit: the pending shadow words, further records, then the steps of the trim buttons (R37, R115, R201); the trims
in effect are taken for a store that waits for them (R116). -/
def commitPending (s : State) (recs : List (Nat × Word)) (t : Nat) : State :=
  let ws := s.shadow ++ recs
  let tw := s.trimWords (Cfg.overlay s.cfg ws)
  let s0 := ({ s with shadow := [] }).commitWords (ws ++ tw.map (fun (x : Nat × Word × Bool) => (x.1, x.2.1))) t
  let s1 := s0.forEach (State.outCells ws) noteOut
  let s2 := if tw.any (fun (x : Nat × Word × Bool) => x.2.2) then s1.raiseFld TRIM_STAT_AT_LIMIT else s1
  let s3 := { s2 with trimSteps := Vector.replicate 2 0 }
  match s3.trimStore with
  | some (x, none) => { s3 with trimStore := some (x, some ((allChans.filter (fun (n : Chan) => s3.owner n == x && isLoopFn (s3.lfn n))).map
      (fun (n : Chan) => (n.val, s3.word (CELL_AO_TRIM_ZERO n).addr)))) }
  | _ => s3

/-- A step of a trim button is due at the next commit (R113). -/
def trimStep (s : State) (p : Fin 2) : State :=
  let s1 := { s with trimSteps := s.trimSteps.set p (s.trimSteps[p] + 1) }
  s1.addWrap (if p = 0 then TRIM_STAT_Z_PRESSES else TRIM_STAT_S_PRESSES) 1

/-- TRIM_PRESS (R113): button Z (0) or S (1) has been low for 20 ms. -/
def trimPress (s : State) (p : Fin 2) : State :=
  if s.inReset then s else
  let s1 := { s with trimHeld := s.trimHeld.set p true }
  let s2 := s1.putB (if p = 0 then TRIM_STAT_Z_PIN else TRIM_STAT_S_PIN) false
  if ¬ s.isSet TRIM_EN_EN ∨ s.trimCells = [] then s2.raiseFld TRIM_STAT_IGNORED else s2.trimStep p

/-- TRIM_REPEAT (R113): a held button reaches its repeat time, whatever EN was at its acceptance (DESIGN CHOICE, log entry 65). -/
def trimRepeat (s : State) (p : Fin 2) : State :=
  if s.inReset ∨ ¬ s.trimHeld[p] ∨ ¬ s.isSet TRIM_EN_EN ∨ s.trimCells = [] then s else s.trimStep p

/-- TRIM_PIN_RELEASE (R113): the button has been high for 20 ms. -/
def trimPinRelease (s : State) (p : Fin 2) : State :=
  ({ s with trimHeld := s.trimHeld.set p false }).putB (if p = 0 then TRIM_STAT_Z_PIN else TRIM_STAT_S_PIN) true

/-- An accepted key starts a trim store of a seat (R116): the trims in effect at the next commit. -/
def trimStoreStart (s : State) (x : Seat) : State :=
  (((({ s with trimStore := some (x, none) }).putB TRIM_STORE_BUSY true).putB TRIM_STORE_DONE false).putB TRIM_STORE_ERR false)

/-- TRIM_STORE_DONE (R116): the store completes, or fails with an NV error code and leaves the previous record. -/
def trimStoreDone (s : State) (err : Nat) : State :=
  match s.trimStore with
  | some (x, some ws) =>
    let s1 := ({ s with trimStore := none }).putB TRIM_STORE_BUSY false
    let s2 := s1.raiseLine 53 allSeats
    if err = 0 then
      ((s2.forEach ws (fun s r => s.modNv (fun v => { v with trims := v.trims.setIfInBounds r.1 r.2 }))).putWord (.trims x)).putB
        TRIM_STORE_DONE true
    else ((s2.wordFails (.trims x) err).putB TRIM_STORE_ERR true).put TRIM_STAT_ERR_CODE err
  | _ => s

end State

end Sys2Proof.Machine
end

