-- ==== Sys2Proof/Machine/Fabric.lean ====
section
/-!
DEFINITION. The image format and its validation (R177 to R188, R381): header, frames, register records, trailer and
signature, step by step in the order of R187.
-/

namespace Sys2Proof.Machine

/-- k bytes of an image at an offset, little-endian (R179). -/
def imgU (img : List Byte) (o k : Nat) : Nat := leNat ((img.drop o).take k)

/-- A frame of an image (R180), with whether its FCRC is right. -/
structure ImgFrame where
  typ : Nat
  idx : Nat
  fver : Nat
  flags : Nat
  len : Nat
  resv : Nat
  payload : List Byte
  crcOk : Bool
  deriving DecidableEq, Repr

/-- The frames of a run of bytes, and whether they end exactly at its end (R180). -/
def imgFrames : Nat → List Byte → List ImgFrame × Bool
  | 0, l => ([], l.isEmpty)
  | k + 1, l =>
    if l.isEmpty then ([], true)
    else
      let len := imgU l 4 2
      if l.length < 12 + len then ([], false)
      else
        let f : ImgFrame := {
          typ := imgU l 0 1, idx := imgU l 1 1, fver := imgU l 2 1, flags := imgU l 3 1, len := len, resv := imgU l 6 2,
          payload := (l.drop 8).take len,
          crcOk := bytesWord ((l.drop (8 + len)).take 4) == crc32 (l.take (8 + len)) }
        let (fs, ok) := imgFrames k (l.drop (12 + len))
        (f :: fs, ok)

/-- The register records of a payload (R181): address and word. -/
def imgRecords : Nat → List Byte → List (Nat × Word)
  | 0, _ => []
  | k + 1, l => if l.length < 8 then [] else (imgU l 0 4, bytesWord ((l.drop 4).take 4)) :: imgRecords k (l.drop 8)

/-- The records of a frame. -/
def ImgFrame.records (f : ImgFrame) : List (Nat × Word) := imgRecords (f.len / 8) f.payload

/-- START and COUNT of a NODE_TABLE frame (R181). -/
def ImgFrame.start (f : ImgFrame) : Nat := imgU f.payload 0 2
def ImgFrame.count (f : ImgFrame) : Nat := imgU f.payload 2 2

/-- The Ring Node Table words of a NODE_TABLE frame, with their addresses (R181). -/
def ImgFrame.nodeWords (f : ImgFrame) : List (Nat × Word) :=
  (List.range (8 * f.count)).map (fun i =>
    (0x100000 + 32 * f.start + 4 * i, bytesWord ((f.payload.drop (4 + 4 * i)).take 4)))

/-- A frame of its type, index, lengths and place after the one before it (R180, R181). -/
def frameFormatOk (prev : Option ImgFrame) (f : ImgFrame) : Bool :=
  f.fver == 1 && f.flags == 0 && f.resv == 0 && f.len % 4 == 0 &&
  (match f.typ with
    | 0x01 => f.idx == 0 && f.len % 8 == 0
    | 0x02 => decide (f.idx < 4) && f.len % 8 == 0
    | 0x03 => decide (f.idx < 32) && f.len % 8 == 0
    | 0x04 => f.idx == 0 && decide (1 ≤ f.count) && decide (f.count ≤ 1024) && decide (f.start + f.count ≤ 2048) &&
        f.len == 4 + 32 * f.count
    | 0x7E => f.idx == 0 && decide (f.len ≤ 1024)
    | _ => false) &&
  (match prev with
    | none => true
    | some p => decide (p.typ < f.typ) ||
        (p.typ == f.typ && if f.typ = 4 then decide (p.start + p.count ≤ f.start) else decide (p.idx < f.idx)))

/-- The number of the first frame of a list that fails a test, counted from k. -/
def firstBad {α : Type} (ok : α → Bool) : Nat → List α → Option Nat
  | _, [] => none
  | k, f :: fs => if ok f then firstBad ok (k + 1) fs else some k

/-- The number of the first frame whose format or order is wrong. -/
def walkBad : Option ImgFrame → Nat → List ImgFrame → Option Nat
  | _, _, [] => none
  | prev, k, f :: fs => if frameFormatOk prev f then walkBad (some f) (k + 1) fs else some k

/-- Which frames a list holds: the CELL_MASK, BANK_MASK and CONTENT it agrees with (R179). -/
def maskOf (fs : List ImgFrame) (typ : Nat) : Nat :=
  fs.foldl (fun m f => if f.typ = typ then m ||| 2 ^ f.idx else m) 0

/-- CONTENT of a list of frames. -/
def contentOf (fs : List ImgFrame) : Nat :=
  (if fs.any (·.typ == 1) then 1 else 0) + (if fs.any (·.typ == 4) then 2 else 0)

/-- The frame type and index whose range holds an address (R182). -/
def frameOf (a : Nat) : Option (Nat × Nat) :=
  match cellOfAddr a with
  | some n => some (3, n.val)
  | none =>
    match wickOfAddr a with
    | some n => some (3, n.val)
    | none =>
      match bankOfAddr a with
      | some b => some (2, b.val)
      | none =>
        match unitOfAddr a with
        | some u => some (2, u.val / 24)
        | none =>
          if a < 0x40000 ∨ (0x80000 ≤ a ∧ a < 0xB0000) ∨ (0xC0000 ≤ a ∧ a < 0xD0000) then some (1, 0) else none

/-- The addresses of a table's registers at a block base that hold an image field. -/
def imageAddrs (base : Nat) (t : List RDesc) : List Nat :=
  (t.flatMap (fun r => (List.range r.cnt).map (fun i => base + r.off + i * r.stride))).filter (fun a => imgMask a != 0)

/-- The registers a frame must carry a record for (R184). -/
def frameAddrs (typ idx : Nat) : List Nat :=
  match typ with
  | 1 => imageAddrs 0 tableSYS ++ imageAddrs 0x10000 tableWDG ++ imageAddrs 0x10100 tableClkmon ++
      (List.range 4).flatMap (fun s => imageAddrs (0x20000 + 0x100 * s) tableSeat ++ imageAddrs (0x30000 + 0x100 * s) tableEVT) ++
      imageAddrs 0x30000 tableEVTG ++ imageAddrs 0x80000 tableRing ++ imageAddrs 0x90000 tablePair ++
      imageAddrs 0xA0000 tableCandle ++ imageAddrs 0xA0800 tableCAL ++
      (List.range 16).flatMap (fun c => imageAddrs (0xC0000 + 0x20 * c) tableDMA) ++
      (List.range 11).flatMap (fun e => imageAddrs (0xC0800 + 0x100 * e) tableMPU)
  | 2 => imageAddrs (0x50000 + 0x1000 * idx) tableBank ++
      (List.range 24).flatMap (fun u => imageAddrs (0x60000 + 0xC00 * idx + 0x80 * u) tableStat)
  | 3 => imageAddrs (0x40000 + 0x400 * idx) tableCell ++ imageAddrs (0x70000 + 0x40 * idx) tableWick
  | _ => []

/-- The addresses of a frame's records ascend, lie in its range and hold image fields (R182, R183); the first that does
not. -/
def badAddr (typ idx : Nat) : Option Nat → List (Nat × Word) → Option Nat
  | _, [] => none
  | prev, (a, _) :: t =>
    let after := match prev with
      | none => true
      | some p => decide (p < a)
    if after && a % 4 == 0 && frameOf a == some (typ, idx) && imgMask a != 0 then badAddr typ idx (some a) t else some a

/-- What a check of an image gives (R207): code, failing frame and failing record address (table FABRIC.LOAD_STAT). -/
structure Verdict where
  code : Nat
  frame : Nat := 0xFFFF
  addr : Nat := 0xFFFFFFFF
  deriving DecidableEq, Repr

/-- The first record of a frame that fails step 16, given the configuration of the image alone; reserved bits must be 0 in a
NODE_TABLE entry too (R10). -/
def badValue (v : Cfg) (f : ImgFrame) : Option Nat :=
  if f.typ = 4 then
    if f.start = 0 then some 0x100000
    else (f.nodeWords.find? (fun r =>
      (decide (0x14 ≤ r.1 % 0x20) && r.2 != 0) ||
      (r.1 % 0x20 == 0x10 && r.2 &&& 0x00FC80F8 != 0) ||
      (r.1 % 0x20 == 0x10 && bits r.2 0 1 == 1 && ! (decide (14 ≤ bits r.2 8 7) && decide (bits r.2 8 7 ≤ 64))))).map (·.1)
  else (f.records.find? (fun r => r.2 &&& ~~~ imgMask r.1 != 0 || ! regOk v r.1 r.2)).map (·.1)

/-- Whether a register record of a cell the function does not use holds anything but 0 (R184). -/
def unusedSet (v : Cfg) (r : Nat × Word) : Bool :=
  match cellOfAddr r.1 with
  | some n => ! inUse (v.get (CELL_CFG_FUNC n)) (r.1 % 0x400) && r.2 != 0
  | none => false

/-- The first record or register by which a frame is not complete (R184). -/
def incomplete (v : Cfg) (f : ImgFrame) : Option Nat :=
  match (frameAddrs f.typ f.idx).find? (fun a => ! f.records.any (·.1 == a)) with
  | some a => some a
  | none => (f.records.find? (unusedSet v)).map (·.1)

/-- The first frame for which a search finds an address, with that address. -/
def firstFind (g : ImgFrame → Option Nat) : Nat → List ImgFrame → Option (Nat × Nat)
  | _, [] => none
  | k, f :: fs =>
    match g f with
    | some a => some (k, a)
    | none => firstFind g (k + 1) fs

/-- The kinds of image (R179, R381). -/
inductive ImgKind | fabric | firmware
  deriving DecidableEq, Repr

/-- The level of an anti-rollback counter: the rows whose bit reads 1 (R387, R431). -/
def levelOf (bits64 : BitVec 64) : Nat := ((List.range 64).filter (fun i => bits64.getLsbD i)).length

/-- An image whose frames have been read: its records, Ring Node Table words and masks. -/
structure ImgBody where
  frames : List ImgFrame
  recs : List (Nat × Word)
  nodes : List (Nat × Word)
  deriving DecidableEq, Repr

/-- The body of an image (R180, R181). -/
def imgBody (img : List Byte) : ImgBody :=
  let fs := (imgFrames img.length ((img.drop 64).take (img.length - 176))).1
  { frames := fs,
    recs := (fs.filter (fun f => f.typ ≤ 3)).flatMap (·.records),
    nodes := (fs.filter (fun f => f.typ == 4)).flatMap (·.nodeWords) }

/-- An image is full (R179). -/
def imgFull (img : List Byte) : Bool := imgU img 0x12 1 == 0

/-- The digest of an image: bytes 0 to 7 of DIGEST (R177). -/
def imgDigest (img : List Byte) : List Byte := (img.drop (img.length - 104)).take 8

/-- The digest the configuration has once an image is applied: its own, or RESULT_DIGEST of a partial one (R196). -/
def imgResult (img : List Byte) : List Byte := if imgFull img then imgDigest img else (img.drop 0x28).take 8

/-- The records of an image with each register that is banked by seat set in every seat (R421). -/
def imgAllSeats (recs : List (Nat × Word)) : List (Nat × Word) :=
  recs.flatMap (fun r => if 0x80100 ≤ r.1 ∧ r.1 < 0x80118 then allSeats.map (fun x => (bankedKey x r.1, r.2)) else [r])

namespace State

/-- A key slot is programmed: its USE row is non-zero, or fails its ECC (R431, R432). -/
def keyProgrammed (s : State) (k : Fin 4) : Bool := s.nv.use[k] != 0 || s.nv.useBad[k]

/-- A key slot counts as revoked (R385, R432). -/
def keyRevoked (s : State) (k : Fin 4) : Bool := s.nv.revoked[k] || s.nv.useBad[k] || s.nv.revBad[k]

/-- The key store holds a key whose SHA-256 is the slot's hash (R385). -/
def keyStored (s : State) (k : Fin 4) : Bool := s.nv.store[k].length == 64 && sha256 s.nv.store[k] == s.nv.hash[k]

/-- Steps 1 to 12 of R187, with R381's changes for firmware: the code of the first that fails, or 0. -/
def checkAuthentic (s : State) (kind : ImgKind) (img : List Byte) : Nat :=
  let fw := kind == .firmware
  let n := img.length
  let t := n - 112
  let slot : Fin 4 := Fin.ofNat 4 (imgU img 0x13 1)
  let reserved := imgU img 0x36 6 == 0 && (fw || imgU img 0x17 1 == 0)
  let kindOk := if fw then imgU img 0x12 1 == 2 && ((img.drop 0x20).take 0x16).all (· == 0) else decide (imgU img 0x12 1 ≤ 1)
  let needBit := if fw then 0 else 1
  let lvl := levelOf (if fw then s.nv.fwBits else s.nv.fabBits)
  if imgU img 0 4 ≠ (if fw then 0x57464A4C else 0x49464A4C) then 0x01
  else if imgU img 4 2 ≠ 1 ∨ imgU img 6 2 ≠ 64 then 0x02
  else if imgU img 8 4 ≠ 0x4C4A3240 then 0x03
  else if imgU img 0xC 4 % 4 ≠ 0 ∨ imgU img 0xC 4 < 188 ∨ (if fw then 458752 else 393216) < imgU img 0xC 4 ∨ imgU img 0xC 4 ≠ n then 0x04
  else if bytesWord ((img.drop 0x3C).take 4) ≠ crc32 (img.take 0x3C) ∨ ! reserved ∨ ! kindOk then 0x05
  else if imgU img t 4 ≠ 0x54464A4C ∨ bytesWord ((img.drop (t + 0x6C)).take 4) ≠ crc32 ((img.drop t).take 0x6C) ∨
      imgU img (t + 4) 4 ≠ t ∨ imgU img (t + 0x68) 1 ≠ imgU img 0x13 1 ∨ imgU img (t + 0x69) 3 ≠ 0 then 0x06
  else if 3 < imgU img 0x13 1 ∨ ! s.keyProgrammed slot ∨ (! s.nv.useBad[slot] ∧ ! s.nv.use[slot].getLsbD needBit) then 0x07
  else if s.keyRevoked slot then 0x08
  else if ! s.keyStored slot then 0x09
  else if imgU img 0x14 1 < lvl then 0x0A
  else if sha256 (img.take t) ≠ (img.drop (t + 8)).take 32 then 0x0B
  else if ! ecdsaOk ((img.drop (t + 8)).take 32) s.nv.store[slot] ((img.drop (t + 0x28)).take 32) ((img.drop (t + 0x48)).take 32) then 0x0C
  else 0

/-- Steps 13 to 17 of R187: they depend only on the image. DESIGN CHOICE: where the frames do not end at FRAMES_LEN, or their
number or the masks are wrong, no frame is named (FAIL_FRAME 0xFFFF; log entry 55). -/
def checkFrames (img : List Byte) : Verdict :=
  let n := img.length
  let (fs, exact) := imgFrames n ((img.drop 64).take (n - 176))
  let body := imgBody img
  let v : Cfg := Cfg.overlay (fun _ => 0) body.recs
  let full := imgFull img
  match walkBad none 0 fs with
  | some k => { code := 0x0D, frame := k }
  | none =>
    if ! exact || fs.length != imgU img 0x10 2 || maskOf fs 3 != imgU img 0x30 4 || maskOf fs 2 != imgU img 0x34 1 ||
        contentOf fs != imgU img 0x35 1 then { code := 0x0D }
    else match firstBad (fun f => f.crcOk) 0 fs with
    | some k => { code := 0x0E, frame := k }
    | none => match firstFind (fun f => if f.typ ≤ 3 then badAddr f.typ f.idx none f.records else none) 0 fs with
      | some (k, a) => { code := 0x0F, frame := k, addr := a }
      | none => match firstFind (fun f => if f.typ ≤ 4 then badValue v f else none) 0 fs with
        | some (k, a) => { code := 0x10, frame := k, addr := a }
        | none => match firstFind (fun f => if f.typ ≤ 3 then incomplete v f else none) 0 fs with
          | some (k, a) => { code := 0x11, frame := k, addr := a }
          | none =>
            if full && (maskOf fs 1 != 1 || maskOf fs 2 != 0xF || maskOf fs 3 != 0xFFFFFFFF) then { code := 0x11 }
            else { code := 0 }

/-- Step 18 of R187: the cross rules on the configuration that would result. -/
def checkCross (s : State) (img : List Byte) : Bool :=
  crossOk (Cfg.overlay (if imgFull img then fun _ => 0 else s.cfg) (imgBody img).recs)

/-- Step 20 of R187: the field-die revisions (R422). -/
def checkRevision (s : State) (img : List Byte) : Bool :=
  (List.range 4).all (fun b => decide (imgU img 0x16 1 ≤ bits (s.word 4) (8 + 4 * b) 4))

/-- Step 19 of R187. -/
def checkFwMajor (s : State) (img : List Byte) : Bool := imgU img 0x15 1 == s.get NVM_FW_ACTIVE_MAJOR

/-- The checks of R187 for a fabric image; at boot step 19 is made after step 20 (R190). -/
def checkFabric (s : State) (img : List Byte) : Verdict :=
  let c := s.checkAuthentic .fabric img
  if c ≠ 0 then { code := c } else
  let v := checkFrames img
  if v.code ≠ 0 then v
  else if ! s.checkCross img then { code := 0x12 }
  else { code := 0 }

/-- All twenty steps, in the order of a load. -/
def checkLoadImage (s : State) (img : List Byte) : Verdict :=
  let v := s.checkFabric img
  if v.code ≠ 0 then v
  else if ! s.checkFwMajor img then { code := 0x13 }
  else if ! s.checkRevision img then { code := 0x14 }
  else { code := 0 }

/-- All twenty steps, in the order of the check of a slot (R190). -/
def checkSlotImage (s : State) (img : List Byte) : Verdict :=
  let v := s.checkFabric img
  if v.code ≠ 0 then v
  else if ! s.checkRevision img then { code := 0x14 }
  else if ! s.checkFwMajor img then { code := 0x13 }
  else { code := 0 }

/-- The checks of a firmware image (R381): steps 1 to 14 and step 20; the one frame is CODE. -/
def checkFirmware (s : State) (img : List Byte) : Nat :=
  let c := s.checkAuthentic .firmware img
  if c ≠ 0 then c else
  let n := img.length
  match imgFrames 2 ((img.drop 64).take (n - 176)) with
  | ([f], true) =>
    if f.typ ≠ 0x7F ∨ f.idx ≠ 0 ∨ f.fver ≠ 1 ∨ f.flags ≠ 0 ∨ f.resv ≠ 0 ∨ f.len % 4 ≠ 0 ∨ imgU img 0x10 2 ≠ 1 then 0x0D
    else if ! f.crcOk then 0x0E
    else if ! s.checkRevision img then 0x14
    else 0
  | _ => 0x0D

end State

end Sys2Proof.Machine
end

