-- ==== Sys2Proof/Machine/Txn.lean ====
section
/-!
DEFINITION. Transactions (R197 to R205): their checks, the atomic and the staged way, the steps with their log, and the
events that meet them. Transactions 0 to 3 are those of the seats, 4 is the one of a load (R196).
-/

namespace Sys2Proof.Machine

/-- What a set of records is (R196, R197). -/
inductive TxnKind | txn | load | direct
  deriving DecidableEq, Repr

/-- What the checks of R198 find: code, address of the first refused record, staged. -/
structure TxnCheck where
  code : Nat
  addr : Nat := 0xFFFFFFFF
  staged : Bool := false
  deriving DecidableEq, Repr

/-- The first of a list of records that satisfies a test, by its address. -/
def firstRec (l : List (Nat × Word)) (p : Nat × Word → Bool) : Option Nat := (l.find? p).map (·.1)

/-- The cell whose configuration a register belongs to: its CELL or WICK block. -/
def cellOrWick (a : Nat) : Option Chan :=
  match cellOfAddr a with
  | some n => some n
  | none => wickOfAddr a

/-- A record may address the register (R197): one an image record may address, or OUT. -/
def txnAddrOk (a : Nat) : Bool :=
  a % 4 == 0 && (frameOf a).isSome && (imgMask a != 0 || ((cellOfAddr a).isSome && a % 0x400 == 0x10))

/-- Every rail of the device. -/
def allRails : List (Bank × Fin 2) := allBanks.flatMap (fun b => [(b, 0), (b, 1)])

/-- The cells of a bank on a rail in a configuration (R99). -/
def railCells (v : Cfg) (r : Bank × Fin 2) : List Chan :=
  (bankChans r.1).filter (fun n => v.railOf n == some r.2.val)

/-- The rails that gain a cell by a change. -/
def gaining (old new : Cfg) : List (Bank × Fin 2) :=
  allRails.filter (fun r => (railCells new r).any (fun n => decide (n ∉ railCells old r)))

/-- The rails that lose a cell by a change. -/
def losing (old new : Cfg) : List (Bank × Fin 2) := gaining new old

/-- V_NEED of a joining cell in mV, with R_EST = 1,275 ohm (R99, R202 order 3). -/
def joinNeed (v : Cfg) (n : Chan) (out : Nat) : Nat :=
  let zero : Rat := (signed 16 (v.get (CELL_AO_TRIM_ZERO n)) : Rat) / 10
  let span : Rat := 1 + (signed 16 (v.get (CELL_AO_TRIM_SPAN n)) : Rat) / 1000000
  let f := v.get (CELL_CFG_FUNC n)
  if f = FN_AO_I then
    let x := if v.get (CELL_AO_NE43_CLAMP n) = 1 then min (max out 3800) 20500 else out
    min (roundNear (min (max ((x : Rat) * span + zero) 0) 26000 * 1275 / 1000)).toNat 25500
  else if f = FN_AO_V then (roundNear (min (max ((out : Rat) * span + zero) 0) 11500)).toNat
  else if f = FN_DI_NAMUR then 8200
  else match v.get (CELL_AI_CFG_LOOP_V n) with
    | 0 => 13500
    | 1 => 19500
    | _ => 25500

namespace State

/-- The configuration the next commit gives without further records. -/
def pendingCfg (s : State) : Cfg := Cfg.overlay s.cfg (s.shadow ++ s.shadowLate)

/-- The transactions that run staged steps or wait to (R204). -/
def stagedRuns (s : State) : List TxnRun :=
  s.txns.toList.filterMap (fun x => match x with
    | some r => if r.staged ∧ (r.phase = .staging ∨ r.phase = .waiting) then some r else none
    | none => none)

/-- A cell is in a staged step (R204). -/
def inStagedStep (s : State) (n : Chan) : Bool :=
  s.stagedRuns.any (fun r => r.phase == .staging && (decide (n ∈ r.holding) || decide (n ∈ r.configuring)))

/-- A record is part of a staged change (R200): of a cell that moves between families or rails, or of a sequence whose length
changes. -/
def stagedRec (old new : Cfg) (e : Nat × Word) : Bool :=
  (match cellOrWick e.1 with
    | some n => stagedCell old new n
    | none => false) || (isSeqReg e.1 && (match bankOfAddr e.1 with
    | some b => lenChange old new b
    | none => false))

/-- A record moves a cell on or off one of some rails. -/
def railRec (old new : Cfg) (rails : List (Bank × Fin 2)) (e : Nat × Word) : Bool :=
  match cellOrWick e.1 with
  | some n => old.railOf n != new.railOf n &&
      rails.any (fun x => x.1 == bankOf n && (old.railOf n == some x.2.val || new.railOf n == some x.2.val))
  | none => false

/-- A record conflicts with a staged transaction that runs (R204): it addresses a cell in a staged step, a rail in order 3 or 8 or
a sequence whose order 7 has not ended, or is a second staged change. -/
def conflictRec (s : State) (old new : Cfg) (r : TxnRun) (e : Nat × Word) : Bool :=
  State.stagedRec old new e || State.railRec old new (r.rising ++ r.falling) e || (isSeqReg e.1 && (match bankOfAddr e.1 with
    | some b => decide (b ∈ r.seqBanks)
    | none => false)) || (match cellOrWick e.1 with
    | some n => s.inStagedStep n
    | none => false)

/-- The first record that conflicts with a staged transaction that runs (R204). -/
def conflict (s : State) (old new : Cfg) (recs : List (Nat × Word)) : Option Nat :=
  firstRec recs (fun e => s.stagedRuns.any (fun r => s.conflictRec old new r e))

/-- The checks of R198 in their order, for a transaction, a load (R196) or a direct write (R197). -/
def checkRecs (s : State) (x : Seat) (kind : TxnKind) (recs : List (Nat × Word)) (opened : Bool) : TxnCheck :=
  let old := s.pendingCfg
  let new := Cfg.overlay old recs
  let changed (e : Nat × Word) : Bool := new e.1 != old e.1
  let fnChange (n : Chan) : Bool := old.get (CELL_CFG_FUNC n) != new.get (CELL_CFG_FUNC n)
  let near (p : Chan → Bool) (e : Nat × Word) : Bool := match cellOrWick e.1 with
    | some n => p n
    | none => false
  let staged := stagedChange old new
  if kind = .txn ∧ (¬ opened ∨ recs = [] ∨ 512 < recs.length) then { code := 0x20 }
  else match if kind = .txn then firstRec recs (fun e => ! txnAddrOk e.1) else none with
  | some a => { code := 0x0F, addr := a }
  | none => match if kind = .txn then firstRec recs (fun e => ! s.recordRight x e.1 e.2) else none with
    | some a => { code := 0x1B, addr := a }
    | none => match firstRec recs (fun e => (kind == .txn && e.2 &&& ~~~ recordMask e.1 != 0) ||
        ! regOk new e.1 (new e.1) || (near fnChange e && ! near (cellValuesOk new) e)) with
      | some a => { code := 0x10, addr := a }
      | none => match if s.isSet SYS_LOCK_LOCKED then firstRec recs (fun e => (new e.1 ^^^ old e.1) &&& rwlMask e.1 != 0) else none with
        | some a => { code := 0x19, addr := a }
        | none =>
          if s.mode = .boot ∨ s.mode = .votive then { code := 0x1D, addr := (recs.head?.map (·.1)).getD 0xFFFFFFFF } else
          match firstRec recs (near (fun n => s.get (CELL_STATE_STATE n) == CellState.fault.code && fnChange n &&
              new.get (CELL_CFG_FUNC n) != FN_OFF)) with
          | some a => { code := 0x1D, addr := a }
          | none => match firstRec recs (fun e => changed e && near (fun n => ! s.isSet (CELL_STATE_ADOPTED n)) e) with
            | some a => { code := 0x1C, addr := a }
            | none => match if kind = .direct then firstRec recs (fun e => ! crossNear new e.1)
                else if crossOk new then none else some 0xFFFFFFFF with
              | some a => { code := 0x12, addr := a }
              | none =>
                match s.conflict old new recs with
                | some a => { code := 0x1A, addr := a, staged := staged }
                | none =>
                  if staged ∧ (kind = .direct ∨ ¬ s.isSet (FABRIC_TXN_STAGED_OK.ofSeat x)) then
                    { code := 0x18, addr := (firstRec recs (State.stagedRec old new)).getD 0xFFFFFFFF, staged := true }
                  else { code := 0, staged := staged }

/-- A transaction slot replaced. -/
def setTxn (s : State) (w : Fin 5) (r : Option TxnRun) : State := { s with txns := s.txns.set w r }

/-- TXN_STAT.STATE of a seat. -/
def putTxnState (s : State) (x : Seat) (v : Nat) : State := s.put (FABRIC_TXN_STAT_STATE.ofSeat x) v

/-- The records of a seat's buffer (R197, table FABRIC TXN_BUF). -/
def txnRecords (s : State) (x : Seat) : List (Nat × Word) :=
  (List.range (s.get (FABRIC_TXN_COUNT_N.ofSeat x))).map (fun i =>
    ((s.word (bankedKey x (0xE1000 + 8 * i))).toNat, s.word (bankedKey x (0xE1004 + 8 * i))))

/-- The transaction slot of a seat. -/
def seatTxn (x : Seat) : Fin 5 := x.castLE (by decide)

/-- TXN_OPEN (R197): the seat has a transaction open, with an empty buffer. -/
def txnOpenCmd (s : State) (x : Seat) : State :=
  let s1 := s.forEach (List.range 1024) (fun s i => s.setWord (bankedKey x (0xE1000 + 4 * i)) 0)
  let s2 := (s1.put (FABRIC_TXN_COUNT_N.ofSeat x) 0).putTxnState x 1
  { s2 with txnOpen := s2.txnOpen.set x true }

/-- A seat's COMMIT or CHECK is being checked, waits or stages (R198). -/
def txnBusy (s : State) (x : Seat) : Bool := s.txns[seatTxn x].isSome

/-- TXN_COMMIT (R198): the checks start on the records of the buffer. -/
def txnCommitCmd (s : State) (x : Seat) : State :=
  if s.txnBusy x then s else
  let s1 := (s.setTxn (seatTxn x) (some { seat := x, recs := s.txnRecords x, opened := s.txnOpen[x] })).putTxnState x 2
  { s1 with txnOpen := s1.txnOpen.set x false }

/-- TXN_CHECK (R198): the same checks, nothing commits. -/
def txnCheckCmd (s : State) (x : Seat) : State :=
  if s.txnBusy x then s else
  (s.setTxn (seatTxn x) (some { seat := x, recs := s.txnRecords x, opened := s.txnOpen[x], phase := .checkOnly })).putTxnState x 2

/-- TXN_ABORT (R198): the open transaction is discarded; line 46. -/
def txnAbortCmd (s : State) (x : Seat) : State :=
  if ¬ s.txnOpen[x] then s else
  (({ s with txnOpen := s.txnOpen.set x false }).putTxnState x 7).raiseLine 46 [x]

/-- TXN_STAT shows what a check has found (table FABRIC TXN_STAT, TXN_FAIL). -/
def noteCheck (s : State) (x : Seat) (c : TxnCheck) : State :=
  ((s.put (FABRIC_TXN_STAT_CODE.ofSeat x) c.code).put (FABRIC_TXN_FAIL_ADDR.ofSeat x) c.addr).putB
    (FABRIC_TXN_STAT_STAGED.ofSeat x) c.staged

/-- The digest registers (R177). -/
def putDigest (s : State) (hi : Nat) (d : List Byte) : State :=
  (s.setWord hi (BitVec.ofNat 32 (beNat (d.take 4)))).setWord (hi + 4) (BitVec.ofNat 32 (beNat ((d.drop 4).take 4)))

/-- The digest of the active slot. -/
def activeDigest (s : State) : List Byte := imgDigest (s.nv.fab[s.get FABRIC_STAT_ACTIVE_SLOT]?.getD [])

/-- An image has been applied (R196). -/
def loadApplied (s : State) (p : LoadPart) : State :=
  let s1 := ((s.putDigest 0xE0000 p.digest).putB FABRIC_STAT_TXN_SINCE_IMAGE false).putB FABRIC_STAT_RECONCILE_PENDING false
  s1.putB FABRIC_STAT_NV_DIFFERS (p.digest != s1.activeDigest)

/-- A load ends with a code (table FABRIC LOAD_STAT): DONE or FAILED, line 45. -/
def loadEnd (s : State) (v : Verdict) : State :=
  match s.load with
  | none => s
  | some l =>
    let s1 := ((({ s with load := none }).put FABRIC_LOAD_STAT_STATE (if v.code = 0 then 5 else 6)).put
      FABRIC_LOAD_STAT_CODE v.code).put FABRIC_LOAD_STAT_FAIL_FRAME v.frame
    (s1.put FABRIC_LOAD_FAIL_ADDR v.addr).raiseLine 45 [l.seat]

/-- The checks of a load's transaction end (R196, R198): it waits for T0, or the load fails. An image that differs in
nothing is applied at once. -/
def loadCheckDone (s : State) : State :=
  match s.txns[(4 : Fin 5)] with
  | none => s
  | some r =>
    if r.phase ≠ .checking then s else
    let c := s.checkRecs r.seat .load r.recs true
    let empty := r.recs.isEmpty && (match r.load with
      | some p => p.rnt.isEmpty
      | none => true)
    if empty then
      let s1 := s.setTxn 4 none
      (match r.load with
        | some p => s1.loadApplied p
        | none => s1).loadEnd { code := 0 }
    else if c.code = 0 then
      { s.setTxn 4 (some { r with phase := .waiting, staged := c.staged }) with txnId := (s.txnId + 1) % 65536 }
    else
      let s1 := (s.setTxn 4 none).loadEnd { code := c.code, addr := c.addr }
      if c.code = 0x18 then s1.raiseLine 44 [r.seat] else s1

/-- The checks of a seat's transaction end (R198, R201). A refused one stays in its buffer and is open
again; NEEDS_STAGED raises line 44, every refusal of a COMMIT line 46. -/
def seatCheckDone (s : State) (x : Seat) : State :=
  match s.txns[seatTxn x] with
  | none => s
  | some r =>
    let c := s.checkRecs x .txn r.recs r.opened
    let s1 := s.noteCheck x c
    match r.phase with
    | .checkOnly =>
      let s2 := (s1.setTxn (seatTxn x) none).putTxnState x (if s1.txnOpen[x] then 1 else 0)
      if c.code = 0x18 then s2.raiseLine 44 [x] else s2
    | .checking =>
      if c.code = 0 then
        let id := (s1.txnId + 1) % 65536
        let s2 := (s1.setTxn (seatTxn x) (some { r with phase := .waiting, staged := c.staged })).putTxnState x 3
        { s2 with txnId := id }.put (FABRIC_TXN_STAT_ID.ofSeat x) id
      else
        let s2 := (s1.setTxn (seatTxn x) none).putTxnState x 6
        let s3 := { s2 with txnOpen := s2.txnOpen.set x (s2.txnOpen[x] || r.opened) }
        (if c.code = 0x18 then s3.raiseLine 44 [x] else s3).raiseLine 46 [x]
    | _ => s

/-- TXN_CHECK_DONE (R198, R201): the checks of a transaction end. -/
def txnCheckDone (s : State) (w : Fin 5) : State := if h : w.val < 4 then s.seatCheckDone ⟨w.val, h⟩ else s.loadCheckDone

/-- The entries of TXN.LOG in the order of R203: by the time their steps ended, at one instant in the order of R202. -/
def logInsert (w : Nat × Word) : List (Nat × Word) → List (Nat × Word)
  | [] => [w]
  | v :: t =>
    if v.1 < w.1 ∨ (v.1 = w.1 ∧ bits v.2 0 4 ≤ bits w.2 0 4) then v :: logInsert w t
    else w :: v :: t

/-- An entry of TXN.LOG (R203, table FABRIC TXN.LOG). -/
def logWord (step target : Nat) (late : Bool) (tUs : Nat) : Word :=
  BitVec.ofNat 32 (step + 16 * late.toNat + 256 * target + 65536 * min tUs 0xFFFF)

/-- A step that ended at a time is logged (R203). -/
def logStep (r : TxnRun) (step target : Nat) (late : Bool) (t : Nat) : TxnRun :=
  if 128 ≤ r.log.length then { r with full := true }
  else { r with log := State.logInsert (t, State.logWord step target late ((t - r.t0) / 4)) r.log }

/-- The log of a transaction is written to the registers of its seat. -/
def writeTxnLog (s : State) (r : TxnRun) : State :=
  let s1 := s.forEach (List.range 128) (fun s i => s.setWord (bankedKey r.seat (0xE0200 + 4 * i)) ((r.log.map (·.2)).getD i 0))
  s1.putB (FABRIC_TXN_STAT_LOG_FULL.ofSeat r.seat) r.full

/-- A transaction ends (R196, R205, R231): DONE or ABORTED. -/
def txnEnd (s : State) (w : Fin 5) (r : TxnRun) : State :=
  let s1 := (s.setTxn w none).writeTxnLog r
  match r.load with
  | some p => if r.aborted then s1.loadEnd { code := 0x1F } else (s1.loadApplied p).loadEnd { code := 0 }
  | none =>
    ((s1.putTxnState r.seat (if r.aborted then 7 else 5)).put (FABRIC_TXN_STAT_CODE.ofSeat r.seat)
      (if r.aborted then 0x1F else 0)).raiseLine 46 [r.seat]

/-- A transaction whose steps have all ended is DONE, logged at a time (R202 order 9); else its slot and log are
updated. -/
def txnSettle (s : State) (w : Fin 5) (r : TxnRun) (t : Nat) : State :=
  if r.holding = [] ∧ r.configuring = [] ∧ r.rising = [] ∧ r.losing = [] ∧ r.falling = [] ∧ r.seqBanks = [] then
    s.txnEnd w (if r.aborted then r else State.logStep r 9 0 false t)
  else (s.setTxn w (some r)).writeTxnLog r

/-- The rail of a bank takes the setpoint a joining set needs, or gives it up (0) (R202 order 3). -/
def setJoin (s : State) (r : Bank × Fin 2) (mv : Nat) : State :=
  if ¬ (s.bank r.1).running then s
  else (s.modBank r.1 (fun k => { k with joinMv := k.joinMv.set r.2 mv })).railsUpdate r.1

/-- The value a joining cell of a transaction will apply (R202 orders 3, 4 and 6): the one it holds where it moves its rail alone,
else that of its OUT record, or off. -/
def joinOut (s : State) (old new : Cfg) (recs : List (Nat × Word)) (n : Chan) : Nat :=
  if recs.any (fun e => e.1 == (CELL_OUT_VALUE n).addr) then new.get (CELL_OUT_VALUE n)
  else if railOnly old new n then (s.cell n).applied
  else 0

/-- The setpoint in mV a rail needs for its new set (R202 order 3). -/
def joinSetpoint (s : State) (old new : Cfg) (recs : List (Nat × Word)) (r : Bank × Fin 2) : Nat :=
  let need (n : Chan) : Nat :=
    if decide (n ∈ s.railUsers r.1 r.2) then s.vNeed n else joinNeed new n (s.joinOut old new recs n)
  min (max ((railCells new r).foldl (fun m n => max m (need n)) 0 + 2500) 5000) 28000

/-- The records of a run's staged cells and sequences, which wait (R202 orders 6 and 7). -/
def waits (cells : List Chan) (staged : Bool) (e : Nat × Word) : Bool :=
  (match cellOrWick e.1 with
    | some n => decide (n ∈ cells)
    | none => false) || (staged && isSeqReg e.1)

/-- TXN_T0 (R201 to R203): at the boundary the pending direct writes and then the atomic records take effect; staged
cells enter HOLD, gaining rails rise. -/
def txnT0 (s : State) (w : Fin 5) : State :=
  match s.txns[w] with
  | none => s
  | some r0 =>
    if r0.phase ≠ .waiting then s else
    let t := s.boundaryTime
    let old := s.pendingCfg
    let new := Cfg.overlay old r0.recs
    let cells := allChans.filter (fun n => r0.staged && stagedCell old new n)
    let seqBanks := if r0.staged then allBanks.filter (fun b => r0.recs.any (fun e => isSeqReg e.1 && bankOfAddr e.1 == some b)) else []
    let now := (r0.recs.filter (fun e => ! State.waits cells r0.staged e)).map (fun e =>
      if r0.load.isSome then e else (seatKey r0.seat e.1, e.2))
    let s1 := s.commitPending now t
    let gains := if r0.staged then gaining old new else []
    let r := State.logStep { r0 with
      phase := .staging, t0 := t, holding := cells, swap := cells.filter (railOnly old new), rising := gains,
      losing := if r0.staged then losing old new else [],
      seqBanks := seqBanks, log := [], full := false } 1 0 false t
    let s2 := s1.forEach cells (fun s n => s.modLcell n (fun c => { c with txn := .hold }))
    let s3 := s2.forEach gains (fun s x => s.setJoin x (s.joinSetpoint old new r0.recs x))
    let s4 := if r0.load.isSome then s3 else s3.putTxnState r0.seat 4
    let s5 := s4.forEach (seqBanks.filter (fun b => ! cells.any (fun n => bankOf n == b))) (fun s b =>
      s.commitWords (r0.recs.filter (fun e => isSeqReg e.1 && bankOfAddr e.1 == some b)) t)
    s5.txnSettle w r t

/-- A rail's target byte in the log. -/
def railTargetCode (b : Bank) (r : Fin 2) : Nat := 0x80 + 2 * b.val + r.val

/-- The time at which order 3 of a staged transaction ends in any case: T0 + 1.9 ms (R202). -/
def railUpBound (r : TxnRun) : Nat := r.t0 + 7600

/-- Order 3 ends for a rail at a time, or at its bound where that has come first, LATE (R202, R203). -/
def railUp (s : State) (w : Fin 5) (r : TxnRun) (x : Bank × Fin 2) (t : Nat) : State :=
  let late := decide (State.railUpBound r ≤ t)
  let e := if late then State.railUpBound r else t
  s.txnSettle w (State.logStep { r with rising := r.rising.erase x } 3 (State.railTargetCode x.1 x.2) late e) e

/-- TXN_RAIL_UP_END (R202 order 3): the rail is within 2 % of its setpoint, q quarters of a us into the cycle. -/
def txnRailUpEnd (s : State) (w : Fin 5) (b : Bank) (x : Fin 2) (q : Nat) : State :=
  match s.txns[w] with
  | none => s
  | some r => if (b, x) ∉ r.rising then s else s.railUp w r (b, x) (s.now + q)

/-- TXN_RAIL_UP_TIMEOUT (R202 order 3): at T0 + 1.9 ms, which lies in the running cycle, the step ends anyway, LATE. -/
def txnRailUpTimeout (s : State) (w : Fin 5) (b : Bank) (x : Fin 2) : State :=
  match s.txns[w] with
  | none => s
  | some r => if (b, x) ∉ r.rising ∨ s.boundaryTime < State.railUpBound r then s else s.railUp w r (b, x) (State.railUpBound r)

/-- The records of a cell in a transaction, with its copy of seat-banked registers. -/
def cellRecs (r : TxnRun) (n : Chan) : List (Nat × Word) := r.recs.filter (fun e => cellOrWick e.1 == some n)

/-- What follows once every cell of a bank has been released (R202 orders 7 and 8): its sequence records commit and wait
for the next pass start; rails that lost cells fall. The field die gives up the setpoints held for joining cells once it has
taken these. -/
def bankReleased (s : State) (r : TxnRun) (b : Bank) (t : Nat) : State × TxnRun :=
  if r.holding.any (fun n => bankOf n == b) || r.configuring.any (fun n => bankOf n == b) then (s, r) else
  let s1 := s.commitWords (r.recs.filter (fun e => isSeqReg e.1 && bankOfAddr e.1 == some b && r.staged)) t
  (s1, { r with
    falling := r.falling ++ r.losing.filter (fun x => x.1 == b), losing := r.losing.filter (fun x => x.1 != b) })

/-- A cell takes its new configuration (R202 orders 4 and 6): its records take effect; without an OUT record a released
cell applies off, one that only moved its rail keeps its value. -/
def releaseCell (s : State) (r : TxnRun) (n : Chan) (t : Nat) (swapped : Bool) : State :=
  let recs := State.cellRecs r n
  let out := recs.any (fun e => e.1 == (CELL_OUT_VALUE n).addr)
  let s1 := s.commitWords (if out ∨ swapped then recs else recs ++ [((CELL_OUT_VALUE n).addr, 0)]) t
  (s1.modLcell n (fun c => { c with txn := .none })).noteRange n t

/-- TXN_RAIL_SWAP (R202 orders 4 and 5): at the boundary after the rails of a bank are up, its held cells leave HOLD:
rail-only cells are released on their new rail, the others enter CONFIG. -/
def txnRailSwap (s : State) (w : Fin 5) (b : Bank) : State :=
  match s.txns[w] with
  | none => s
  | some r =>
    let cells := r.holding.filter (fun n => bankOf n == b)
    if r.phase ≠ .staging ∨ cells = [] ∨ r.rising.any (fun x => x.1 == b) then s else
    let t := s.boundaryTime
    let swaps := cells.filter (fun n => decide (n ∈ r.swap))
    let rest := cells.filter (fun n => decide (n ∉ r.swap))
    let r1 := cells.foldl (fun r n => State.logStep r 2 n.val false t) r
    let r2 := swaps.foldl (fun r n => State.logStep r 4 n.val false t) r1
    let r3 := { r2 with
      holding := r.holding.filter (fun n => bankOf n != b), configuring := r.configuring ++ rest }
    let s1 := s.forEach swaps (fun s n => s.releaseCell r n t true)
    let s2 := s1.forEach rest (fun s n => s.modLcell n (fun c => { c with txn := .config }))
    let (s3, r4) := s2.bankReleased r3 b t
    s3.txnSettle w r4 t

/-- TXN_CONNECT (R202 order 5): 50 us after the edge has ended, the new sense path, sink or DAC stage of a cell is
connected. -/
def txnConnect (s : State) (w : Fin 5) (n : Chan) (q : Nat) : State :=
  match s.txns[w] with
  | none => s
  | some r =>
    if n ∉ r.configuring ∨ n ∈ r.connected then s
    else s.txnSettle w (State.logStep { r with connected := r.connected ++ [n] } 5 n.val false (s.now + q)) (s.now + q)

/-- TXN_RELEASE (R202 order 6): at the next boundary the connected cells take their new configuration. -/
def txnRelease (s : State) (w : Fin 5) : State :=
  match s.txns[w] with
  | none => s
  | some r =>
    if r.connected = [] then s else
    let t := s.boundaryTime
    let s1 := s.forEach r.connected (fun s n => s.releaseCell r n t false)
    let r1 := (r.connected.foldl (fun r n => State.logStep r 6 n.val false t) r)
    let r2 := { r1 with configuring := r.configuring.filter (fun n => decide (n ∉ r.connected)), connected := [] }
    let (s2, r3) := ((r.connected.map bankOf).eraseDups).foldl (fun p b => State.bankReleased p.1 p.2 b t) (s1, r2)
    s2.txnSettle w r3 t

/-- TXN_SEQ (R202 order 7): the first pass of a bank after release starts with its new sequence. -/
def txnSeq (s : State) (w : Fin 5) (b : Bank) (q : Nat) : State :=
  match s.txns[w] with
  | none => s
  | some r =>
    if b ∉ r.seqBanks ∨ r.holding.any (fun n => bankOf n == b) ∨ r.configuring.any (fun n => bankOf n == b) then s
    else s.txnSettle w (State.logStep { r with seqBanks := r.seqBanks.erase b } 7 (0x40 + b.val) false (s.now + q)) (s.now + q)

/-- TXN_RAIL_DOWN (R202 order 8): a rail that lost cells has settled to its new set, or is disabled. -/
def txnRailDown (s : State) (w : Fin 5) (b : Bank) (x : Fin 2) (q : Nat) : State :=
  match s.txns[w] with
  | none => s
  | some r =>
    if (b, x) ∉ r.falling then s
    else s.txnSettle w (State.logStep { r with falling := r.falling.erase (b, x) } 8 (State.railTargetCode b x) false (s.now + q)) (s.now + q)

/-- The steps of a bank end (R205): an FBR of the bank, or a loss of the logic side its field die declares. Released cells
keep the new configuration, the others the old; the transaction is ABORTED, other banks complete. The instant of the event within
the running fabric cycle is a free value. -/
def txnDropBank (s : State) (b : Bank) : State :=
  s.forEach (List.finRange 5) (fun s w =>
    match s.txns[w] with
    | none => s
    | some r =>
      let here (n : Chan) : Bool := bankOf n == b
      if r.phase ≠ .staging ∨ ¬ (r.holding.any here ∨ r.configuring.any here ∨ b ∈ r.seqBanks ∨
          (r.rising ++ r.losing ++ r.falling).any (fun x => x.1 == b)) then s else
      let s1 := s.forEach ((r.holding ++ r.configuring).filter here) (fun s n => s.modLcell n (fun c => { c with txn := .none }))
      let s2 := (s1.modBank b (fun k => { k with joinMv := Vector.replicate 2 0 })).useFree
      let t := s.now + (Config.instant s.free).val
      let keep (l : List (Bank × Fin 2)) := l.filter (fun x => x.1 != b)
      let r1 := State.logStep { r with
        holding := r.holding.filter (fun n => ! here n), configuring := r.configuring.filter (fun n => ! here n),
        connected := r.connected.filter (fun n => ! here n), rising := keep r.rising, losing := keep r.losing,
        falling := keep r.falling, seqBanks := r.seqBanks.filter (· != b), aborted := true } 0xA (0x40 + b.val) false t
      s2.txnSettle w r1 t)

/-- A transaction is given up whole (R194): the cells that have not been released keep their configuration. -/
def txnDiscard (s : State) (w : Fin 5) : State :=
  match s.txns[w] with
  | none => s
  | some r =>
    let s1 := s.forEach (r.holding ++ r.configuring) (fun s n => s.modLcell n (fun c => { c with txn := .none }))
    (s1.setTxn w none).writeTxnLog r

end State

end Sys2Proof.Machine
end

