-- ==== Sys2Proof/Machine/Nvops.lean ====
section
/-!
DEFINITION. What works on NV memory and OTP: loads of fabric and firmware images (R192 to R196, R381, R382), slot checks
(R190), the SEC commands and debug authentication (R385 to R388), NV reads (R430, R431), the configuration words and the
lock (R424 to R427).
-/

namespace Sys2Proof.Machine

namespace State

/-- The fabric slot that is not active (R190). -/
def inactiveSlot (s : State) : Fin 2 := if s.get FABRIC_STAT_ACTIVE_SLOT = 0 then 1 else 0

/-- The firmware slot that did not boot (R382). -/
def inactiveFw (s : State) : Fin 2 := if s.get NVM_FW_ACTIVE_SLOT = 0 then 1 else 0

/-- A fabric slot's registers show the result of its check (R190, table FABRIC SLOT). -/
def checkSlot (s : State) (k : Fin 2) : State :=
  let img := s.nv.fab[k]
  let v := s.checkSlotImage img
  let a := FABRIC_SLOT_VALID k
  let s1 := (s.putB a (v.code == 0 || v.code == 0x13)).put (FABRIC_SLOT_CODE k) v.code
  let s2 := (s1.put (FABRIC_SLOT_ROLLBACK k) (imgU img 0x14 1)).put (FABRIC_SLOT_FW_MAJOR k) (imgU img 0x15 1)
  (s2.put (FABRIC_SLOT_SEQ_SEQ k) (imgU img 0x18 4)).putDigest (0xE0020 + 8 * k.val) (if img = [] then [] else imgDigest img)

/-- A firmware slot's registers show the result of its check (R381, table NVM FW_SLOT). -/
def checkFwSlot (s : State) (k : Fin 2) : State :=
  let img := s.nv.fw[k]
  let c := s.checkFirmware img
  let s1 := (s.putB (NVM_FW_SLOT_VALID k) (c == 0)).put (NVM_FW_SLOT_CODE k) c
  let s2 := (s1.put (NVM_FW_SLOT_MAJOR k) (imgU img 0x15 1)).put (NVM_FW_SLOT_MINOR k) (imgU img 0x17 1)
  s2.put (NVM_FW_SEQ_SEQ k) (imgU img 0x18 4)

/-- The registers of a load that starts (table FABRIC LOAD_STAT). -/
def loadBegin (s : State) (x : Seat) (mode : LoadMode) (phase : LoadPhase) (code : Nat) : State :=
  let s1 := ({ s with load := some { seat := x, mode := mode, phase := phase } }).put FABRIC_LOAD_STAT_STATE code
  let s2 := ((s1.put FABRIC_LOAD_STAT_SEAT x.val).put FABRIC_LOAD_STAT_CODE 0).put FABRIC_LOAD_STAT_FAIL_FRAME 0xFFFF
  (s2.put FABRIC_LOAD_FAIL_ADDR 0xFFFFFFFF).put FABRIC_LOAD_BYTES_BYTES 0

/-- A seat has a transaction open or running, which an APPLY or RECONCILE load waits for no longer than to be refused
(R204). -/
def seatInTxn (s : State) (x : Seat) : Bool := s.txnOpen[x] || s.txnBusy x

/-- A START is refused (R194, R204): the seat has no MODE_SEATS bit, a load runs, or it applies while the seat has a
transaction open. -/
def loadRefused (s : State) (x : Seat) (mode : LoadMode) : Bool :=
  ! s.modeSeat x || s.load.isSome || ((mode == .apply || mode == .reconcile) && s.seatInTxn x)

/-- LOAD_START_INSTALL, LOAD_START_APPLY, LOAD_START_INSTALL_APPLY and LOAD_START_RECONCILE (R193, R194): a load is
started, to receive bytes, or validating at once. -/
def loadStart (s : State) (x : Seat) (mode : LoadMode) : State :=
  if s.loadRefused x mode then s
  else if mode = .reconcile then s.loadBegin x mode .validating 2 else s.loadBegin x mode .receiving 1

/-- LOAD_DATA (R194): a write of the loading seat appends four bytes, the lowest first. -/
def loadData (s : State) (x : Seat) (w : Word) : State :=
  match s.load with
  | some l =>
    if l.seat = x ∧ l.phase = .receiving then
      ({ s with load := some { l with bytes := l.bytes ++ wordBytes w } }).put FABRIC_LOAD_BYTES_BYTES (min (l.bytes.length + 4) 0x7FFFF)
    else s
  | none => s

/-- LOAD_END (R194): the byte transfer closes and validation starts. -/
def loadEndCmd (s : State) (x : Seat) : State :=
  match s.load with
  | some l =>
    if l.seat = x ∧ l.phase = .receiving then
      ({ s with load := some { l with phase := .validating } }).put FABRIC_LOAD_STAT_STATE 2
    else s
  | none => s

/-- LOAD_CANCEL (R194): the load is discarded with code CANCELLED, with the transaction that applies it, unless programming of the
trailer has begun (a free value while an install programs). -/
def loadCancel (s : State) (x : Seat) : State :=
  match s.load with
  | none => s
  | some l =>
    if l.seat ≠ x then s
    else match l.phase with
      | .receiving => s.loadEnd { code := 0x21 }
      | .validating => s.loadEnd { code := 0x21 }
      | .programming => if Config.nvBegun s.free then s.useFree else s.useFree.loadEnd { code := 0x21 }
      | .applying => if l.mode = .installApply then s else (s.txnDiscard 4).loadEnd { code := 0x21 }

/-- An image is applied (R196): its records and Ring Node Table words that differ from the configuration in effect form a
transaction of the loading seat. -/
def loadApply (s : State) (l : Load) (img : List Byte) : State :=
  if s.seatInTxn l.seat then s.loadEnd { code := 0x1A } else
  let body := imgBody img
  let recs := (imgAllSeats body.recs).filter (fun e => (s.word e.1 ^^^ e.2) &&& imgMask e.1 != 0)
  let rnt := body.nodes.filter (fun e => decide (e.1 % 0x20 < 0x14) && s.word e.1 != e.2)
  let s1 := ({ s with load := some { l with phase := .applying } }).put FABRIC_LOAD_STAT_STATE 4
  s1.setTxn 4 (some { seat := l.seat, recs := recs, load := some { digest := imgResult img, rnt := rnt } })

/-- The rules of a load that follow its validation (R195): the code of the first that fails, or 0. DESIGN CHOICE: with no image
loaded, in VOTIVE, there is no active slot for a SEQ to be older than, and an install is not refused SEQ_OLD; it goes to slot B,
the slot ACTIVE_SLOT = 0 leaves inactive (log entry 55). -/
def loadRules (s : State) (mode : LoadMode) (img : List Byte) : Nat :=
  if mode = .install ∨ mode = .installApply then
    if ! imgFull img then 0x16
    else if s.fabLoaded ∧ ! seqNewer (imgU img 0x18 4) (imgU (s.nv.fab[s.get FABRIC_STAT_ACTIVE_SLOT]?.getD []) 0x18 4) then 0x17
    else 0
  else if ! imgFull img then
    let d := wordBytes 0 ++ wordBytes 0
    let now := beBytes 4 (s.get FABRIC_DIGEST_HI_HI) ++ beBytes 4 (s.get FABRIC_DIGEST_LO_LO)
    if (img.drop 0x20).take 8 ≠ now ∨ now = d then 0x15 else 0
  else 0

/-- A slot that an install has been writing, before its trailer (R192): erased, or the header and frames as far as they are
programmed, a free value. -/
def partSlot (s : State) (img : List Byte) : List Byte := img.take (Config.nvWritten s.free % (img.length - 111))

/-- A fabric load is being validated. -/
def validating (s : State) : Bool :=
  match s.load with
  | none => false
  | some l => l.phase == .validating

/-- The validation of a fabric load ends (R187, R193, R195): the load fails with the code of the first failing check, or goes on to
install, which erases the inactive slot and programs header and frames (R192), or to apply. -/
def fabValidated (s : State) : State :=
  match s.load with
  | none => s
  | some l =>
    let img := if l.mode = .reconcile then s.nv.fab[s.get FABRIC_STAT_ACTIVE_SLOT]?.getD [] else l.bytes
    let v := s.checkLoadImage img
    if v.code ≠ 0 then s.loadEnd v
    else
      let c := if l.mode = .reconcile then 0 else s.loadRules l.mode img
      if c ≠ 0 then s.loadEnd { code := c }
      else if l.mode = .install ∨ l.mode = .installApply then
        let k := s.inactiveSlot
        let s1 := (s.useFree.modNv (fun n => { n with fab := n.fab.set k (s.partSlot l.bytes) })).eraseSlot ⟨k.val, by omega⟩
        ({ s1 with load := some { l with phase := .programming } }).put FABRIC_LOAD_STAT_STATE 3
      else s.loadApply l img

/-- INSTALL_DONE (R192): the slot has been programmed and verified with its trailer, or an NV operation has failed with a
code of NVM.STAT.ERR. DESIGN CHOICE: NVM.ERR_ADDR then shows the base of the slot (log entry 55). -/
def installDone (s : State) (err : Nat) : State :=
  match s.load with
  | none => s
  | some l =>
    if l.phase ≠ .programming then s else
    let k := s.inactiveSlot
    let s1 := s.raiseLine 53 allSeats
    if err ≠ 0 then (s1.nvError err (0x60000 * k.val)).loadEnd { code := 0x1E }
    else
      let s2 := (s1.modNv (fun n => { n with fab := n.fab.set k l.bytes })).checkSlot k
      if l.mode = .installApply then s2.loadApply l l.bytes else s2.loadEnd { code := 0 }

/-- A firmware load ends with a code (table NVM FW_LOAD_STAT). -/
def fwEnd (s : State) (code : Nat) : State :=
  (({ s with fwLoad := none }).put NVM_FW_LOAD_STAT_STATE (if code = 0 then 5 else 6)).put NVM_FW_LOAD_STAT_CODE code

/-- FW_LOAD_START (R382). -/
def fwLoadStart (s : State) (x : Seat) : State :=
  if ! s.modeSeat x ∨ s.fwLoad.isSome then s
  else (({ s with fwLoad := some { seat := x, mode := .install, phase := .receiving } }).put NVM_FW_LOAD_STAT_STATE 1).put
    NVM_FW_LOAD_STAT_CODE 0

/-- FW_LOAD_DATA (R382). -/
def fwLoadData (s : State) (x : Seat) (w : Word) : State :=
  match s.fwLoad with
  | some l => if l.seat = x ∧ l.phase = .receiving then { s with fwLoad := some { l with bytes := l.bytes ++ wordBytes w } } else s
  | none => s

/-- FW_LOAD_END (R382). -/
def fwLoadEnd (s : State) (x : Seat) : State :=
  match s.fwLoad with
  | some l =>
    if l.seat = x ∧ l.phase = .receiving then
      ({ s with fwLoad := some { l with phase := .validating } }).put NVM_FW_LOAD_STAT_STATE 2
    else s
  | none => s

/-- The code a firmware image fails its load with, or 0 (R381, R382). -/
def fwVerdict (s : State) (img : List Byte) : Nat :=
  let c := s.checkFirmware img
  if c ≠ 0 then c
  else if ! seqNewer (imgU img 0x18 4) (imgU (s.nv.fw[s.get NVM_FW_ACTIVE_SLOT]?.getD []) 0x18 4) ∧
      s.isSet (NVM_FW_SLOT_VALID (s.get NVM_FW_ACTIVE_SLOT)) then 0x17
  else 0

/-- The validation of a firmware load ends (R381, R382): the load fails with its code, or goes on to install: the inactive slot is
erased, and header and frames are programmed (R192). -/
def fwValidated (s : State) : State :=
  match s.fwLoad with
  | none => s
  | some l =>
    if l.phase ≠ .validating then s
    else if s.fwVerdict l.bytes ≠ 0 then (s.fwEnd (s.fwVerdict l.bytes)).raiseLine 53 allSeats
    else
      let k := s.inactiveFw
      let s1 := (s.useFree.modNv (fun n => { n with fw := n.fw.set k (s.partSlot l.bytes) })).eraseSlot ⟨2 + k.val, by omega⟩
      ({ s1 with fwLoad := some { l with phase := .programming } }).put NVM_FW_LOAD_STAT_STATE 3

/-- VALIDATION_DONE (R187): the validation of the fabric load ends, or, with none that is being validated, that of the firmware
load (log entry 55). -/
def validationDone (s : State) : State := if s.validating then s.fabValidated else s.fwValidated

/-- FW_LOAD_CANCEL (R194, R382): the load is discarded with code CANCELLED, with what is in the slot, unless programming of the
trailer has begun (a free value while an install programs). -/
def fwLoadCancel (s : State) (x : Seat) : State :=
  match s.fwLoad with
  | none => s
  | some l =>
    if l.seat ≠ x then s
    else if l.phase ≠ .programming then s.fwEnd 0x21
    else if Config.nvBegun s.free then s.useFree else s.useFree.fwEnd 0x21

/-- FW_INSTALL_DONE (R381, R382): the image has been validated and installed, or the load fails; `err` is a code of
NVM.STAT.ERR, 0 for none. Validation ends first where it has not yet. -/
def fwInstallDone (s : State) (err : Nat) : State :=
  let s0 := s.fwValidated
  match s0.fwLoad with
  | none => s0
  | some l =>
    if l.phase ≠ .programming then s0 else
    let k := s0.inactiveFw
    let s1 := s0.raiseLine 53 allSeats
    if err ≠ 0 then (((s1.nvError err (0xC0000 + 0x70000 * k.val)).fwEnd 0x1E)).checkFwSlot k
    else ((s1.fwEnd 0).modNv (fun n => { n with fw := n.fw.set k l.bytes })).checkFwSlot k

/-- What the SEC registers show of OTP and the key store (table SEC). -/
def noteSec (s : State) : State :=
  let s1 := s.forEach (List.finRange 4) (fun s (k : Fin 4) =>
    ((((s.putB (SEC_KEY_PROGRAMMED k) (s.keyProgrammed k)).putB (SEC_KEY_REVOKED k) (s.keyRevoked k)).put (SEC_KEY_USE k)
      s.nv.use[k].toNat).putB (SEC_KEY_STORED k) (s.keyStored k)))
  (s1.put SEC_ROLLBACK_FW_LEVEL (Machine.levelOf s.nv.fwBits)).put SEC_ROLLBACK_FAB_LEVEL (Machine.levelOf s.nv.fabBits)

/-- A SEC command ends at once with a code. -/
def secCode (s : State) (c : Nat) : State := (s.putB SEC_CMD_STAT_BUSY false).put SEC_CMD_STAT_CODE c

/-- A SEC command starts its OTP write or key store. -/
def secStart (s : State) (r : SecRun) : State := ({ s with secRun := some r }).putB SEC_CMD_STAT_BUSY true

/-- The bytes of a WO register file (SEC.HASH, SEC.KEYSTAGE). -/
def stagedBytes (s : State) (a k : Nat) : List Byte := (List.range k).flatMap (fun i => wordBytes (s.word (a + 4 * i)))

/-- A SEC command may not be given: one runs, or the seat has no MODE_SEATS bit (R386). -/
def secRefused (s : State) (x : Seat) : Bool := ! s.modeSeat x || s.secRun.isSome

/-- SEC_PROGRAM_SLOT (R386, R431): hash and USE of a slot. -/
def secProgramSlot (s : State) (x : Seat) (k : Fin 4) : State :=
  if s.secRefused x ∨ s.get SEC_HASH_USE_USE = 0 then s
  else if s.keyProgrammed k then s.secCode 0x02
  else if s.isSet SYS_LOCK_LOCKED then s.secCode 0x03
  else s.secStart (.program k (s.stagedBytes 0xD0040 8) (BitVec.ofNat 3 (s.get SEC_HASH_USE_USE)))

/-- SEC_STORE_KEY (R386). -/
def secStoreKey (s : State) (x : Seat) (k : Fin 4) : State :=
  if s.secRefused x then s
  else
    let key := s.stagedBytes 0xD0080 16
    if ¬ s.keyProgrammed k ∨ sha256 key ≠ s.nv.hash[k] then s.secCode 0x06 else s.secStart (.store k key)

/-- A slot verifies the image in an active slot, or is the last unrevoked one with USE FIRMWARE (R386). -/
def keyInUse (s : State) (k : Fin 4) : Bool :=
  let uses (img : List Byte) : Bool := ! img.isEmpty && imgU img 0x13 1 == k.val
  let fw (j : Fin 4) : Bool := s.keyProgrammed j && ! s.keyRevoked j && s.nv.use[j].getLsbD 0
  (s.isSet (NVM_FW_SLOT_VALID (s.get NVM_FW_ACTIVE_SLOT)) && uses (s.nv.fw[s.get NVM_FW_ACTIVE_SLOT]?.getD [])) ||
    (s.fabLoaded && uses (s.nv.fab[s.get FABRIC_STAT_ACTIVE_SLOT]?.getD [])) ||
    (fw k && ! (List.finRange 4).any (fun j => j != k && fw j))

/-- SEC_REVOKE (R386). -/
def secRevoke (s : State) (x : Seat) (k : Fin 4) : State :=
  if s.secRefused x then s else if s.keyInUse k then s.secCode 0x04 else s.secStart (.revoke k)

/-- SEC_RAISE_FW_LEVEL (R386, R387). -/
def secRaiseFw (s : State) (x : Seat) : State :=
  if s.secRefused x then s
  else if ¬ s.isSet SYS_BOOT_OK_OK then s.secCode 0x05
  else
    let l := imgU (s.nv.fw[s.get NVM_FW_ACTIVE_SLOT]?.getD []) 0x14 1
    if l ≤ Machine.levelOf s.nv.fwBits then s.secCode 0 else s.secStart (.fwLevel l)

/-- SEC_RAISE_FAB_LEVEL (R386, R387). -/
def secRaiseFab (s : State) (x : Seat) : State :=
  if s.secRefused x then s
  else if ¬ s.isSet SYS_BOOT_OK_OK ∨ ¬ s.fabLoaded then s.secCode 0x05
  else
    let l := imgU (s.nv.fab[s.get FABRIC_STAT_ACTIVE_SLOT]?.getD []) 0x14 1
    if l ≤ Machine.levelOf s.nv.fabBits then s.secCode 0 else s.secStart (.fabLevel l)

/-- The debug level in OTP (R388, R431). -/
def otpDebugLevel (s : State) : Nat := (s.nv.dbgBits.getLsbD 0).toNat + (s.nv.dbgBits.getLsbD 1).toNat

/-- SEC_RAISE_DEBUG_LEVEL (R386, R388). -/
def secRaiseDebug (s : State) (x : Seat) (l : Fin 3) : State :=
  if s.secRefused x then s
  else if l.val < s.otpDebugLevel then s.secCode 0x08
  else if l.val = s.otpDebugLevel then s.secCode 0
  else s.secStart (.debugLevel l)

/-- Thermometer bits programmed from the lowest unprogrammed one up until a level is reached (R387, R431). -/
def raiseBitsTo {n : Nat} (x : BitVec n) (level : Nat) : BitVec n :=
  (List.range n).foldl (fun y i =>
    if ((List.range n).filter (fun j => y.getLsbD j)).length < level ∧ ¬ y.getLsbD i then setBit y i true else y) x

/-- A SEC command's OTP write or key store has been done (R386, R431). -/
def secDone (n : Nv) : SecRun → Nv
  | .program k hash use => { n with hash := n.hash.set k hash, use := n.use.set k use }
  | .store k key => { n with store := n.store.set k key }
  | .revoke k => { n with revoked := n.revoked.set k true }
  | .fwLevel l => { n with fwBits := raiseBitsTo n.fwBits l }
  | .fabLevel l => { n with fabBits := raiseBitsTo n.fabBits l }
  | .debugLevel l => { n with dbgBits := raiseBitsTo n.dbgBits l }

/-- The level reached by an OTP write from one level to another that ends in a row that fails: a row that fails counts as
programmed (R432). -/
def levelReached (old new k : Nat) : Nat := old + 1 + k % (new - old)

/-- A SEC command's OTP write or key store has ended in a row that reads back wrong (R432); which of its rows, is a free value k. -/
def secSpoilt (n : Nv) (k : Nat) : SecRun → Nv
  | .program i hash _ =>
    if k % 5 = 4 then { n with hash := n.hash.set i hash, useBad := n.useBad.set i true }
    else { n with hashBad := n.hashBad.set i true }
  | .store i key => { n with store := n.store.set i (key.take (k % 65)) }
  | .revoke i => { n with revBad := n.revBad.set i true }
  | .fwLevel l => { n with fwBits := raiseBitsTo n.fwBits (levelReached (Machine.levelOf n.fwBits) l k) }
  | .fabLevel l => { n with fabBits := raiseBitsTo n.fabBits (levelReached (Machine.levelOf n.fabBits) l k) }
  | .debugLevel l => { n with dbgBits := raiseBitsTo n.dbgBits (levelReached ((n.dbgBits.getLsbD 0).toNat + (n.dbgBits.getLsbD 1).toNat) l k) }

/-- The NV offset of the first row a SEC command programs (R430, R431). -/
def secRow : SecRun → Nat
  | .program k _ _ => 0x1F0100 + 0x40 * k.val
  | .store k _ => 0x1F4000 + 0x40 * k.val
  | .revoke k => 0x1F0128 + 0x40 * k.val
  | .fwLevel _ => 0x1F0200
  | .fabLevel _ => 0x1F0400
  | .debugLevel _ => 0x1F0600

/-- SEC_CMD_DONE (R386): the OTP write or key store ends; or fails with a code of NVM.STAT.ERR, and a row that reads back wrong
is then one that fails its ECC (R432). -/
def secCmdDone (s : State) (err : Nat) : State :=
  match s.secRun with
  | none => s
  | some r =>
    let s1 := ({ s with secRun := none }).raiseLine 53 allSeats
    if err = 0 then ((s1.modNv (secDone · r)).noteSec).secCode 0
    else
      let s2 := s1.nvError err (secRow r)
      (if err = 1 then (s2.useFree.modNv (secSpoilt · (Config.nvWritten s2.free) r)).noteSec else s2).secCode 0x07

/-- A debug authentication may be tried (R388): at level AUTH, with fewer than three failures. -/
def debugMayTry (s : State) : Bool := s.get SEC_DBG_LEVEL == 1 && decide (s.get SEC_DBG_FAILS < 3) && ! s.inReset

/-- DEBUG_NONCE (R388): a nonce drawn anew, a free value. -/
def debugNonce (s : State) : State :=
  if s.debugMayTry then { s.useFree with dbgNonce := some (Config.nonce s.free) } else s

/-- UID as its eight OTP bytes (R431). -/
def uidBytes (s : State) : List Byte := wordBytes (s.word 8) ++ wordBytes (s.word 0xC)

/-- DEBUG_AUTHENTICATE (R388): a signature over SHA-256(nonce ‖ UID) by a key whose slot carries USE DEBUG; else a failure
is counted. The nonce is used up. -/
def debugAuthenticate (s : State) (r t : BitVec 256) : State :=
  match s.dbgNonce with
  | none => s
  | some k =>
    if ¬ s.debugMayTry then s else
    let hash := sha256 (beBytes 32 k.toNat ++ s.uidBytes)
    let good := (List.finRange 4).any (fun j => s.keyProgrammed j && ! s.keyRevoked j && s.nv.use[j].getLsbD 2 &&
      s.keyStored j && ecdsaOk hash s.nv.store[j] (beBytes 32 r.toNat) (beBytes 32 t.toNat))
    let s1 := { s with dbgNonce := none }
    if good then s1.putB SEC_DBG_AUTH_OK true else s1.addSat SEC_DBG_FAILS 1

/-- Register and JTAG access of a debugger is permitted (R388). -/
def debugPermitted (s : State) : Bool :=
  s.get SEC_DBG_LEVEL == 0 || (s.get SEC_DBG_LEVEL == 1 && s.isSet SEC_DBG_AUTH_OK)

/-! ### Boundary scan -/

/-- The lands of the boundary-scan register, lowest bit first (R392, R417; log entry 59): PAIR_PRIO, SPI0, SPI1, MGMT, IRQ0_N,
IRQ1_N, FAULT_N, RST_N, BOOT_SEL, TRIM_Z and TRIM_S. -/
def scanLands : List Nat := [30, 31, 32, 33, 34, 35, 36, 37, 38, 41, 42, 43, 44, 45, 46, 49, 50, 51, 52, 53, 54, 55, 56, 57]

/-- RST_N, BOOT_SEL and PAIR_PRIO are observe-only cells (R417). -/
def observeOnly : List Nat := [30, 31, 32, 54, 55]

/-- A scan of the JTAG port (R388, R416, R417): SAMPLE/PRELOAD and EXTEST capture the levels at the lands and take those shifted
in; EXTEST where the debug level does not permit it is BYPASS (log entry 59). -/
def jtagScan (s : State) (i : ScanInstr) (pins shift : BitVec 24) : State :=
  match (if i = .extest ∧ ! s.debugPermitted then .bypass else i : ScanInstr) with
  | .bypass => { s with scan := { s.scan with instr := .bypass, out := 0 } }
  | .idcode => { s with scan := { s.scan with instr := .idcode, out := s.word SYS_IDCODE_IDCODE.addr } }
  | j => { s with scan := { instr := j, out := pins.setWidth 32, latch := shift } }

/-- Test-Logic-Reset of the TAP (IEEE 1149.1, which R416 names): IDCODE is the instruction, and EXTEST drives no longer. -/
def tapReset (s : State) : State := { s with scan := { s.scan with instr := .idcode } }

/-- The level EXTEST drives on a land (R417), while the debug level permits it (R388); none where the device drives it, or an
observe-only cell is there. -/
def scanDrives (s : State) (land : Nat) : Option Bool :=
  if s.scan.instr ≠ .extest ∨ ¬ s.debugPermitted ∨ observeOnly.contains land then none
  else (scanLands.idxOf? land).map (fun i => s.scan.latch.getLsbD i)

/-- The size of a readable NV region; 0 for the others (R430). -/
def regionSize (r : Nat) : Nat :=
  match r with
  | 0 => 0x40000
  | 1 | 2 => 0x60000
  | 3 | 4 => 0x70000
  | 5 => 0x610
  | _ => 0

/-- Where a readable region lies in NV memory (R430). -/
def regionBase (r : Nat) : Nat :=
  match r with
  | 0 => 0x1A0000
  | 1 => 0
  | 2 => 0x60000
  | 3 => 0xC0000
  | 4 => 0x130000
  | _ => 0x1F0000

/-- The OTP identity and rows at offsets 0x0000 to 0x060F (R431). -/
def otpByte (s : State) (o : Nat) : Byte :=
  let rev := s.word 4
  let ident : List Byte := s.uidBytes ++ leBytes 4 0x4C4A3240 ++ [BitVec.ofNat 8 (bits rev 0 8), BitVec.ofNat 8 (bits rev 8 8),
    BitVec.ofNat 8 (bits rev 16 8), 0] ++ (List.range 12).map Config.otpLot
  if o < 0x1C then ident.getD o 0
  else if o < 0x20 then (wordBytes (crc32 ident)).getD (o - 0x1C) 0
  else if 0x100 ≤ o ∧ o < 0x200 then
    let k : Fin 4 := Fin.ofNat 4 ((o - 0x100) / 0x40)
    let i := o % 0x40
    if i < 0x20 then s.nv.hash[k].getD i 0
    else if i = 0x20 then (s.nv.use[k]).setWidth 8
    else if i = 0x28 then (if s.nv.revoked[k] then 1 else 0)
    else 0
  else if o % 8 ≠ 0 then 0
  else if 0x200 ≤ o ∧ o < 0x400 then (if s.nv.fwBits.getLsbD ((o - 0x200) / 8) then 1 else 0)
  else if 0x400 ≤ o ∧ o < 0x600 then (if s.nv.fabBits.getLsbD ((o - 0x400) / 8) then 1 else 0)
  else if 0x600 ≤ o ∧ o < 0x610 then (if s.nv.dbgBits.getLsbD ((o - 0x600) / 8) then 1 else 0)
  else 0

/-- A byte of a readable NV region (R430); what has not been programmed reads as erased. -/
def regionByte (s : State) (r o : Nat) : Byte :=
  match r with
  | 0 => (s.nv.log[o / 4096]?.getD {}).bytes.getD (o % 4096) Config.erasedByte
  | 1 => s.nv.fab[(0 : Fin 2)].getD o Config.erasedByte
  | 2 => s.nv.fab[(1 : Fin 2)].getD o Config.erasedByte
  | 3 => s.nv.fw[(0 : Fin 2)].getD o Config.erasedByte
  | 4 => s.nv.fw[(1 : Fin 2)].getD o Config.erasedByte
  | _ => s.otpByte o

/-- The values of an NV read are accepted (R430, table NVM RD_CTRL): a readable region, offsets and length that fit the
region and the 64 KiB mailbox. -/
def nvReadOk (s : State) (region : Nat) : Bool :=
  let o := s.get NVM_RD_OFS_OFS
  let l := s.get NVM_RD_LEN_LEN
  let m := s.get NVM_RD_LEN_MB_OFS
  decide (region ≤ 5) && o % 4 == 0 && l % 4 == 0 && decide (4 ≤ l) && m % 4 == 0 && decide (o + l ≤ regionSize region) &&
    decide (m + l ≤ 0x10000)

/-- NV_READ (R430): RD_CTRL.START with a region. -/
def nvReadStart (s : State) (x : Seat) (region : Nat) : State :=
  let s1 := s.put NVM_RD_CTRL_REGION region
  if ! s.modeSeat x ∨ s.nvRead.isSome ∨ ! s.nvReadOk region then s
  else { s1 with nvRead := some {
    seat := x, region := region, ofs := s.get NVM_RD_OFS_OFS, len := s.get NVM_RD_LEN_LEN, mbOfs := s.get NVM_RD_LEN_MB_OFS } }

/-- NV_READ_DONE (R430): the bytes are in the seat's mailbox, or an error ended the read: an uncorrectable one, or another code of
NVM.STAT.ERR. -/
def nvReadDone (s : State) (err : Nat) : State :=
  match s.nvRead with
  | none => s
  | some r =>
    let s1 := ({ s with nvRead := none }).raiseLine 53 allSeats
    if err = 0 then s1.setBytes (0x1400000 + 0x10000 * r.seat.val + r.mbOfs) ((List.range r.len).map (fun i => s.regionByte r.region (r.ofs + i)))
    else s1.nvError err (regionBase r.region + r.ofs)

/-- The NV operation that runs (table NVM.STAT.OP): 0 none, 1 erase, 2 program, 3 read, 4 OTP. One that begins with an erase is
still at it or programs, a free value. -/
def nvmOp (s : State) : Nat :=
  let loads : Bool := match s.load with
    | some l => l.phase == .programming
    | none => false
  let fw : Bool := match s.fwLoad with
    | some l => l.phase == .programming
    | none => false
  let words : Option WordKind := match s.trimStore with
    | some (x, some _) => some (.trims x)
    | _ => if s.isSet SYS_CW_STORE_BUSY then some .cw else none
  let fold := s.candle.fold.isSome
  let erases := loads || fw || (fold && s.logTurns 1004) || words.any s.wordsTurn
  let sec : Nat := match s.secRun with
    | some (.store _ _) => 2
    | some _ => 4
    | none => 0
  if loads || fw || fold || words.isSome then (if erases && Config.nvErasing s.free then 1 else 2)
  else if sec ≠ 0 then sec
  else if s.nvRead.isSome then 3 else 0

/-- The configuration words staged (R426). -/
def cwStaged (s : State) : CwRec := {
  clkMode := s.get SYS_CW_CLK_CLK_MODE, xdrive := s.get SYS_CW_CLK_XDRIVE,
  seats := s.get SYS_CW_BOOT_VOTIVE_SEATS, autoLock := s.get SYS_CW_BOOT_AUTO_LOCK }

/-- The configuration words in force (R426). -/
def cwInForce (s : State) : CwRec := {
  clkMode := s.get SYS_CW_STAT_CLK_MODE, xdrive := s.get SYS_CW_STAT_XDRIVE,
  seats := s.get SYS_CW_STAT_VOTIVE_SEATS, autoLock := s.get SYS_CW_STAT_AUTO_LOCK }

/-- CW_STORE (R425, R427): the key has the staged words stored from the next commit on. -/
def cwStore (s : State) (x : Seat) : State :=
  if ! s.modeSeat x ∨ s.isSet SYS_LOCK_LOCKED ∨ s.isSet SYS_CW_STORE_BUSY then s
  else { s with commits := s.commits ++ [.cwStore] }

/-- The store of the staged words starts at its commit (R427). -/
def cwBegin (s : State) : State :=
  ((s.putB SYS_CW_STORE_BUSY true).putB SYS_CW_STORE_DONE false).putB SYS_CW_STORE_ERR false

/-- CW_STORE_DONE (R427): the new record is written completely, or the store fails with an NV error code. -/
def cwStoreDone (s : State) (err : Nat) : State :=
  if ¬ s.isSet SYS_CW_STORE_BUSY then s else
  let s1 := (s.putB SYS_CW_STORE_BUSY false).raiseLine 53 allSeats
  if err ≠ 0 then ((s1.wordFails .cw err).putB SYS_CW_STORE_ERR true).put SYS_CW_STORE_ERR_CODE err
  else
    let s2 := ((s1.modNv (fun n => { n with cw := some s.cwStaged })).putWord .cw).putB SYS_CW_STORE_DONE true
    s2.putB SYS_CW_STAT_PENDING (s.cwStaged != s.cwInForce)

/-- LOCK_KEY (R424): the key sets SYS.LOCK. -/
def lockKey (s : State) (x : Seat) : State := if s.modeSeat x then s.putB SYS_LOCK_LOCKED true else s

end State

end Sys2Proof.Machine
end

