-- ==== Sys2Proof/Machine/Outs.lean ====
section
/-!
DEFINITION. Writes of output values and adoption, from the side of the logic: the order of R33, the shadow of a direct
write (R37), the adopt handshake (R174), and a seat's refresh (R221).
-/

namespace Sys2Proof.Machine

namespace State

/-- PAIR.CFG pairs a bank. -/
def pairedBank (s : State) (b : Bank) : Bool := s.isSet PAIR_CFG_EN && (s.word PAIR_CFG_BANKS.addr).getLsbD (4 + b.val)

/-- The unit drives a bank: it is not paired, or the unit holds OWN_n (R33, R304). -/
def holdsBank (s : State) (b : Bank) : Bool := ! s.pairedBank b || s.isSet ⟨PAIR_OWN_HELD_0.addr, 8 * b.val + 2, 1⟩

/-- From HANDOVER_GO to its boundary B the active takes no new OUT values for its paired banks (R323). -/
def handingOver (s : State) (b : Bank) : Bool := s.pairedBank b && s.get PAIR_HANDOVER_STATE == 2

/-- The cell state refuses a write to OUT (R33 case 3). -/
def outBarred (s : State) (n : Chan) : Bool :=
  let st := s.get (CELL_STATE_STATE n)
  let ca := s.get (CELL_STATE_CAUSE n)
  family (s.lfn n) != 2 || (st != CellState.active.code && ! (st == CellState.safe.code && (ca == 3 || ca == 4))) ||
    ! s.holdsBank (bankOf n) || s.handingOver (bankOf n)

/-- The status code of a write to CELL[n].OUT, in the order of R33; 0 where it is accepted. -/
def outCheck (s : State) (x : Seat) (n : Chan) (w : Word) : Nat :=
  if s.owner n ≠ x then 0x07
  else if s.inStagedStep n then 0x0C
  else if s.outBarred n then 0x08
  else if ¬ s.isSet (CELL_STATE_ADOPTED n) then 0x09
  else if ! outOk (s.lfn n) (bits w 0 16) || bits w 16 16 != 0 then 0x0A
  else 0

/-- A word is accepted for a commit: the next one, or the one after where it came less than 2 us before it (R21, R37). -/
def postWord (s : State) (a : Nat) (w : Word) (late : Bool) : State :=
  if late then { s with shadowLate := assocInsert s.shadowLate a w } else { s with shadow := assocInsert s.shadow a w }

/-- A value is accepted for CELL[n].OUT. -/
def postOut (s : State) (n : Chan) (v : Nat) (late : Bool) : State :=
  s.postWord (CELL_OUT_VALUE n).addr (BitVec.ofNat 32 v) late

/-- An adoption takes effect at a commit (R31, R173, R174): the command word carries it, and the commanded value is the value
applied, unless a cause of the logic side keeps the cell in SAFE. OUT reads what the field die takes once it has reported it:
where a timed hold ends first, the safe value. -/
def adoptCell (s : State) (n : Chan) : State :=
  if s.isSet (CELL_STATE_ADOPTED n) then s
  else
    let s1 := if ! silenced (s.cell n) ∧ family (s.lfn n) = 2 then s.put (CELL_OUT_VALUE n) (adoptedValue (s.cell n)) else s
    s1.modLcell n (fun c => { c with adopt := true, syncing := decide (family (s.lfn n) = 2) })

/-- CELL_ADOPT (R174): the owner writes the TOKEN it read; the adoption waits for the commit. -/
def cellAdopt (s : State) (x : Seat) (n : Chan) (token : Nat) : State :=
  if s.inReset ∨ s.owner n ≠ x ∨ token ≠ s.get (CELL_STATE_TOKEN n) then s else { s with commits := s.commits ++ [.adopt n] }

/-- FAULT_CLR is accepted (R31): the cell is in FAULT; for a latched protection no latching condition is live; for a fuse
stall ten markers have arrived. -/
def faultClrOk (s : State) (n : Chan) : Bool :=
  let live := s.word (CELL_LIVE_OPEN_LOAD n).addr
  s.get (CELL_STATE_STATE n) == CellState.fault.code &&
    (if s.get (CELL_STATE_CAUSE n) = Cause.fuseStall.code then decide (10 ≤ (s.cell n).markers)
     else ! (live.getLsbD FL_ILIM || live.getLsbD FL_TSD || live.getLsbD FL_FUSE_TRIP || (s.cell n).live.getLsbD FL_FUSE_TRIP))

/-- FAULT_CLR of a cell by its owner (R31): the command word carries it; OUT is off. -/
def faultClr (s : State) (x : Seat) (n : Chan) : State :=
  if s.inReset ∨ s.owner n ≠ x ∨ ! s.faultClrOk n then s
  else (s.put (CELL_OUT_VALUE n) 0).modLcell n (fun c => { c with faultClr := true })

/-- A refresh of a seat, counted at the boundary that ends the cycle (R32, R221). -/
def refreshSeat (s : State) (x : Seat) : State := { s with seatFresh := s.seatFresh.set x true }

/-- A write of TIME_SET_LO, a step of device time, waits for the boundary (R286): no scheduled output is armed. -/
def schedArmed (s : State) : Bool := (List.range 8).any (fun k => s.isSet (RING_SCHED_CTRL_ARM k))

end State

end Sys2Proof.Machine
end

