-- ==== Sys2Proof/Machine/Ring.lean ====
section
/-!
DEFINITION. The Nymver ring (chapter 08): ports and bypass, the head's cycle with its Ring Node Table, a node's part in a
cycle, ring time, scheduled outputs and the command channels.
-/

namespace Sys2Proof.Machine

/-- The base of sector k of the process image (R225). -/
def sectorBase (k : Nat) : Nat := 0x1000000 + 0x400 * k

/-- The next GEN of a published sector: 2U, where U wraps from 2^31 - 1 back to 1 (R228). -/
def nextGen (g : Nat) : Nat := if g ≥ 0xFFFFFFFE then 2 else g + 2

/-- One bit of a number. -/
def natBit (v i : Nat) : Bool := v / 2 ^ i % 2 == 1

/-- A number whose bits are those of a list of Booleans, the lowest first. -/
def ofBits (l : List Bool) : Nat := l.foldr (fun b v => b.toNat + 2 * v) 0

/-- The bytes of an identity report held in a sector's slots (R272). -/
def slotBytes (slots : List Nat) : List Byte := slots.flatMap (fun v => leBytes 2 v)

/-- A field of a byte string: n bytes from offset o, least significant first. -/
def leField (bs : List Byte) (o n : Nat) : Nat := leNat ((bs.drop o).take n)

/-- A byte string with the CRC-32 over it (R254). -/
def withCrc32 (bs : List Byte) : List Byte := bs ++ leBytes 4 (crc32 bs).toNat

/-- A byte string with the CRC-16 over it, least significant byte first (R254). -/
def withCrc16 (bs : List Byte) : List Byte := bs ++ leBytes 2 (crc16 bs).toNat

/-- A byte string ends in the CRC-32 over the rest. -/
def crc32Ends (bs : List Byte) : Bool := (crc32 (bs.take (bs.length - 4))).toNat == leField bs (bs.length - 4) 4

/-- A byte string ends in the CRC-16 over the rest. -/
def crc16Ends (bs : List Byte) : Bool := (crc16 (bs.take (bs.length - 2))).toNat == leField bs (bs.length - 2) 2

/-- The bytes of a service block (R258): unused payload bytes are 0. -/
def SvcMsg.bytes (m : SvcMsg) (pay : Nat) : List Byte :=
  withCrc32 (leBytes 1 m.stype ++ leBytes 1 m.flags ++ leBytes 2 m.addr ++ leBytes 2 m.tag ++ leBytes 2 m.frag ++
    leBytes 2 m.payload.length ++ [0, 0] ++ m.payload ++ List.replicate (pay - m.payload.length) 0)

/-- The service block in its bytes. -/
def svcOf (bs : List Byte) : SvcMsg := {
  stype := leField bs 0 1, flags := leField bs 1 1, addr := leField bs 2 2, tag := leField bs 4 2, frag := leField bs 6 2
  payload := (bs.drop 12).take (leField bs 8 2) }

/-- The bytes of a sector as the head writes it (R256). -/
def RSector.bytes (x : RSector) : List Byte :=
  withCrc16 (leBytes 2 x.addr ++ leBytes 2 x.hctl ++ [0, 0] ++ leBytes 2 x.slots.length ++ slotBytes x.slots)

/-- The header of a frame (R255). -/
def RFrame.header (f : RFrame) : List Byte :=
  withCrc32 (leBytes 1 f.ftype ++ leBytes 1 f.flags ++ leBytes 2 f.sectors.length ++ leBytes 4 f.cycleNo ++ leBytes 8 f.tSof ++
    leBytes 4 f.claim ++ leBytes 4 f.cycleT ++ leBytes 4 f.loopNs)

/-- The bytes of a frame between SOF and EOF (R254), with a service payload of `pay` bytes. -/
def RFrame.bytes (f : RFrame) (pay : Nat) : List Byte :=
  f.header ++ if f.ftype = 1 then f.sectors.flatMap RSector.bytes ++ f.svc.bytes pay else []

/-! The fields of a frame as a member meets it (R255). -/

def NodeFrame.ftype (f : NodeFrame) : Nat := leField f.bytes 0 1
def NodeFrame.flags (f : NodeFrame) : Nat := leField f.bytes 1 1
def NodeFrame.sectors (f : NodeFrame) : Nat := leField f.bytes 2 2
def NodeFrame.cycleNo (f : NodeFrame) : Nat := leField f.bytes 4 4
def NodeFrame.tSof (f : NodeFrame) : Nat := leField f.bytes 8 8
def NodeFrame.claim (f : NodeFrame) : Nat := leField f.bytes 16 4
def NodeFrame.cycleT (f : NodeFrame) : Nat := leField f.bytes 20 4
def NodeFrame.loopNs (f : NodeFrame) : Nat := leField f.bytes 24 4

/-- Half a cycle in ns (R296). -/
def halfCycle (cycleT : Nat) : Nat := 125 * cycleT / 8

/-- T_c of the frame's cycle (R262, R296): its T_SOF, half a cycle before it in a second copy. -/
def NodeFrame.tCycle (f : NodeFrame) : Nat :=
  if natBit f.flags 4 then (f.tSof + 18446744073709551616 - halfCycle f.cycleT) % 18446744073709551616 else f.tSof

/-- HCRC is correct. -/
def NodeFrame.hcrcOk (f : NodeFrame) : Bool := crc32Ends (f.bytes.take 32)

/-- The next so many sectors of a frame, and what follows them (R256). -/
def takeSectors : Nat → List Byte → List (List Byte) × List Byte
  | 0, bs => ([], bs)
  | n + 1, bs =>
    let len := 10 + 2 * (leField bs 6 2 % 128)
    let r := takeSectors n (bs.drop len)
    (bs.take len :: r.1, r.2)

/-- The sectors of a CYCLE frame and its service block. -/
def NodeFrame.body (f : NodeFrame) : List (List Byte) × List Byte := takeSectors f.sectors (f.bytes.drop 32)

/-- The address of a sector. -/
def sectorAddr (sec : List Byte) : Nat := leField sec 0 2 % 2048

/-- The points of a sector. -/
def sectorPts (sec : List Byte) : Nat := leField sec 6 2 % 128

/-- The slots of a sector. -/
def sectorSlots (sec : List Byte) : List Nat := (List.range (sectorPts sec)).map (fun p => leField sec (8 + 2 * p) 2)

/-- The sector with an address in a frame. -/
def NodeFrame.sectorFor (f : NodeFrame) (a : Nat) : Option (List Byte) := f.body.1.find? (fun sec => sectorAddr sec == a)

/-- The header of a frame that a member turns (R255, R280): OUTBOUND cleared, WRAPPED set, and HCRC changed by as much as the
CRC over the header changes. -/
def turnedHeader (h : List Byte) : List Byte :=
  let old := h.take 28
  let new := h.take 1 ++ leBytes 1 (leField h 1 1 / 2 * 2 ||| 2) ++ (h.take 28).drop 2
  new ++ leBytes 4 (BitVec.ofNat 32 (leField h 28 4) ^^^ crc32 old ^^^ crc32 new).toNat

/-- SCRC of a returned sector is correct. -/
def SectorCopy.crcOk (c : SectorCopy) : Bool := decide (10 ≤ c.bytes.length) && crc16Ends c.bytes

/-- NSW of a returned sector (R257). -/
def SectorCopy.nsw (c : SectorCopy) : Nat := leField c.bytes 2 2

/-- QSLICE of a returned sector, and the point group it is of (R256). -/
def SectorCopy.qslice (c : SectorCopy) : Nat := leField c.bytes 4 2
def SectorCopy.group (c : SectorCopy) : Nat := leField c.bytes 6 2 / 128 % 8

/-- A slot of a returned sector. -/
def SectorCopy.slot (c : SectorCopy) (p : Nat) : Nat := leField c.bytes (8 + 2 * p) 2

/-- A copy has been processed by its node, and its SCRC is correct. -/
def SectorCopy.processed (c : SectorCopy) : Bool := c.crcOk && natBit c.nsw 0

/-- The copy that the head publishes of those that have returned (R281). -/
def SectorIn.chosen (i : SectorIn) : Option SectorCopy :=
  match i.primary, i.second with
  | some p, some q => some (if q.processed && ! p.processed then q else p)
  | some p, none => some p
  | none, q => q

/-- The copies that have returned, each with the port it came back to: a turned copy to the port it left (R281). -/
def SectorIn.copies (i : SectorIn) : List (SectorCopy × Port) :=
  (i.primary.toList.map (fun c => (c, if c.wrapped then 1 else 0))) ++ (i.second.toList.map (fun c => (c, if c.wrapped then 0 else 1)))

/-- T_frame in ns for a list of point counts and a service payload (R264). -/
def frameNs (npts : List Nat) (svc : Nat) : Nat := 32 * (2 + 32 + (npts.map (fun n => 10 + 2 * n)).sum + 16 + svc)

/-- The addresses of the entries in use of a configuration, ascending (R254), among the words a table lists. -/
def usedEntries (v : Cfg) (keys : List Nat) : List Nat :=
  (List.range 2048).filter (fun k => decide (0 < k) && keys.contains (RNT_CTRL_IN_USE k).addr && v.get (RNT_CTRL_IN_USE k) == 1)

/-- CYCLE_T holds the frame with its loop (R264); in compatibility mode the limit is doubled (R296). -/
def cycleFits (v : Cfg) (keys : List Nat) : Bool :=
  let used := usedEntries v keys
  let need := frameNs (used.map (fun k => v.get (RNT_CTRL_NPTS k))) (v.get RING_CFG_SVC_PAY) + 320 * used.length + 5000
  let need := if v.get RING_CFG_COMPAT = 1 then 2 * need else need
  decide (4 * need ≤ 125 * v.get RING_CYCLE_CYCLE_T)

namespace State

/-- The ring part changed. -/
def modRing (s : State) (g : RingSt → RingSt) : State := { s with ring := g s.ring }

/-- A ring event (table RING.EVT): its bit, and line 50 when its enable is 1. -/
def ringEvt (s : State) (i : Nat) : State :=
  let was := (s.word RING_EVT_EVT.addr).getLsbD i
  let t := s.raiseBits RING_EVT_EVT.addr (1#32 <<< i)
  if ! was && (s.word RING_EVT_EN_EN.addr).getLsbD i then t.raiseLine 50 allSeats else t

/-- The role in effect is head (R244). -/
def isHead (s : State) : Bool := s.get RING_STAT_ROLE == 2

/-- The role in effect is node. -/
def isNode (s : State) : Bool := s.get RING_STAT_ROLE == 1

/-- The keys of the register file, where a table's words are. -/
def keys (s : State) : List Nat := s.regs.map (·.1)

/-- The Ring Node Table with the writes that wait for T_c. -/
def tableView (s : State) : Cfg := Cfg.overlay s.cfg s.ring.pend

/-- The entries in use. -/
def used (s : State) : List Nat := usedEntries s.cfg s.keys

/-- The device's identity. -/
def uid (s : State) : Nat := (s.word SYS_UID_LO_UID.addr).toNat + 4294967296 * (s.word SYS_UID_HI_UID.addr).toNat

/-- UNSYNC becomes 1 (R288): event UNSYNC. -/
def becomeUnsync (s : State) : State :=
  if s.isSet RING_STAT_UNSYNC then s else (s.putB RING_STAT_UNSYNC true).ringEvt 8

/-- Device time steps or slews by an error in ns, measured once per interval of `c` ns (R288, R313). -/
def steer (s : State) (e : Int) (c : Rat) : State :=
  if 1000000 < e.natAbs then
    let s2 := s.becomeUnsync
    if s2.schedArmed then s2.modRing (fun r => { r with ppb := if 0 < e then 500000 else -500000 })
    else s2.modRing (fun r => { r with step := some (false, e) })
  else
    let ppb : Int := if c = 0 then 0 else clampInt (-500000) 500000 (roundNear (1000000000 * (e : Rat) / (16 * c)))
    let s2 := s.modRing (fun r => { r with ppb := ppb })
    if e.natAbs ≤ 1000 then s2.putB RING_STAT_UNSYNC false else s2

/-- The pair part changed. -/
def modPair (s : State) (g : PairSt → PairSt) : State := { s with pair := g s.pair }

/-- A pair event (table EVT bit of the PAIR block): its bit, and line 51 when its enable is 1. -/
def pairEvt (s : State) (i : Nat) : State :=
  let was := (s.word PAIR_EVT_EVT.addr).getLsbD i
  let t := s.raiseBits PAIR_EVT_EVT.addr (1#32 <<< i)
  if ! was && (s.word PAIR_EVT_EN_EN.addr).getLsbD i then t.raiseLine 51 allSeats else t

/-- The unit holds a paired bank. -/
def holdsAny (s : State) : Bool := allBanks.any (fun b => s.pairedBank b && (s.bank b).holds)

/-- A head that finds CLAIM_LOW has lost class B (R320): it sends no further frame; every OWN_n it holds stays. -/
def demote (s : State) : State :=
  if ! s.isHead ∨ s.pair.demoted then s
  else
    let s1 := (s.modPair (fun p => { p with demoted := true })).pairEvt 8
    if s1.isSet PAIR_CFG_EN ∧ s1.get PAIR_STAT_ROLE = 1 ∧ ! s1.holdsAny then s1.put PAIR_STAT_ROLE 2 else s1

/-! ### Ports and bypass -/

/-- The bypass closes (R248, R251): the member leaves the ring. -/
def bypassClose (s : State) : State :=
  if ! s.ring.bypassOpen then s
  else
    let s1 := s.modRing (fun r => { r with bypassOpen := false, accepted := [] })
    if s.isNode then s1.put RING_STAT_STATE 4 else s1

/-- A device whose role is node or head has its ports powered (R244, R358). -/
def ringOn (s : State) : Bool := ! s.inReset && s.get RING_STAT_ROLE != 0

/-- PORT_LOCK (R250): 64 code groups without error; how far the equaliser has come from EQ_START, where it starts adapting (R376),
the eye and the polarity found. -/
def portLock (s : State) (x : Port) (adapt : Int) (eye : Nat) (inv : Bool) : State :=
  if ! s.ringOn then s
  else
    let s1 := (s.putB (RING_PORT_STAT_LOCK x) true).putB (RING_PORT_STAT_UP x) true
    let eq := clampInt 0 255 ((s.get (CANDLE_RING_EQ_START x) : Int) + adapt)
    ((s1.put (RING_PORT_STAT_EQ x) eq.toNat).put (RING_PORT_STAT_EYE x) eye).putB (RING_PORT_STAT_POL_INV x) inv

/-- The code-group errors of a port's receive pair are counted (table RING.SYM_ERR), for Candle's hour too (R365). -/
def noteSymErr (s : State) (e : PortErrs) : State :=
  (s.addWrap (RING_SYM_ERR_CNT e.p) e.errs.toNat).modCandle (fun c => { c with
    hourErrs := c.hourErrs.set e.p (c.hourErrs[e.p] + e.errs.toNat) })

/-- PORT_LOCK_LOST (R250): what is in flight is lost; the port stays up for 100 us. -/
def portLockLost (s : State) (e : PortErrs) : State :=
  if ! s.ringOn then s else (s.noteSymErr e).putB (RING_PORT_STAT_LOCK e.p) false

/-- PORT_DOWN (R250, R280): the member stops driving the port and turns frames there. -/
def portDown (s : State) (e : PortErrs) : State :=
  let x := e.p
  if ! s.ringOn ∨ ¬ s.isSet (RING_PORT_STAT_UP x) then s
  else
    let s1 := (((s.noteSymErr e).putB (RING_PORT_STAT_UP x) false).putB (RING_PORT_STAT_TX_OFF x) true).addSat (RING_DOWN_CNT x) 1
    s1.putB (RING_PORT_STAT_WRAPPING x) s.ring.bypassOpen

/-- PORT_REDRIVE (R250): locked for 10 ms without a break. -/
def portRedrive (s : State) (x : Port) : State :=
  if ! s.ringOn ∨ ¬ s.isSet (RING_PORT_STAT_LOCK x) then s else s.putB (RING_PORT_STAT_TX_OFF x) false

/-- UNWRAP_FORWARD (R283): at the SOF of cycle c + 2 a turning member forwards through its ports again. -/
def unwrapForward (s : State) : State :=
  if ! s.ringOn ∨ s.ring.unwrapAt.isNone then s
  else (s.forEach (List.finRange 2) (fun (s : State) (x : Port) =>
    if s.isSet (RING_PORT_STAT_UP x) then s.putB (RING_PORT_STAT_WRAPPING x) false else s)).modRing (fun r =>
      { r with unwrapAt := if s.isHead then r.unwrapAt else none })

/-- BYPASS_OPEN (R251): at an EOF on port A receive. -/
def bypassOpen (s : State) : State :=
  if ! s.ringOn ∨ s.ring.bypassOpen ∨ s.mode = .boot ∨ ¬ s.isSet (RING_PORT_STAT_LOCK 0) ∨ ¬ s.isSet (RING_PORT_STAT_LOCK 1) ∨
      s.isSet CLKMON_STAT_SOURCE then s
  else
    let s1 := s.modRing (fun r => { r with bypassOpen := true })
    if s.isNode then s1.put RING_STAT_STATE (if s.get RING_NODE_ADDR = 0 then 5 else 6) else s1

/-! ### The head -/

/-- Whether the head sends frames (R248, R260): not a standby (R319), nor a head that has lost class B (R320), nor one whose bypass
is closed, which leaves its transmit lands undriven (R251, R402). -/
def sends (s : State) : Bool :=
  ! s.inReset && s.isHead && s.ring.bypassOpen && s.isSet RING_CTRL_RUN && ! s.pair.demoted && (! s.isSet PAIR_CFG_EN || s.get PAIR_STAT_ROLE == 1) && ! s.isSet CLKMON_STAT_SOURCE &&
    (s.mode == .startup || s.mode == .run || s.mode == .test || s.mode == .recovery)

/-- PRESENT counts the entries PRESENT or MISMATCH (table RING.STAT). -/
def notePresent (s : State) : State :=
  s.put RING_STAT_PRESENT ((s.used.filter (fun k => let n := s.get (RNT_STATUS_NSTATE k); n == 3 || n == 4)).length)

/-- RUN is cleared (R260, R263, table RING.STAT): the head stops, and begins anew when RUN is set; the sectors still out are
published as they return. -/
def ringStop (s : State) : State :=
  if ! s.isHead then s
  else ((s.put RING_STAT_STATE 0).putB RING_STAT_DUAL false).modRing (fun r => { r with
    started := false, dualDue := false, unwrapAt := none, wrapSeen := false, unreached := [] })

/-- A table word takes effect (R266): an entry that comes into use is ABSENT; one that leaves it is UNUSED, and the head
sends LEAVE; a changed expectation is judged again. -/
def applyEntry (s : State) (e : Nat × Word) : State :=
  let k := (e.1 - 0x100000) / 32
  let was := s.get (RNT_CTRL_IN_USE k)
  let old := s.word e.1
  let s1 := s.setWord e.1 e.2
  let now := s1.get (RNT_CTRL_IN_USE k)
  let o := e.1 % 32
  if was = 0 ∧ now = 1 then
    (s1.put (RNT_STATUS_NSTATE k) 1).modRing (fun r => { r with outValid := r.outValid.erase k, missed := r.missed.filter (fun m => m.1 != k) })
  else if was = 1 ∧ now = 0 then
    (s1.setWord (RNT_STATUS_NSTATE k).addr 0).modRing (fun r => { r with
      msgs := r.msgs ++ [{ stype := 4, addr := k }], out := r.out.erase k, outValid := r.outValid.erase k
      identReq := r.identReq.erase k, judged := r.judged.filter (fun j => j.1 != k), mism := r.mism.erase k
      unreached := r.unreached.filter (fun m => m.1 != k) })
  else if now = 1 ∧ ((old ≠ e.2 ∧ (o = 8 ∨ o = 12)) ∨ (o = 16 ∧ bits old 24 8 ≠ bits e.2 24 8)) then
    s1.modRing (fun r => { r with identReq := k :: r.identReq.erase k })
  else s1

/-- Judged entries are admitted, or admitted in mismatch; a change of the node's mismatch raises MISMATCH (R273). -/
def admitEntry (s : State) (j : Nat × Bool × Bool) : State :=
  let was := s.ring.mism.contains j.1
  let s1 := s.put (RNT_STATUS_NSTATE j.1) (if j.2.1 then 4 else 3)
  let s2 := if j.2.2 then s1.ringEvt 0 else s1
  let s3 := s2.modRing (fun r => { r with mism := if j.2.1 then j.1 :: r.mism.erase j.1 else r.mism.erase j.1 })
  if was ≠ j.2.1 then s3.ringEvt 2 else s3

/-- The oldest write of a sector's OUT words that is too young for a cycle starting at a ring time in ns (R261). -/
def lateOut (s : State) (tc k : Nat) : Option (Nat × Word × Bool × Nat) :=
  s.ring.outNew.find? (fun e => (e.1 - 0x1000000) / 0x400 == k && decide (tc < e.2.2.2 + 2000))

/-- HCTL of an entry in the cycle that starts at a ring time in ns (R257). -/
def hctl (s : State) (tc k : Nat) : Nat :=
  let n := s.get (RNT_STATUS_NSTATE k)
  let valid := match s.lateOut tc k with
    | some e => e.2.2.1
    | none => s.ring.outValid.contains k
  ofBits [false, n == 3 || n == 4, n == 4, valid, s.ring.identReq.contains k]

/-- An OUT word as it travels in the cycle that starts at a ring time in ns (R261). -/
def sentOut (s : State) (tc a : Nat) : Nat :=
  match s.ring.outNew.find? (fun e => e.1 == a && decide (tc < e.2.2.2 + 2000)) with
  | some e => bits e.2.1 0 16
  | none => bits (s.memWord a) 0 16

/-- A sector as the head writes it (R256, R261): the OUT words accepted at least 2 us before T_c, copied in one pass. -/
def headSector (s : State) (tc k : Nat) : RSector := {
  addr := k, hctl := s.hctl tc k
  slots := (List.range (s.get (RNT_CTRL_NPTS k))).map (fun p => s.sentOut tc (sectorBase k + 0x100 + 12 * p)) }

/-- The next fragment of a seat's command (R258, R292). -/
def fragment (s : State) (c : RCmd) : SvcMsg :=
  let pay := s.get RING_CFG_SVC_PAY
  let part := (c.req.drop c.sent).take pay
  { stype := 5, flags := ofBits [c.sent == 0, decide (c.req.length ≤ c.sent + pay)], addr := c.node, tag := c.tag,
    frag := c.sent / pay, payload := part }

/-- The next seat with a fragment to send, after the one served last (R259). -/
def nextCmd (s : State) : Option Seat :=
  ((List.range 4).map (fun i => (Fin.ofNat 4 (s.ring.rr + 1 + i) : Seat))).find? (fun x => match s.ring.cmds[x] with
    | some c => decide (c.sent < c.req.length)
    | none => false)

/-- The service block of a cycle (R259), and what waits taken off. -/
def chooseSvc (s : State) : SvcMsg × State :=
  let r := s.ring
  if s.get RING_CFG_JOIN_EVERY ≤ r.sinceEmpty + 1 then ({}, s.modRing (fun r => { r with sinceEmpty := 0 }))
  else match r.msgs with
    | m :: rest => (m, s.modRing (fun r => { r with msgs := rest, sinceEmpty := r.sinceEmpty + 1 }))
    | [] =>
      match s.nextCmd with
      | none => ({}, s.modRing (fun r => { r with sinceEmpty := 0 }))
      | some x =>
        match r.cmds[x] with
        | none => ({}, s)
        | some c =>
          let m := s.fragment c
          let c1 := { c with sent := c.sent + m.payload.length }
          let s1 := s.modRing (fun r => { r with cmds := r.cmds.set x (some c1), rr := x.val, sinceEmpty := r.sinceEmpty + 1 })
          (m, if c1.req.length ≤ c1.sent then s1.put (RING_CMD_STAT_STATE.ofSeat x) 2 else s1)

/-- T_frame and the margins as the head reports them (R264). -/
def noteMargins (s : State) (loopNs : Nat) : State :=
  let t := frameNs (s.used.map (fun k => s.get (RNT_CTRL_NPTS k))) (s.get RING_CFG_SVC_PAY)
  let c : Int := 125 * (s.ring.cycT : Int) / 4
  let s1 := (s.put RING_T_FRAME_NS t).put RING_LOOP_NS loopNs
  (s1.put RING_MARGIN_NS (toCode 32 (c - t - loopNs - 5000))).put RING_WRAP_MARGIN_NS (toCode 32 (c - t - 2 * loopNs - 5000))

/-- 4 T_c in ns of the next cycle (R260): CYCLE_T after the last, or the first T_0 after RUN was set; after an outage of the
clock the grid goes on (log entry 38). -/
def nextTc4 (s : State) : Nat :=
  let now4 := 4 * s.devTime s.now
  if ! s.ring.started then now4
  else
    let p := 125 * s.ring.cycT
    let t := s.ring.tc4 + p
    if p = 0 ∨ now4 ≤ t + p then t else t + (now4 - t) / p * p

/-- A cycle has begun: the running commands have taken one more (R292), and writes of OUT words older than 2 us have
travelled (R261). -/
def ageCycle (s : State) (tc : Nat) : State :=
  s.modRing (fun r => { r with
    cmds := r.cmds.map (fun c => c.map (fun c => { c with cycles := c.cycles + 1 }))
    outNew := r.outNew.filter (fun e => decide (tc < e.2.2.2 + 2000)) })

/-- The frames of a cycle (R260, R281, R283): the CYCLE frame of port B, and of port A its copy while DUAL is set, else a LINK
frame. UNWRAP is set two cycles before the ring forwards again. -/
def sendCycle (s : State) (c tc4 loopNs : Nat) (svc : SvcMsg) : State :=
  let tc := tc4 / 4
  let dual := s.isSet RING_STAT_DUAL
  let flags := ofBits [true, false, dual, s.isSet RING_CFG_COMPAT, false, s.ring.unwrapAt == some ((c + 2) % 4294967296)]
  let f : RFrame := {
    flags := flags, cycleNo := c, tSof := tc % 18446744073709551616, claim := s.get RING_CLAIM_CLAIM
    cycleT := s.ring.cycT, loopNs := loopNs, sectors := s.used.map (s.headSector tc), svc := svc }
  s.modRing (fun r => { r with
    started := true, cyc := (c + 1) % 4294967296, tc4 := tc4, sent := some f
    sentA := some (if dual then f else { f with ftype := 2, flags := ofBits [false, false, false, s.isSet RING_CFG_COMPAT], sectors := [], svc := {} })
    out := s.used, tried := [], short := false, identReq := [] })

/-- CYCLE_START (R260, R266, R281, R283): at T_c the head takes the table writes and CYCLE_T, acts on what it has judged
and sends its frames; `loopNs` is the loop delay measured. -/
def cycleStart (s : State) (loopNs : Nat) : State :=
  if ! s.sends then s
  else
    let tc4 := s.nextTc4
    let c := if s.ring.started then s.ring.cyc else 0
    let s1 := (s.ring.pend.foldl applyEntry s).modRing (fun r => { r with pend := [], cycT := s.get RING_CYCLE_CYCLE_T })
    let s2 := ((s1.ring.judged.foldl admitEntry s1).putB RING_STAT_DUAL (s.isSet RING_STAT_DUAL || s.ring.dualDue)).modRing (fun r =>
      { r with judged := [], dualDue := false })
    let ending := s2.ring.unwrapAt == some c
    let s3 := if ending then ((s2.putB RING_STAT_DUAL false).put RING_STAT_STATE 1).ringEvt 4 else s2
    let s4 := if s3.get RING_STAT_STATE = 0 then s3.put RING_STAT_STATE 1 else s3
    let s5 := if ending then s4.modRing (fun r => { r with unwrapAt := none, wrapSeen := false, unreached := [] }) else s4
    let (m, s6) := s5.chooseSvc
    ((s6.sendCycle c tc4 loopNs m).ageCycle (tc4 / 4)).notePresent.noteMargins loopNs

/-- The last sector of a cycle is published (R263, R283, R284): CYCLE_NO, DMA trigger 0x3, CYCLE_SHORT; no member reports
turning any more, and the head plans to end the wrap (a member LOST reports nothing); every admitted member is reached again, and the ring is BROKEN no
more. -/
def cycleEnd (s : State) : State :=
  if s.ring.out ≠ [] then s
  else
    let c := (s.ring.cyc + 4294967295) % 4294967296
    let s1 := (s.put RING_CYCLE_NO_CYCLE_NO c).dmaEdge 3 (fun _ => true)
    let s2 := if s.ring.short then s1.ringEvt 6 else s1
    let turning := s2.used.any (fun k => s2.isSet (RNT_STATUS_WRAP k) && s2.get (RNT_STATUS_NSTATE k) != 5)
    let s3 := if s2.get RING_STAT_STATE = 3 ∧ s2.ring.unreached = [] then s2.put RING_STAT_STATE 2 else s2
    let s4 := s3.modRing (fun r => { r with wrapSeen := r.wrapSeen || turning })
    if s4.get RING_STAT_STATE = 2 ∧ s4.ring.wrapSeen ∧ ¬ turning ∧ s4.ring.unwrapAt.isNone then
      s4.modRing (fun r => { r with unwrapAt := some ((r.cyc + 2) % 4294967296) })
    else s4

/-- The words of a remote sector after its header (R269), from the copy of it that has returned, where one has. -/
def publishSector (s : State) (k : Nat) (fresh : Bool) (i : Option SectorCopy) : State :=
  let b := sectorBase k
  let nst := s.get (RNT_STATUS_NSTATE k)
  let processed := i.any (·.processed)
  let nsw := i.elim 0 (·.nsw)
  let bit (j : Nat) : Bool := processed && natBit nsw j
  let stale := ! fresh || bit 5
  let nstat := ofBits [(nst == 3 || nst == 4) && processed, bit 2, bit 3, stale, bit 4, s.isSet (RNT_STATUS_BYPASSED k)] +
    256 * s.get (RNT_CTRL_NPTS k) + 65536 * s.get (RNT_CTRL_OWNER k)
  let st := if bit 2 then 4 else if bit 1 then 2 else 0
  let tc := s.ring.tc4 / 4
  let point (s : State) (p : Nat) : State :=
    let a := b + 0x100 + 12 * p
    let old := s.memWord (a + 8)
    let code := if processed ∧ p / 8 = i.elim 0 (·.group) then i.elim 0 (·.qslice) / 4 ^ (p % 8) % 4
      else if old.getLsbD 9 then 3 else if old.getLsbD 6 then 2 else if old.getLsbD 8 then 1 else 0
    let q := st + ofBits [false, false, false, stale, bit 2, bit 3, code == 2, bit 1, code == 1, code == 3]
    let s1 := if fresh then s.setMemWord (a + 4) (BitVec.ofNat 32 (i.elim 0 (·.slot p))) else s
    s1.setMemWord (a + 8) (BitVec.ofNat 32 q)
  let c := (s.ring.cyc + 4294967295) % 4294967296
  let s1 := s.forEach (List.range (s.get (RNT_CTRL_NPTS k))) point
  let s2 := s1.setMemWords (b + 4) [BitVec.ofNat 32 c, BitVec.ofNat 32 tc, BitVec.ofNat 32 (tc / 4294967296), BitVec.ofNat 32 nstat]
  s2.setMemWord b (BitVec.ofNat 32 (nextGen (s.memWord b).toNat))

/-- The reasons of a mismatch in an identity report (R273, R295): digest, firmware major, NPTS, type. -/
def whyMismatch (s : State) (k : Nat) (rep : List Byte) : Nat :=
  let u (o n : Nat) : Nat := leNat ((rep.drop o).take n)
  let be (o : Nat) : Nat := beNat ((rep.drop o).take 4)
  let hi := s.get (RNT_EXP_HI_DIGEST_HI k)
  let lo := s.get (RNT_EXP_LO_DIGEST_LO k)
  let maj := s.get (RNT_CTRL_EXP_FW_MAJOR k)
  ofBits [ (hi != 0 || lo != 0) && ! (hi == be 8 && lo == be 12), maj != 0xFF && maj != u 17 1,
    s.get (RNT_CTRL_NPTS k) != u 19 1, (u 16 1 == 2) != s.isSet (RNT_CTRL_COMPAT k)]

/-- An identity report of an entry is judged (R272, R273); the head acts in the next frame. -/
def judge (s : State) (k : Nat) (rep : List Byte) : State :=
  let u (o n : Nat) : Nat := leNat ((rep.drop o).take n)
  let was := s.get (RNT_STATUS_NSTATE k)
  if u 0 8 ≠ s.get (RNT_UID_LO_UID_LO k) + 4294967296 * s.get (RNT_UID_HI_UID_HI k) then
    s.modRing (fun r => { r with msgs := r.msgs ++ [{ stype := 4, addr := k }] })
  else
    let why := s.whyMismatch k rep
    let s1 := ((s.put (RNT_STATUS_FW_MAJOR k) (u 17 1)).put (RNT_STATUS_FW_MINOR k) (u 18 1)).put (RNT_STATUS_WHY k) why
    let s2 := ((s1.putB (RNT_STATUS_TXN k) (u 24 1 % 2 == 1)).put (RNT_CLAIM_VIEW_CLAIM k) (u 20 4)).put (RNT_LINK_DELAY k) (u 26 2)
    let s3 := s2.put (RNT_LINK_TYPE k) (u 16 1)
    let s4 := if was = 1 ∨ was = 5 then s3.put (RNT_STATUS_NSTATE k) 2 else s3
    s4.modRing (fun r => { r with judged := r.judged.filter (fun j => j.1 != k) ++ [(k, why != 0, was == 1)] })

/-- Cycles in a row an entry has gone unprocessed. -/
def missedOf (s : State) (k : Nat) : Nat := (s.ring.missed.find? (fun m => m.1 == k)).elim 0 (·.2)

/-- An entry's count of missed cycles replaced. -/
def setMissed (s : State) (k n : Nat) : State :=
  s.modRing (fun r => { r with missed := r.missed.filter (fun m => m.1 != k) ++ (if n = 0 then [] else [(k, n)]) })

/-- An admitted member was reached by neither copy of a DUAL cycle; after three such cycles the ring is BROKEN (R284). -/
def noteUnreached (s : State) (k : Nat) : State :=
  let st := s.get (RNT_STATUS_NSTATE k)
  if ! s.ring.sent.any (fun f => natBit f.flags 2) ∨ ¬ (st = 3 ∨ st = 4 ∨ st = 5) then s
  else
    let n := (s.ring.unreached.find? (fun m => m.1 == k)).elim 0 (·.2) + 1
    let s1 := s.modRing (fun r => { r with unreached := (k, min n 3) :: r.unreached.filter (fun m => m.1 != k) })
    if 3 ≤ n ∧ s1.get RING_STAT_STATE = 2 then (s1.put RING_STAT_STATE 3).ringEvt 5 else s1

/-- A sector was not processed in a cycle (R274, R284). -/
def missSector (s : State) (k : Nat) : State :=
  let n := s.missedOf k + 1
  let s1 := (s.setMissed k (min n 3)).noteUnreached k
  let st := s.get (RNT_STATUS_NSTATE k)
  if 3 ≤ n ∧ (st = 3 ∨ st = 4) then (s1.put (RNT_STATUS_NSTATE k) 5).ringEvt 1 else s1

/-- A CYCLE frame returned with WRAPPED (R281): DUAL sets with the next cycle. -/
def noteWrapped (s : State) : State :=
  let s1 := s.modRing (fun r => { r with dualDue := true })
  if s.get RING_STAT_STATE = 1 then (s1.put RING_STAT_STATE 2).ringEvt 3 else s1

/-- A copy of a sector has returned: WRAPPED of its frame, and a wrong SCRC is counted at the port it came back to (R265, R281,
table RING.CRC_ERR). -/
def noteCopy (s : State) (k : Nat) (e : SectorCopy × Port) : State :=
  let s1 := if e.1.wrapped then s.noteWrapped else s
  if e.1.crcOk then s1 else (s1.addSat (RNT_LINK_ERRS k) 1).addSat (RING_CRC_ERR_SECT e.2) 1

/-- What a processed sector tells the head of its node (R257, R272 to R274, R279, R320). -/
def noteProcessed (s : State) (k : Nat) (c : SectorCopy) : State :=
  let bit (j : Nat) : Bool := natBit c.nsw j
  let t := ((s.putB (RNT_STATUS_UNSYNC k) (bit 3)).putB (RNT_STATUS_CLAIM_LOW k) (bit 4)).putB (RNT_STATUS_WRAP k) (bit 11)
  let t := (t.putB (RNT_STATUS_BYPASSED k) false).setMissed k 0
  let t := t.modRing (fun r => { r with unreached := r.unreached.filter (fun m => m.1 != k) })
  let t := if bit 6 then t.judge k ((c.bytes.drop 8).take 28) else t
  let t := if bit 7 then t.modRing (fun r => { r with identReq := k :: r.identReq.erase k }) else t
  if bit 4 then (t.ringEvt 7).demote else t

/-- SECTOR_PUBLISH (R263, R269, R272 to R274, R279, R281, R320): a sector of the running cycle has returned. While DUAL is
set, a copy that is not processed is no more than noted until the other one has returned. -/
def sectorPublish (s : State) (k : Nat) (i : SectorIn) : State :=
  match i.chosen with
  | none => s
  | some c =>
    if s.inReset ∨ ! s.isHead ∨ ! s.ring.out.contains k then s
    else
      let s1 := i.copies.foldl (fun (s : State) (e : SectorCopy × Port) => s.noteCopy k e) s
      let only := (i.primary.isNone || i.second.isNone) && ! s.ring.tried.contains k
      if ! c.processed && only && s.ring.sent.any (fun f => natBit f.flags 2) then
        s1.modRing (fun r => { r with tried := k :: r.tried })
      else
        let s2 := s1.modRing (fun r => { r with out := r.out.erase k })
        let s3 := if c.processed then s2.noteProcessed k c
          else (if c.crcOk then s2.putB (RNT_STATUS_BYPASSED k) true else s2).missSector k
        (s3.publishSector k (c.processed && ! natBit c.nsw 6) (some c)).notePresent.cycleEnd

/-- SECTOR_LATE (R263, R274): not returned by T_{c+1} - 1 us, the sector is published as STALE. -/
def sectorLate (s : State) (k : Nat) : State :=
  if s.inReset ∨ ! s.isHead ∨ ! s.ring.out.contains k then s
  else
    let s1 := s.modRing (fun r => { r with out := r.out.erase k, short := true })
    let s2 := (s1.putB (RNT_STATUS_BYPASSED k) false).missSector k
    (s2.publishSector k false none).notePresent.cycleEnd

/-- HCTL of a sector as a standby has seen its CTL: the head's word, or what NSW of a node that has processed it tells (log
entry 58), with OUT_VALID of its mirror. -/
def hctlSeen (ctl : Nat) (outValid : Bool) : Nat :=
  if natBit ctl 0 then ofBits [false, ! natBit ctl 6, natBit ctl 2, outValid]
  else ofBits [false, natBit ctl 1, natBit ctl 2, outValid, natBit ctl 4]

/-- SECOND_COPY_START (R296): half a cycle after T_c the pair partner of a compatibility-mode head sends its copy of cycle c,
with the OUT values of its snapshot. -/
def secondCopyStart (s : State) (c : Nat) : State :=
  if s.inReset ∨ ¬ s.isSet RING_CFG_COMPAT ∨ s.get PAIR_STAT_ROLE ≠ 2 ∨ ¬ s.isSet PAIR_STAT_READY ∨ ¬ s.isHead then s
  else match s.ring.seen with
    | none => s
    | some (c0, tSof, ctls) =>
      if c0 ≠ c then s
      else
        let sector (e : Nat × Nat) : RSector :=
          { addr := e.1, hctl := hctlSeen e.2 (s.ring.outValid.contains e.1), slots := (s.headSector (2 ^ 64) e.1).slots }
        s.modRing (fun r => { r with sent := some {
          flags := ofBits [true, false, false, true, true], cycleNo := c, tSof := tSof + halfCycle (s.get RING_CYCLE_CYCLE_T), claim := s.get PAIR_PARTNER_CLAIM_CLAIM
          cycleT := s.get RING_CYCLE_CYCLE_T, loopNs := s.get RING_LOOP_NS, sectors := ctls.map sector, svc := {} } })

/-- JOIN_ANSWER (R270): the head answers a JOIN of a UID. -/
def joinAnswer (s : State) (uid : Nat) : State :=
  if ! s.sends then s
  else
    let lo := uid % 4294967296
    let hi := uid / 4294967296
    let nst (k : Nat) : Nat := s.get (RNT_STATUS_NSTATE k)
    let same (k : Nat) : Bool := s.get (RNT_UID_LO_UID_LO k) == lo && s.get (RNT_UID_HI_UID_HI k) == hi
    let assign (s : State) (k : Nat) : State :=
      s.modRing (fun r => { r with msgs := r.msgs ++ [{ stype := 2, addr := 0x7FF, payload := leBytes 8 uid ++ leBytes 2 k }] })
    let reject : State := s.modRing (fun r => { r with msgs := r.msgs ++ [{ stype := 3, addr := 0x7FF, payload := leBytes 8 uid }] })
    match s.used.find? same with
    | some k => if nst k = 2 ∨ nst k = 3 ∨ nst k = 4 then reject.ringEvt 10 else assign s k
    | none =>
      match s.used.find? (fun k => s.isSet (RNT_CTRL_BIND_ANY k) && (nst k == 1 || nst k == 5)) with
      | some k => assign (((s.put (RNT_UID_LO_UID_LO k) lo).put (RNT_UID_HI_UID_HI k) hi).putB (RNT_CTRL_BIND_ANY k) false) k
      | none => reject.ringEvt 9

/-- UID, COMPAT, NPTS or OWNER of an entry change (R266). -/
def entryRebound (old new : Cfg) (k : Nat) : Bool :=
  old.get (RNT_UID_LO_UID_LO k) != new.get (RNT_UID_LO_UID_LO k) || old.get (RNT_UID_HI_UID_HI k) != new.get (RNT_UID_HI_UID_HI k) ||
    old.get (RNT_CTRL_COMPAT k) != new.get (RNT_CTRL_COMPAT k) || old.get (RNT_CTRL_NPTS k) != new.get (RNT_CTRL_NPTS k) ||
    old.get (RNT_CTRL_OWNER k) != new.get (RNT_CTRL_OWNER k)

/-- The status code of a write of a table word (R265 to R267, R295); 0 where it is accepted. -/
def entryCheck (s : State) (a : Nat) (w : Word) : Nat :=
  let k := (a - 0x100000) / 32
  let o := a % 32
  if ! s.isHead then 0x08
  else if k = 0 ∨ 0x14 ≤ o then 0x06
  else
    let old := s.tableView
    let new := Cfg.overlay old [(a, w)]
    let used := old.get (RNT_CTRL_IN_USE k) == 1
    let setting := ! used && new.get (RNT_CTRL_IN_USE k) == 1
    let id (v : Cfg) (j : Nat) : Nat × Nat := (v.get (RNT_UID_LO_UID_LO j), v.get (RNT_UID_HI_UID_HI j))
    let npts := new.get (RNT_CTRL_NPTS k)
    let dup := id new k != (0, 0) && (usedEntries new (a :: (s.keys ++ s.ring.pend.map (·.1)))).any (fun j => j != k && id new j == id new k)
    if o = 0x10 ∧ w &&& ~~~ writableMask a ≠ 0 then 0x0A
    else if used ∧ entryRebound old new k then 0x0A
    else if new.get (RNT_CTRL_COMPAT k) = 1 ∧ new.get (RNT_CTRL_EXP_FW_MAJOR k) ≠ 0xFF then 0x0A
    else if setting ∧ (npts < 14 ∨ 64 < npts ∨ dup) then 0x0A
    else if setting ∧ new.get (RNT_CTRL_COMPAT k) = 1 ∧ ¬ s.isSet RING_CFG_COMPAT then 0x0A
    else if setting ∧ ! cycleFits new (a :: (s.keys ++ s.ring.pend.map (·.1))) then 0x0A
    else 0

/-- An accepted table word waits for the next T_c (R266). -/
def postEntry (s : State) (a : Nat) (w : Word) : State := s.modRing (fun r => { r with pend := r.pend ++ [(a, w)] })

/-- The table words of an applied image (R196, R266): a head takes them at the next T_c, and an entry in use whose UID, COMPAT, NPTS
or OWNER changes leaves its use before; on another role they are stored (DESIGN CHOICE, log entry 66). -/
def postNodes (s : State) (ws : List (Nat × Word)) : State :=
  if ! s.isHead then s.forEach ws (fun s e => s.setWord e.1 e.2)
  else
    let old := s.tableView
    let new := Cfg.overlay old ws
    let rebound (k : Nat) : Bool := old.get (RNT_CTRL_IN_USE k) == 1 && entryRebound old new k
    s.forEach (((ws.map (fun e => (e.1 - 0x100000) / 32))).eraseDups) (fun (s : State) (k : Nat) =>
      let a := (RNT_CTRL_IN_USE k).addr
      let mine := (ws.filter (fun e => (e.1 - 0x100000) / 32 == k)).filter (fun e => e.1 != a)
      let s1 := if rebound k then s.postEntry a (old a &&& ~~~ 1#32) else s
      let s2 := s1.forEach mine (fun s e => s.postEntry e.1 e.2)
      if rebound k ∨ old a ≠ new a then s2.postEntry a (new a) else s2)

/-- NODE_TABLE_WRITE (R265, R266): a seat writes word i of entry k. -/
def nodeTableWrite (s : State) (x : Seat) (k : Fin 2048) (i : Fin 8) (w : Word) : State :=
  let a := 0x100000 + 32 * k.val + 4 * i.val
  if s.inReset ∨ s.mode = .boot ∨ s.mode = .votive ∨ ! s.modeSeat x ∨ s.entryCheck a w ≠ 0 then s else s.postEntry a w

/-- What a write of the RING block is refused for beside its own values (R264, R296); 0 where it is accepted. -/
def ringRegCheck (s : State) (a : Nat) (w : Word) : Nat :=
  if a = 0x80000 ∨ a = 0x80004 then
    let new := Cfg.overlay s.cfg [(a, w)]
    if a = 0x80000 ∧ s.isSet RING_CTRL_RUN ∧ new.get RING_CFG_COMPAT ≠ s.get RING_CFG_COMPAT then 0x08
    else if ! cycleFits (Cfg.overlay s.tableView [(a, w)]) (s.keys ++ s.ring.pend.map (·.1)) then 0x0A
    else 0
  else if a = 0x80034 ∧ ! signedIn 17 (bits w 0 17) (-50000) 50000 then 0x0A
  else if a = 0x80034 ∧ s.isNode then 0x08
  else 0

/-! ### The command channels -/

/-- A command of a seat ends with a code (R292); 0 is DONE. -/
def cmdFinish (s : State) (x : Seat) (code : Nat) : State :=
  let s1 := s.modRing (fun r => { r with cmds := r.cmds.set x none })
  ((s1.put (RING_CMD_STAT_STATE.ofSeat x) (if code = 0 then 3 else 4)).put (RING_CMD_STAT_CODE.ofSeat x) code).ringEvt 11

/-- CMD_START (R292). -/
def cmdStart (s : State) (x : Seat) : State :=
  if s.inReset ∨ ! s.isHead then s
  else if s.ring.cmds[x].isSome then s.put (RING_CMD_STAT_CODE.ofSeat x) 5
  else
    let node := s.get (RING_CMD_NODE_ADDR.ofSeat x)
    let len := s.get (RING_CMD_REQ_LEN.ofSeat x)
    let st := s.get (RNT_STATUS_NSTATE node)
    if ¬ (st = 3 ∨ st = 4) then s.cmdFinish x 1
    else if len < 9 ∨ 1033 < len then s.cmdFinish x 4
    else
      let base := 0x1400000 + 0x10000 * x.val + s.get (RING_CMD_REQ_OFS.ofSeat x)
      let tag := (s.ring.tag + 1) % 65536
      let c : RCmd := { tag := tag, node := node, req := (List.range len).map (fun i => s.byteAt (base + i)) }
      let s1 := s.modRing (fun r => { r with cmds := r.cmds.set x (some c), tag := tag })
      ((s1.put (RING_CMD_STAT_STATE.ofSeat x) 1).put (RING_CMD_STAT_CODE.ofSeat x) 0).put (RING_CMD_STAT_TAG.ofSeat x) tag

/-- CMD_ABORT (R292). -/
def cmdAbort (s : State) (x : Seat) : State := if s.inReset ∨ s.ring.cmds[x].isNone then s else s.cmdFinish x 3

/-- CMD_TIMEOUT (R292): not completed within CMD_TMO cycles. -/
def cmdTimeout (s : State) (x : Seat) : State :=
  if s.inReset then s
  else match s.ring.cmds[x] with
    | none => s
    | some c => if c.cycles < s.get (RING_CMD_TMO_CYCLES.ofSeat x) then s else s.cmdFinish x 2

/-- The response in the RSP fragments of a node under a tag, in FRAG order from FIRST to LAST (R258, R292); none where one is
missing. -/
def reassemble (node tag : Nat) : Nat → List SvcMsg → Option (List Byte)
  | _, [] => none
  | k, m :: rest =>
    if m.stype ≠ 6 ∨ m.addr ≠ node ∨ m.tag ≠ tag ∨ m.frag ≠ k ∨ natBit m.flags 0 ≠ (k == 0) then none
    else if natBit m.flags 1 then (if rest.isEmpty then some m.payload else none)
    else (reassemble node tag (k + 1) rest).map (m.payload ++ ·)

/-- CMD_DONE (R292): the RSP fragments of a command all sent are reassembled, and the response is written into the seat's
mailbox. -/
def cmdDone (s : State) (x : Seat) (frags : List SvcMsg) : State :=
  if s.inReset then s
  else match s.ring.cmds[x] with
    | none => s
    | some c =>
      if c.sent < c.req.length then s
      else match State.reassemble c.node c.tag 0 frags with
        | none => s
        | some rsp =>
          let o := s.get (RING_CMD_RSP_OFS.ofSeat x)
          let s1 := s.setBytes (0x1400000 + 0x10000 * x.val + o) (rsp.take (0x10000 - o))
          (s1.put (RING_CMD_RSP_LEN.ofSeat x) (min rsp.length 2047)).cmdFinish x 0

/-! ### A node -/

/-- The identity a node reports (R272). -/
def identity (s : State) : List Byte × Nat × Nat × Nat :=
  let zero := s.isSet FABRIC_STAT_RECONCILE_PENDING
  let d : List Byte := if zero then List.replicate 8 0 else beBytes 4 (s.get FABRIC_DIGEST_HI_HI) ++ beBytes 4 (s.get FABRIC_DIGEST_LO_LO)
  (d, s.get NVM_FW_ACTIVE_MAJOR + 256 * s.get NVM_FW_ACTIVE_MINOR, s.get RING_CLAIM_CLAIM,
    ofBits [s.isSet FABRIC_STAT_TXN_SINCE_IMAGE, zero])

/-- The bytes of the identity report (R272). -/
def identityBytes (s : State) : List Byte :=
  let i := s.identity
  leBytes 8 s.uid ++ i.1 ++ [1] ++ leBytes 2 i.2.1 ++ [64] ++ leBytes 4 i.2.2.1 ++ leBytes 1 i.2.2.2 ++ [0] ++
    leBytes 2 (min (s.get RING_DELAY_P_NS / 20) 0xFFFF)

/-- A node that its bypass lets take part in the ring (R251). -/
def nodeIn (s : State) : Bool := ! s.inReset && s.isNode && s.ring.bypassOpen && s.mode != .boot

/-- A node that may take part in cycles (R271). -/
def nodeRuns (s : State) : Bool := s.nodeIn && s.get RING_NODE_ADDR != 0

/-- The delays of a node (R287): the means over the last 64 cycles that had both SOFs. -/
def noteDelay (s : State) (loop : Int) (t u : Nat) : State :=
  let l : List (Int × Int) := ((loop - 320 + t - u, loop - 320) :: s.ring.delays).take 64
  let sum (g : Int × Int → Int) : Int := (l.map g).foldl (· + ·) 0
  let n : Int := 2 * (l.length : Int)
  let s1 := (s.modRing (fun r => { r with delays := l })).put RING_DELAY_P_NS (toCode 32 (sum (·.1) / n))
  s1.put RING_DELAY_S_NS (toCode 32 ((2 * sum (·.2) - sum (·.1)) / n))

/-- The SOFs from which a node measures its delay (R287): of the CYCLE frame of a cycle at port A and of its LINK frame at port B;
none while DUAL is set. -/
def noteSof (s : State) (f : NodeFrame) : State :=
  let t := s.devTimeNs f.arrNs.val
  let s1 := s.modRing (fun r =>
    if f.ftype = 1 ∧ f.port = 0 ∧ natBit f.flags 0 then { r with cycAt := some (f.cycleNo, t, f.loopNs, natBit f.flags 2) }
    else if f.ftype = 2 ∧ f.port = 1 then { r with linkAt := some (f.cycleNo, t) } else r)
  match s1.ring.cycAt, s1.ring.linkAt with
  | some (c, t, loop, dual), some (d, u) =>
    if c ≠ d ∨ dual then s1 else (s1.noteDelay loop t u).modRing (fun r => { r with linkAt := none })
  | _, _ => s1

/-- A node disciplines its device time at a processed SOF (R288). -/
def discipline (s : State) (f : NodeFrame) : State :=
  let d := signed 32 (s.get (if f.port = 0 then RING_DELAY_P_NS else RING_DELAY_S_NS))
  let e : Int := (f.tSof : Int) + d - s.devTimeNs f.arrNs.val
  ((s.modRing (fun r => { r with sofAt := s.now })).put RING_SYNC_ERR_NS (toCode 32 (clampInt (-2147483648) 2147483647 e))).steer
    e (125 * (f.cycleT : Rat) / 4)

/-- The cells of a node are held in MISMATCH, or released from it (R277, R278). -/
def setMismatch (s : State) (on : Bool) : State :=
  let was := s.isSet RING_NODE_MISMATCH
  let s1 := s.putB RING_NODE_MISMATCH on
  if on then s1.forEach allChans (fun s n =>
    if family (s.lfn n) = 2 then s.modLcell n (fun c => { c with mismatch := true }) else s)
  else if was then s1.forEach allChans (fun s n =>
    let c := s.lcell n
    if ! c.mismatch then s
    else
      let t := s.modLcell n (fun c => { c with mismatch := false })
      if c.cause = .none ∧ (s.cell n).adopted then t.put (CELL_OUT_VALUE n) (s.cell n).shown else t)
  else s1

/-- The attention code of a point of sector 0 (R256). -/
def attention (s : State) (p : Nat) : Nat :=
  let q := s.memWord (sectorBase 0 + 0x108 + 12 * p)
  if q.getLsbD 9 then 3 else if q.getLsbD 6 then 2 else if q.getLsbD 8 then 1 else 0

/-- The input slots of a node (R268). -/
def inSlotsOf (s : State) : List Nat :=
  (List.range 64).map (fun p => bits (s.memWord (sectorBase 0 + 0x104 + 12 * (p % 32))) (16 * (p / 32)) 16)

/-- Sector 0 as it stands, published at a device time. -/
def pubNow (s : State) (t : Nat) : Pub := {
  t := t, ins := s.inSlotsOf, att := (List.range 32).map s.attention, stale := (s.memWord (sectorBase 0 + 0x10)).getLsbD 3 }

/-- A node keeps what it has published as long as a frame of an earlier T_c may still come (R262): 2 ms, longer than the longest
loop of R245 and R247. -/
def notePub (s : State) (t : Nat) : State :=
  if ! s.isNode then s
  else s.modRing (fun r => { r with
    pubs := s.pubNow t :: r.pubs.take ((r.pubs.filter (fun p => decide (t < p.t + 2000000))).length + 1) })

/-- The inputs as last published at or before a ring time (R262). -/
def inputsAt (s : State) (t : Nat) : Pub :=
  (s.ring.pubs.find? (fun p => decide (p.t ≤ t))).getD { t := 0, ins := List.replicate 64 0, att := List.replicate 32 0, stale := false }

/-- A CMD fragment reaches its node (R293): a late one of a TAG it has discarded is ignored. -/
def takeFragment (s : State) (m : SvcMsg) : State :=
  let first := natBit m.flags 0
  let last := natBit m.flags 1
  let mine := s.ring.rx.any (fun r => r.1 == m.tag)
  if ! first ∧ ! mine then s else
  let got : Option (List Byte) :=
    if first then (if m.frag = 0 ∧ ! mine then some m.payload else none)
    else match s.ring.rx with
      | some (_, k, bs) => if k = m.frag then some (bs ++ m.payload) else none
      | none => none
  let s1 := if first then s.modRing (fun r => { r with cmdReady := none, upQ := r.upQ.filter (fun u => u.stype != 6) }) else s
  match got with
  | none => s1.modRing (fun r => { r with rx := none })
  | some bs =>
    if last then s1.modRing (fun r => { r with rx := none, cmdReady := some (m.tag, bs) })
    else s1.modRing (fun r => { r with rx := some (m.tag, m.frag + 1, bs) })

/-- A service block is for the node (R258, R259): LEAVE and CMD by its address, ASSIGN and REJECT by its UID. -/
def svcMine (s : State) (m : SvcMsg) : Bool :=
  ((m.stype == 4 || m.stype == 5) && s.get RING_NODE_ADDR != 0 && m.addr == s.get RING_NODE_ADDR) ||
    ((m.stype == 2 || m.stype == 3) && leNat (m.payload.take 8) == s.uid)

/-- The service block at a node (R259): a block for it is consumed, an EMPTY block filled, any other forwarded untouched; the
messages ASSIGN, REJECT and LEAVE act in their own steps. -/
def nodeService (s : State) (p : Port) (bs : List Byte) : State :=
  let m := svcOf bs
  if ! crc32Ends bs then (s.addSat (RING_CRC_ERR_SECT p) 1).modRing (fun r => { r with svcOut := m })
  else
    let s1 := if s.svcMine m ∧ m.stype = 5 then s.takeFragment m else s
    if s.svcMine m ∨ m.stype = 0 then
      match s1.ring.upQ with
      | [] => s1.modRing (fun r => { r with svcOut := {} })
      | u :: rest => s1.modRing (fun r => { r with svcOut := u, upQ := rest })
    else s1.modRing (fun r => { r with svcOut := m })

/-- The bytes of the service block a node sends on: those it met where it has left the block untouched. -/
def svcBytes (s : State) (bs : List Byte) : List Byte :=
  if s.ring.svcOut = svcOf bs then bs else s.ring.svcOut.bytes (bs.length - 16)

/-- The frame's claim is taken into the highest claim (R279). -/
def noteClaim (s : State) (f : NodeFrame) : State :=
  if s.get RING_CLAIM_CLAIM < f.claim then s.put RING_CLAIM_CLAIM f.claim else s

/-- A node is turning frames at a port that is not yet up and driven for 10 ms again (R250, R280, R283). -/
def turning (s : State) (p : Port) : Bool :=
  s.isSet (RING_PORT_STAT_WRAPPING p) && (s.isSet (RING_PORT_STAT_TX_OFF p) || ! s.isSet (RING_PORT_STAT_UP p))

/-- The port by which a frame leaves (R246, R280): the other one, or the one it came by where the member turns frames. -/
def leavesBy (s : State) (p : Port) : Port := if s.isSet (RING_PORT_STAT_WRAPPING (1 - p)) then p else 1 - p

/-- A member sends a frame on, with the bytes after its header (R255, R280): a CYCLE frame that is turned has its header
changed. -/
def forward (s : State) (f : NodeFrame) (rest : List Byte) : State :=
  let h := f.bytes.take 32
  let p := s.leavesBy f.port
  s.modRing (fun r => { r with fwd := some (p, (if p = f.port ∧ f.ftype = 1 then turnedHeader h else h) ++ rest) })

/-- A member sends a frame on as it came. -/
def forwardAll (s : State) (f : NodeFrame) : State := s.forward f (f.bytes.drop 32)

/-- A sector as a node returns it (R256): NSW, the attention codes of a point group, and the slots. -/
def nodeSectorBytes (sec : List Byte) (nsw qslice group : Nat) (slots : List Nat) : List Byte :=
  withCrc16 (sec.take 2 ++ leBytes 2 nsw ++ leBytes 2 qslice ++ leBytes 2 (sectorPts sec + 128 * group) ++ slotBytes slots)

/-- A node processes its sector (R256, R257, R262, R271, R272, R275, R277, R279). -/
def nodeSector (s : State) (f : NodeFrame) (sec : List Byte) : State :=
  let hctl := leField sec 2 2
  let good := crc16Ends sec
  let low := decide (f.claim < s.get RING_CLAIM_CLAIM)
  let admitted := natBit hctl 1
  let ident := ! admitted || natBit hctl 4
  let c := f.cycleNo
  let ok := s.mode == .startup || s.mode == .run || s.mode == .test || s.mode == .recovery
  let acc := admitted && ! natBit hctl 2 && natBit hctl 3 && ! low && good && ok && s.ring.lastAcc != some c
  let s1 := if good then s else s.addSat (RING_CRC_ERR_SECT f.port) 1
  let s2 := if good ∧ admitted then s1.setMismatch (natBit hctl 2) else s1
  let s3 := s2.put RING_STAT_STATE (if admitted then 7 else 6)
  let s4 := if acc ∨ (s3.isSet RING_NODE_MISMATCH ∧ ¬ low) then s3.refreshSeat 3 else s3
  let changed := s4.ring.reported.isSome && s4.ring.reported != some s4.identity
  let pub := s4.inputsAt f.tCycle
  let nsw := ofBits [true, acc, s4.isSet RING_NODE_MISMATCH, s4.isSet RING_STAT_UNSYNC, low, pub.stale, ident, changed] +
    256 * s4.get SYS_MODE_MODE + 2048 * (s4.turning 0 || s4.turning 1).toNat + 4096 * (! good).toNat
  let bs := s4.identityBytes
  let slots := (List.range (sectorPts sec)).map (fun p =>
    if ident then (bs.getD (2 * p) 0).toNat + 256 * (bs.getD (2 * p + 1) 0).toNat else pub.ins.getD p 0)
  s4.modRing (fun r => { r with
    lastCyc := some c, lastAcc := if acc then some c else r.lastAcc
    accepted := if acc then r.accepted ++ [(4 * f.tCycle + 125 * f.cycleT, sectorSlots sec)] else r.accepted
    reported := if ident then some s4.identity else r.reported, nsw := nsw, inSlots := slots })

/-- The sectors of a frame as a node sends them on: its own replaced (R256). -/
def sectorsOut (s : State) (f : NodeFrame) : List (List Byte) :=
  let g := f.cycleNo % 8
  let att := (s.inputsAt f.tCycle).att
  let q := (List.range 8).foldr (fun j v => att.getD (8 * g + j) 0 + 4 * v) 0
  f.body.1.map (fun sec => if sectorAddr sec = s.get RING_NODE_ADDR then nodeSectorBytes sec s.ring.nsw q g s.ring.inSlots else sec)

/-- The unit priority (R300). -/
def prio (s : State) : Nat := s.get PAIR_STAT_PRIO

/-- The unit's epoch, in its claim (R318). -/
def epoch (s : State) : Nat := s.get PAIR_CLAIM_CLAIM / 256

/-- The epoch changes (R318): the claim, its NV copy, and the claim a paired head sends. -/
def setEpoch (s : State) (e : Nat) : State :=
  let e := min e 0xFFFFFF
  let s1 := (s.put PAIR_CLAIM_CLAIM (256 * e + s.prio)).modNv (fun n => { n with epoch := e }) |>.putWord .epoch
  if s1.isHead then s1.put RING_CLAIM_CLAIM (256 * e + s.prio) else s1

/-- The epoch of a ring frame's claim is noted (R318); a unit starts from the first it sees after a full reset if that is the
largest it knows. -/
def noteRingEpoch (s : State) (e : Nat) : State :=
  let s1 := s.modPair (fun p => { p with ringEpoch := some (max (p.ringEpoch.getD 0) e) })
  if s.pair.ringEpoch.isNone ∧ s.epoch < e then s1.setEpoch e else s1

/-- A head that does not send, or that meets its partner's frame, forwards it untouched: a standby sees the claim, what the frame
carries, and disciplines its device time (R296, R318 to R320). -/
def standbyForward (s : State) (f : NodeFrame) : State :=
  if ! f.hcrcOk then (s.addSat (RING_CRC_ERR_HDR f.port) 1).forwardAll f
  else
    let s1 := s.noteRingEpoch (f.claim / 256)
    let s2 := (s1.noteSof f).forwardAll f
    if f.ftype = 1 ∧ natBit f.flags 0 ∧ ! s.sends then
      (s2.modRing (fun r => { r with seen := some (f.cycleNo, f.tSof, f.body.1.map (fun sec => (sectorAddr sec, leField sec 2 2))) })).discipline f
    else s2

/-- A CYCLE frame with a correct HCRC passes a node (R259, R262, R271, R283, R288): it processes its sector once per cycle, or in
both copies in compatibility mode, and the service block. -/
def nodeCycle (s : State) (f : NodeFrame) : State :=
  let s1 := s.put RING_LOOP_NS f.loopNs
  let s2 := s1.modRing (fun r => { r with
    seenCyc := f.cycleNo, unwrapAt := if natBit f.flags 5 ∧ r.unwrapAt.isNone then some ((f.cycleNo + 2) % 4294967296) else r.unwrapAt })
  let again := s2.ring.lastCyc = some f.cycleNo ∧ ! natBit f.flags 3
  let (s3, secs) := match f.sectorFor (s2.get RING_NODE_ADDR) with
    | some sec =>
      if ! s2.nodeRuns ∨ ! natBit f.flags 0 ∨ again then (s2, f.body.1)
      else
        let t := (s2.discipline f).nodeSector f sec
        (t, t.sectorsOut f)
    | none => (s2, f.body.1)
  let s4 := s3.nodeService f.port f.body.2
  s4.forward f (secs.flatten ++ s4.svcBytes f.body.2)

/-- A frame that the head has sent comes back to it, and is removed (R296): a wrong HCRC or a wrong CRC of the service block is
counted (table RING.CRC_ERR); the sectors are counted where they are published. -/
def ownFrame (s : State) (f : NodeFrame) : State :=
  if ! f.hcrcOk then s.addSat (RING_CRC_ERR_HDR f.port) 1
  else if f.ftype = 1 ∧ ! crc32Ends f.body.2 then s.addSat (RING_CRC_ERR_SECT f.port) 1
  else s

/-- NODE_SECTOR_PROCESS (R254, R255, R259, R262, R271, R275, R277, R279, R280, R283, R287, R288): a frame passes a node or a
standby. A node keeps the highest claim of every frame with a correct HCRC; behind a closed bypass it does no more. A frame
with a wrong HCRC, and one that is no CYCLE frame, is forwarded untouched. -/
def nodeSectorProcess (s : State) (f : NodeFrame) : State :=
  if ! s.inReset && s.isHead && s.ring.bypassOpen then
    (if s.sends == natBit f.flags 4 && s.isSet PAIR_CFG_EN then s.standbyForward f else s.ownFrame f)
  else if ! s.ringOn ∨ ! s.isNode then s
  else if ! f.hcrcOk then
    let s1 := s.addSat (RING_CRC_ERR_HDR f.port) 1
    if s.nodeIn then s1.forwardAll f else s1
  else
    let s1 := s.noteClaim f
    if ! s.nodeIn then s1
    else
      let s2 := s1.noteSof f
      if f.ftype = 1 then s2.nodeCycle f else s2.forwardAll f

/-- NODE_OUT_APPLY (R262, R275, R276): at the boundary at or after T_{c+1} each OUT value accepted in cycle c is a write of seat
3 to its cell; in the first accepted cycle the cells of seat 3 are adopted before. -/
def nodeOutApply (s : State) : State :=
  match s.ring.accepted with
  | [] => s
  | (t4, vs) :: rest =>
    if s.inReset ∨ 4 * s.devTime s.boundaryTime < t4 then s
    else
      let mine := allChans.filter (fun n => s.owner n == 3)
      let s1 := if s.ring.adoptDue then s.forEach mine (fun s n => (s.adoptCell n).putB (CELL_STATE_ADOPTED n) true) else s
      let s2 := s1.modRing (fun r => { r with accepted := rest, adoptDue := false })
      s2.forEach allChans (fun s n =>
        let v := vs.getD n.val 0
        if s.outCheck 3 n (BitVec.ofNat 32 v) = 0 then s.postOut n v false else s.addSat RING_NODE_OUT_REFUSED 1)

/-- A node without an address may ask for one (R270). -/
def mayJoin (s : State) : Bool :=
  ! s.inReset && s.isNode && s.ring.bypassOpen && s.get RING_NODE_ADDR == 0 && ! s.ring.rejected && s.mode != .boot

/-- The JOIN of a node goes out (R258, R270), in the EMPTY block of the frame it sends on. -/
def sendJoin (s : State) : State :=
  let m : SvcMsg := { stype := 1, addr := 0x7FF, payload := s.identityBytes }
  let pay := s.get RING_CFG_SVC_PAY
  s.modRing (fun r => { r with
    joinSent := true, joinCyc := r.seenCyc, svcOut := m, fwd := r.fwd.map (fun e => (e.1, e.2.take (e.2.length - (16 + pay)) ++ m.bytes pay)) })

/-- JOIN_SEND (R270): in the first EMPTY block. -/
def joinSend (s : State) : State := if s.mayJoin ∧ ! s.ring.joinSent then s.sendJoin else s

/-- The cycles since the JOIN went out, by the frames met (R270). -/
def joinAge (s : State) : Nat := (s.ring.seenCyc + 4294967296 - s.ring.joinCyc) % 4294967296

/-- JOIN_RETRY (R270): no answer within 64 cycles. -/
def joinRetry (s : State) : State := if s.mayJoin ∧ s.ring.joinSent ∧ 64 ≤ s.joinAge then s.sendJoin else s

/-- ASSIGN_RECEIVED (R259, R270). -/
def assignReceived (s : State) (uid addr : Nat) : State :=
  if s.inReset ∨ ! s.isNode ∨ ! s.ring.bypassOpen ∨ uid ≠ s.uid then s
  else ((s.put RING_NODE_ADDR addr).put RING_STAT_STATE 6).modRing (fun r => { r with joinSent := false })

/-- REJECT_RECEIVED (R270): the node waits 1 s. -/
def rejectReceived (s : State) (uid : Nat) : State :=
  if s.inReset ∨ ! s.isNode ∨ ! s.ring.bypassOpen ∨ uid ≠ s.uid then s
  else s.modRing (fun r => { r with joinSent := false, rejected := true })

/-- REJECT_RETRY (R270): 1 s after a REJECT the node may join again. -/
def rejectRetry (s : State) : State := s.modRing (fun r => { r with rejected := false })

/-- LEAVE_RECEIVED (R270). -/
def leaveReceived (s : State) : State :=
  if ! s.nodeRuns then s
  else ((s.put RING_NODE_ADDR 0).put RING_STAT_STATE 5).modRing (fun r => { r with accepted := [], joinSent := false })

/-- HOLDOVER_UNSYNC (R249, R288): 10 s without a processed SOF. -/
def holdoverUnsync (s : State) : State :=
  if s.inReset ∨ ! s.isNode ∨ s.boundaryTime < s.ring.sofAt + 40000000 then s else s.becomeUnsync

/-- CLAIM_CLEAR (R279): the highest claim of a node is cleared. -/
def claimClear (s : State) (x : Seat) : State :=
  if s.inReset ∨ ! s.modeSeat x ∨ s.isHead then s else s.put RING_CLAIM_CLAIM 0

/-! ### Time and scheduled outputs -/

/-- The status code of a write of TIME_SET_LO (R286). -/
def timeSetCheck (s : State) : Nat := if s.isNode ∨ s.schedArmed then 0x08 else 0

/-- An accepted TIME_SET_LO steps device time at the next boundary and clears UNSYNC there. -/
def postTime (s : State) (lo : Word) : State :=
  let t : Int := (lo.toNat + 4294967296 * s.get RING_TIME_SET_HI_T : Nat)
  s.modRing (fun r => { r with step := some (true, t) })

/-- TIME_SET (R286). -/
def timeSet (s : State) (x : Seat) (lo : Word) : State :=
  if s.inReset ∨ s.mode = .boot ∨ s.mode = .votive ∨ ! s.modeSeat x ∨ s.timeSetCheck ≠ 0 then s else s.postTime lo

/-- The status code of arming entry k for a cell (R291, R298). -/
def schedCheck (s : State) (x : Seat) (k : Nat) (n : Chan) : Nat :=
  if s.isSet (RING_SCHED_CTRL_ARM k) ∧ s.get (RING_SCHED_CTRL_SEAT k) ≠ x.val then 0x07
  else if s.owner n ≠ x then 0x07
  else 0

/-- An entry is armed (R291), q quarters of a us into the fabric cycle. -/
def schedPost (s : State) (x : Seat) (k : Nat) (n : Chan) (q : Nat) : State :=
  let t := s.get (RING_SCHED_T_LO_T k) + 4294967296 * s.get (RING_SCHED_T_HI_T k)
  let s1 := ((s.put (RING_SCHED_CTRL_CH k) n.val).putB (RING_SCHED_CTRL_ARM k) true).put (RING_SCHED_CTRL_SEAT k) x.val
  ((s1.putB (RING_SCHED_CTRL_DONE k) false).putB (RING_SCHED_CTRL_ERR k) false).putB (RING_SCHED_CTRL_LATE k)
    (decide (t ≤ s.devTime (s.now + q)))

/-- SCHED_ARM (R291): a seat arms an entry with a cell; VALUE and T have been written. -/
def schedArm (s : State) (x : Seat) (k : Fin 8) (n : Chan) (q : Nat) : State :=
  if s.inReset ∨ s.mode = .boot ∨ s.mode = .votive ∨ s.schedCheck x k n ≠ 0 then s else s.schedPost x k n q

/-- SCHED_CANCEL (R291): only by the arming seat. -/
def schedCancel (s : State) (x : Seat) (k : Fin 8) : State :=
  if s.inReset ∨ ¬ s.isSet (RING_SCHED_CTRL_ARM k) ∨ s.get (RING_SCHED_CTRL_SEAT k) ≠ x.val then s
  else s.putB (RING_SCHED_CTRL_ARM k) false

/-- SCHED_APPLY (R291): at the boundary at or after T the value is a write of the arming seat, under R33. -/
def schedApply (s : State) (k : Fin 8) : State :=
  let t := s.get (RING_SCHED_T_LO_T k) + 4294967296 * s.get (RING_SCHED_T_HI_T k)
  if s.inReset ∨ ¬ s.isSet (RING_SCHED_CTRL_ARM k) ∨ s.devTime s.boundaryTime < t then s
  else
    let n : Chan := Fin.ofNat 32 (s.get (RING_SCHED_CTRL_CH k))
    let x : Seat := Fin.ofNat 4 (s.get (RING_SCHED_CTRL_SEAT k))
    let v := s.get (RING_SCHED_VAL_VALUE k)
    let s1 := s.putB (RING_SCHED_CTRL_ARM k) false
    let s2 := if s.outCheck x n (BitVec.ofNat 32 v) = 0 then (s1.postOut n v false).putB (RING_SCHED_CTRL_DONE k) true
      else s1.putB (RING_SCHED_CTRL_ERR k) true
    s2.ringEvt 12

/-- Device time is stepped by an amount in ns: the head's cycle grid goes with it (log entry 38). -/
def stepTime (s : State) (e : Int) : State :=
  let s1 := { s with timeAhead := s.timeAhead + e }.modRing (fun r => { r with step := none, tc4 := ((r.tc4 : Int) + 4 * e).toNat })
  s1.forEach allBanks (fun s b => s.modMeas b (fun m => { m with stepped := true }))

/-- Device time at a boundary (R286, R288, R289): boundaries fall on multiples of 10,000 ns; then a step that waits takes
effect. `t` is the time of the boundary in 0.25 us. -/
def timeBoundary (s : State) (t : Nat) : State :=
  let s1 := { s with timeAhead := s.timeAhead + s.lengthNs }
  match s1.ring.step with
  | none => s1
  | some (set, v) =>
    if set then (s1.stepTime (v - 250 * t - s1.timeAhead)).putB RING_STAT_UNSYNC false else s1.stepTime v

/-- The ring role is applied at boot (R244, R279, R349 step 9). -/
def ringBoot (s : State) : State :=
  let role := s.get RING_CFG_ROLE
  let s1 := s.put RING_STAT_ROLE role
  if role = 1 then s1.put RING_STAT_STATE 4
  else if role = 2 then
    (s1.forEach s1.used (fun s k => s.put (RNT_STATUS_NSTATE k) 1)).put RING_CLAIM_CLAIM (s.get PAIR_STAT_PRIO)
  else s1

end State

end Sys2Proof.Machine
end

