-- ==== Sys2Proof/Machine/Pair.lean ====
section
/-!
DEFINITION. Pairs (chapter 09): the interlock line and its takes and releases, the pair link with heartbeats and roles,
snapshots and the standby's mirror, claims, the planned handover, self-test and Beacon.
-/

namespace Sys2Proof.Machine

/-- A snapshot record (R315): header, and the payload padded to a multiple of 4. -/
def snapRec (rtype : Nat) (payload : List Byte) : List Byte :=
  leBytes 1 rtype ++ [0] ++ leBytes 2 payload.length ++ payload ++ List.replicate ((4 - payload.length % 4) % 4) 0

/-- A pair-link frame between SOF and EOF (R311): TYPE, FLAGS, LEN, the payload and the CRC-32 over them. -/
def pairFrame (ty : Nat) (payload : List Byte) : List Byte :=
  withCrc32 (leBytes 1 ty ++ [0] ++ leBytes 2 payload.length ++ payload)

/-- The payload of a received frame of a TYPE (R311): none where the CRC-32 is wrong, the TYPE another, or LEN not that of the
frame or none that the TYPE has. -/
def framePayload (ty : Nat) (lenOk : Nat → Bool) (f : List Byte) : Option (List Byte) :=
  let len := leField f 2 2
  if crc32Ends f ∧ leField f 0 1 = ty ∧ f.length = len + 8 ∧ lenOk len then some ((f.drop 4).take len) else none

/-- Whole records packed into the payloads of SNAP frames of at most 1,024 bytes (R311, R314). -/
def packRecs : List (List Byte) → List (List Byte)
  | [] => []
  | r :: t =>
    match packRecs t with
    | [] => [r]
    | p :: ps => if r.length + p.length ≤ 1024 then (r ++ p) :: ps else r :: p :: ps

/-- The records of a SNAP frame's payload, header and all (R315); a record that does not end within it takes the rest. -/
def splitRecs : Nat → List Byte → List (List Byte)
  | 0, _ => []
  | fuel + 1, bs =>
    if bs = [] then [] else
    let n := 4 + (leNat ((bs.drop 2).take 2) + 3) / 4 * 4
    bs.take n :: splitRecs fuel (bs.drop n)

/-- ns from the SOF to the EOF of a frame between them (R310, R311): a byte or ordered-set code group takes 80 ns. -/
def eofNs (f : List Byte) : Nat := 80 * (1 + f.length)

/-- A number in a record's payload. -/
def recU (p : List Byte) (o n : Nat) : Nat := leNat ((p.drop o).take n)

/-- A heartbeat's fields (R312). -/
def PairHb.ofBytes (p : List Byte) : PairHb :=
  let v (o n w : Nat) : BitVec w := BitVec.ofNat w (recU p o n)
  let flg := recU p 6 2
  { hbNo := v 0 4 32, role := v 4 1 2, prio := v 5 1 3, logicOk := natBit flg 0, ready := natBit flg 1, digestMatch := natBit flg 2,
    fwMatch := natBit flg 3, claim := v 8 4 32, own := v 0xC 4 32, snapSeq := v 0x10 4 32, uv := v 0x14 1 4,
    up := BitVec.ofNat 4 (recU p 0x14 1 / 16), tSof := v 0x18 8 64, echo := v 0x20 8 64 }

/-- The heartbeat that a frame carries (R311, R312). -/
def hbOf (f : List Byte) : Option PairHb := (framePayload 1 (· == 40) f).map PairHb.ofBytes

/-- The byte of PAIR.OWN a heartbeat reports for a bank (R312). -/
def PairHb.ownOf (h : PairHb) (b : Bank) : Nat := bits h.own (8 * b.val) 8

/-- The partner holds OWN_n. -/
def PairHb.holds (h : PairHb) (b : Bank) : Bool := natBit (h.ownOf b) 2

/-- The partner reads OWN_n as HIGH; UNDEFINED is treated as HIGH (R302). -/
def PairHb.high (h : PairHb) (b : Bank) : Bool := decide (2 ≤ h.ownOf b % 4)

/-- The partner, which holds OWN_n, sees this unit's pull-up, or applies its clamp (table PAIR.OWN). -/
def PairHb.seen (h : PairHb) (b : Bank) : Bool := natBit (h.ownOf b) 3
def PairHb.clamps (h : PairHb) (b : Bank) : Bool := natBit (h.ownOf b) 6

/-- The band in which a die finds OWN_n (R302), as the model settles it from the two heartbeats received last (DESIGN CHOICE,
log entry 63): LOW while a unit holds it, RELEASED while a clamp is applied, HIGH otherwise and when the holder no longer sees
this unit's pull-up. -/
def FBank.lineBand (k : FBank) (h : PairHb) (old : Option PairHb) (b : Bank) : LineBand :=
  let free : LineBand := if k.clamp || h.clamps b then .released else .high
  if k.holds && ! k.releasing then .low
  else if h.holds b then
    if h.clamps b then .released
    else if h.seen b then .low
    else if old.any (fun o => o.holds b && o.seen b) then (if k.clamp then .released else .high)
    else k.line
  else if old.any (fun o => ! o.holds b) then free
  else k.line

namespace State

/-! ### Claims -/

/-- The largest epoch the unit knows of (R318). -/
def topEpoch (s : State) : Nat :=
  max (max s.epoch s.nv.epoch) (max (s.pair.ringEpoch.getD 0) (s.get PAIR_PARTNER_CLAIM_CLAIM / 256))

/-- The epoch is raised to the largest known plus 1 (R318). -/
def raiseEpoch (s : State) : State := s.setEpoch (s.topEpoch + 1)

/-! ### Status -/

/-- The paired banks. -/
def pairedBanks (s : State) : List Bank := allBanks.filter s.pairedBank

/-- The pair link is up and heartbeats arrive (table PAIR.STAT LINK_UP). -/
def pairUp (s : State) : Bool := s.pair.lock && s.pair.alive

/-- The last heartbeat, while heartbeats arrive. -/
def partner (s : State) : Option PairHb := if s.pairUp then s.pair.hb else none

/-- A predicate on the partner's last heartbeat while heartbeats arrive; false otherwise. -/
def partnerIs (s : State) (p : PairHb → Bool) : Bool := s.partner.any p

/-- The eight bytes of the digest of the configuration in effect (R177). -/
def digestBytes (s : State) : List Byte := beBytes 4 (s.get FABRIC_DIGEST_HI_HI) ++ beBytes 4 (s.get FABRIC_DIGEST_LO_LO)

/-- The partner's digest, as far as it is known, equals the unit's. -/
def digestMatch (s : State) : Bool := s.pair.partnerDigest.all (fun d => d == s.digestBytes)

/-- The partner's firmware major version, as far as it is known, equals the unit's. -/
def fwMatch (s : State) : Bool := s.pair.partnerFw.all (fun v => v == s.get NVM_FW_ACTIVE_MAJOR)

/-- Digest or firmware major version differ (table PAIR.STAT DIGEST_DIFF), as either unit sees it. -/
def configDiffers (s : State) : Bool :=
  ! s.digestMatch || ! s.fwMatch || s.partnerIs (fun h => ! h.digestMatch || ! h.fwMatch)

/-- The snapshot period P in us (R314). -/
def snapPeriod (s : State) : Nat :=
  if s.isHead ∧ s.isSet RING_CTRL_RUN then max (s.get RING_CYCLE_CYCLE_T / 32) 1000 else 1000

/-- The age of the mirror in us at a device time in ns (table PAIR.SNAP_AGE). -/
def snapAge (s : State) (t : Nat) : Nat := match s.pair.taken with
  | none => 0xFFFFFFFF
  | some k => min ((t - k) / 1000) 0xFFFFFFFE

/-- OWN_n of a bank has failed a cold-take check or the comparison of the heartbeats. -/
def lineFault (s : State) (b : Bank) : Bool := s.pair.coldFault[b] || s.pair.cmpFault[b]

/-- A standby is READY for a bank (R323). -/
def readyBank (s : State) (b : Bank) : Bool :=
  s.pair.applied.isSome && ! s.pair.gap && decide (s.snapAge (s.devTime s.now) ≤ 2 * s.snapPeriod) &&
    ! s.configDiffers && (s.bank b).restoreMet && s.isSet (BANK_LINK_UP b) && s.pair.testFail == 0 && ! s.lineFault b

/-- What the unit reports of itself as READY (R312, R321): a standby for every paired bank, and a unit of divided ownership for
every paired bank that it does not hold. -/
def readySelf (s : State) : Bool :=
  (s.get PAIR_STAT_ROLE == 2 || s.isSet PAIR_STAT_SPLIT) && s.pairedBanks.all (fun b => (s.bank b).holds || s.readyBank b)

/-- Whether the unit sends snapshots: the active, and any holder while ownership is divided (R304, R314; DEDUCED, log entry
63). -/
def sendsSnaps (s : State) : Bool := s.get PAIR_STAT_ROLE == 1 || (s.isSet PAIR_STAT_SPLIT && s.holdsAny)

/-- Whether the unit takes snapshots: the standby, and either unit while ownership is divided. -/
def takesSnaps (s : State) : Bool := s.get PAIR_STAT_ROLE == 2 || s.isSet PAIR_STAT_SPLIT

/-- The last SEQ the unit has closed. -/
def lastClosed (s : State) : Nat := if s.get PAIR_STAT_ROLE = 1 then s.get PAIR_SNAP_SEQ_SEQ else s.pair.closed

/-- READY (table PAIR.STAT): of this unit as standby, of the partner as active. -/
def readyNow (s : State) : Bool :=
  match s.get PAIR_STAT_ROLE with
  | 2 => s.pairedBanks.all s.readyBank
  | 1 => s.partnerIs (fun h => h.ready)
  | _ => false

/-- Ownership is divided (R321). -/
def divided (s : State) (h : PairHb) : Bool :=
  let mine := s.pairedBanks.filter (fun b => (s.bank b).holds)
  let theirs := s.pairedBanks.filter h.holds
  let my := s.get PAIR_CLAIM_CLAIM
  mine.any (fun b => theirs.any (fun c => b != c)) || (! mine.isEmpty && decide (my < h.claim.toNat)) ||
    (! theirs.isEmpty && decide (h.claim.toNat < my))

/-- A status bit changes; its event when it becomes 1, or 0 (`edge`). -/
def pairStatus (s : State) (f : Fld) (v : Bool) (evt : Nat) (edge : Bool) : State :=
  let was := s.isSet f
  let s1 := s.putB f v
  if was ≠ v ∧ v = edge then s1.pairEvt evt else s1

/-- The unit has no mirror. -/
def dropMirror (s : State) : State :=
  s.modPair (fun p => { p with applied := none, taken := none, shadow := none, checked := none, gap := false })

/-- The unit qualifies to take a bank (R308): it is alone, no partner's heartbeat arriving, or a READY standby, or the incoming unit
of a planned handover, and its configuration matches the partner's as far as it is known. -/
def qualifies (s : State) (b : Bank) : Bool :=
  ! s.configDiffers && (s.pair.goAt.isSome ||
    match s.get PAIR_STAT_ROLE with
    | 1 => ! s.pair.alive
    | 2 => s.readyBank b
    | _ => false)

/-- The line of a bank as it is once this unit's clamp is gone. -/
def unclamped (s : State) (b : Bank) : LineBand :=
  if s.partnerIs (fun h => h.clamps b) then .released
  else if (s.bank b).line = .low ∨ s.partnerIs (fun h => h.holds b) then .low else .high

/-- What the logic side commands a bank's interlock (R305, R308): TAKE_ENABLE and TAKE_REQ_OUT reach a field die that
takes its commands; a standby removes its own clamp, which leaves a line that nobody holds HIGH (R307). -/
def commandBank (s : State) (b : Bank) : State :=
  let p := s.pair
  let k := s.bank b
  let en := ! k.holds && s.qualifies b
  let asks := en && ! p.demoted && ((p.lost && ! s.pairUp) || s.partnerIs (fun h => h.uv.getLsbD b.val || ! h.up.getLsbD b.val))
  let s1 := s.modPair (fun p => { p with enable := p.enable.set b en, req := p.req.set b asks })
  if ! k.running ∨ k.lost ∨ ! k.paired then s1
  else
    let drop := s.get PAIR_STAT_ROLE == 2 && ! k.holds && ! k.releasing && k.clamp
    s1.modBank b (fun k => { k with
      takeEnable := en, takeReqOut := asks, clamp := k.clamp && ! drop, line := if drop then s.unclamped b else k.line })

/-- A handover ends (R323): its STATE and CODE, and the event. -/
def handoverEnds (s : State) (state code : Nat) : State :=
  ((s.put PAIR_HANDOVER_STATE state).put PAIR_HANDOVER_CODE code).pairEvt 2

/-- A handover that cannot go on before its boundary B fails (R323), at the active unit and at the incoming one. -/
def handoverCheck (s : State) : State :=
  let st := s.get PAIR_HANDOVER_STATE
  if s.pair.passed then s
  else if s.pair.goAt.isSome ∧ ¬ (s.pairUp ∧ s.readySelf) then s.modPair (fun p => { p with goAt := none, frozen := none, merging := false })
  else if ¬ (st = 1 ∨ st = 2) then s
  else if ! s.pairUp then s.handoverEnds 4 3
  else if ! s.partnerIs (fun h => h.ready) then s.handoverEnds 4 2
  else s

/-- Ownership is divided, or is no longer (R321): an active unit has no mirror yet of what its partner holds. -/
def noteSplit (s : State) (v : Bool) : State :=
  let s1 := if v ∧ ¬ s.isSet PAIR_STAT_SPLIT ∧ s.get PAIR_STAT_ROLE = 1 then s.dropMirror else s
  s1.pairStatus PAIR_STAT_SPLIT v 7 true

/-- The status of the pair is brought up to date (table PAIR.STAT), and what follows from it. -/
def pairNote (s : State) : State :=
  if ! s.isSet PAIR_CFG_EN ∨ s.inReset then s
  else
    let s1 := s.putB PAIR_STAT_LINK_UP s.pairUp
    let s2 := s1.pairStatus PAIR_STAT_READY s1.readyNow 6 false
    let s3 := match s2.partner with
      | some h => s2.noteSplit (s2.divided h)
      | none => s2
    let s4 := s3.pairStatus PAIR_STAT_DIGEST_DIFF s3.configDiffers 10 true
    let s5 := s4.forEach s4.pairedBanks (fun (s : State) (b : Bank) =>
      s.pairStatus ⟨PAIR_OWN_LINE_FAULT_0.addr, 8 * b.val + 7, 1⟩ (s.lineFault b) 9 true)
    let s6 := s5.forEach s5.pairedBanks commandBank
    let s7 := s6.forEach s6.pairedBanks (fun (s : State) (b : Bank) => s.showOwn b (s.bank b))
    (s7.putB PAIR_STAT_DEGRADED (! s7.pairUp || ! s7.isSet PAIR_STAT_READY || s7.isSet PAIR_STAT_SPLIT ||
      s7.pairedBanks.any s7.lineFault)).handoverCheck

/-! ### Roles -/

/-- The unit becomes ACTIVE (R319): a head goes on with the cycle grid of its mirror's RING record. -/
def becomeActive (s : State) : State :=
  let s1 := (s.put PAIR_STAT_ROLE 1).modPair (fun p => { p with wantBase := true, demoted := false, frozen := none })
  match (if s.get PAIR_STAT_ROLE = 1 then none else s.pair.ringNext) with
  | none => s1
  | some (cyc, tNext, flg) =>
    let t := 125 * s.get RING_CYCLE_CYCLE_T
    let now4 := 4 * s.devTime s.now
    let tc := if t = 0 ∨ now4 ≤ 4 * tNext then 4 * tNext else 4 * tNext + (now4 - 4 * tNext + t - 1) / t * t
    let s2 := s1.modRing (fun r => { r with started := true, cyc := cyc, tc4 := tc - t, cycT := s.get RING_CYCLE_CYCLE_T })
    s2.putB RING_STAT_DUAL (natBit flg 0)

/-- The unit becomes STANDBY: it has no mirror yet, and asks for a baseline. -/
def becomeStandby (s : State) : State := (s.put PAIR_STAT_ROLE 2).dropMirror

/-- The unit is alone (R308, R319): ACTIVE, with TAKE_ENABLE for its paired banks. -/
def goAlone (s : State) : State :=
  (s.put PAIR_STAT_ROLE 1).pairNote

/-- The roles are settled on a heartbeat (R299, R319). -/
def settleRole (s : State) (h : PairHb) : State :=
  let role := s.get PAIR_STAT_ROLE
  let held := s.pairedBanks.any h.holds
  if role = 3 then s
  else if h.prio.toNat = s.prio then s.put PAIR_STAT_ROLE 3
  else if s.mode = .boot ∨ s.mode = .votive then s
  else if role = 2 ∧ h.role = 2 ∧ ! held ∧ s.pair.goAt.isNone ∧ ! s.pair.passed ∧ h.claim.toNat < s.get PAIR_CLAIM_CLAIM then s.becomeActive
  else if role = 1 ∧ h.role = 1 ∧ s.get PAIR_CLAIM_CLAIM < h.claim.toNat ∧ ! s.holdsAny then s.becomeStandby
  else s

/-- The pair functions at boot (R299, R300, R318, R319 and R349 step 9): the straps are read; the epoch starts from the
largest known; a paired unit waits as STANDBY for its role. -/
def pairStart (s : State) : State :=
  if ! s.isSet PAIR_CFG_EN then s.put PAIR_STAT_ROLE 0
  else (s.put PAIR_STAT_ROLE (if s.get RING_CFG_ROLE = 1 then 3 else 2)).setEpoch s.topEpoch

/-- The straps are read at a full reset (R300). -/
def pairBoot (s : State) (prio : Fin 8) : State :=
  let s1 := s.put PAIR_STAT_PRIO prio.val
  (s1.put PAIR_CLAIM_CLAIM (256 * max s1.epoch s1.nv.epoch + prio.val)).pairStart

/-- On entry to STARTUP a unit without a partner's heartbeats is alone (R308), but where a partner holds a paired line (R319). -/
def pairStartup (s : State) : State :=
  if s.get PAIR_STAT_ROLE ≠ 2 then s
  else if ! s.pairUp then (if s.pairedBanks.any (fun b => (s.bank b).line == .low && ! (s.bank b).holds) then s else s.goAlone)
  else match s.pair.hb with
    | some h => (s.settleRole h).pairNote
    | none => s

/-- A write changes PAIR.CFG.EN. -/
def pairConfigured (s : State) (was : Bool) : State :=
  let now := s.isSet PAIR_CFG_EN
  if was = now then s
  else if now then (s.pairStart).pairStartup
  else ((s.put PAIR_STAT_ROLE 0).putB PAIR_STAT_DEGRADED false).dropMirror.modPair (fun p => { p with
    enable := Vector.replicate 4 false, req := Vector.replicate 4 false })

/-! ### The interlock -/

/-- A field die whose interlock runs (R305). -/
def interlocks (s : State) (b : Bank) : Bool := (s.bank b).running && (s.bank b).paired

/-- The stages of a bank's cells follow the interlock. -/
def settleBank (s : State) (b : Bank) : State := (s.forEach (bankChans b) (fun s n => s.settle n false)).railsUpdate b

/-- PAIR.OWN shows the interlock, on a logic side that runs and hears the die. -/
def noteOwn (s : State) (b : Bank) : State := if s.inReset ∨ ¬ s.isSet (BANK_LINK_UP b) then s else (s.showOwn b (s.bank b)).pairNote

/-- A holding die has reason to release (R305). -/
def releaseDue (k : FBank) : Bool :=
  (k.takeReqIn && (k.lost || k.uvLatched)) || (k.lost && k.pairHoldOver && k.partnerSeen) || k.releaseCmd

/-- A holding die releases with the clamp and the grace starts (R305, R306). -/
def release (s : State) (b : Bank) : State :=
  let s1 := s.modBank b (fun k => { k with releasing := true, graceAt := s.now, clamp := true, releaseCmd := false, line := .released })
  (if s1.inReset then s1 else s1.pairEvt 1).noteOwn b

/-- OWN_RELEASE (R305): the sink current tells whether the partner requests. -/
def ownRelease (s : State) (b : Bank) (takeReq : Bool) : State :=
  let k := { s.bank b with takeReqIn := takeReq }
  if ! s.interlocks b ∨ ! k.holds ∨ k.releasing ∨ ! releaseDue k then s
  else (s.modBank b (fun _ => k)).release b

/-- A take is recorded (R317): its cause, banks, count and the age of the mirror at device time t; takes of the same fabric
cycle are one. -/
def recordTake (s : State) (b : Bank) (cause t : Nat) : State :=
  let same := s.pair.takeCycle == some s.cycle
  let s1 := s.put PAIR_TAKEOVER_AGE_US (s.snapAge t)
  let s2 := (s1.put PAIR_TAKEOVER_INFO_CAUSE cause).put PAIR_TAKEOVER_INFO_BANKS
    ((if same then s.get PAIR_TAKEOVER_INFO_BANKS else 0) ||| 2 ^ b.val)
  let s3 := if same then s2 else s2.addSat PAIR_TAKEOVER_INFO_COUNT 1
  ({ s3 with seatAge := Vector.replicate 4 0 }.modPair (fun p => { p with takeCycle := some s.cycle })).pairEvt 0

/-- The die pulls the line low and drives the mirrored values (R305 to R307): inputs are stale until their first accepted
level; counters continue with GAP set. -/
def takeBank (s : State) (b : Bank) : State :=
  let s1 := s.modBank b (fun k => { k with
    holds := true, releasing := false, opening := false, line := .low, takeReqIn := false, takeReqOut := false })
  let s2 := s1.forEach (bankChans b) (fun s n =>
    let counting := s.fn n == FN_DI_COUNT
    let pwm := s.fn n == FN_DO_PWM
    s.modCell n (fun c => { c with
      fresh := false, untaken := true, freqOk := false, gap := c.gap || counting
      wickRun := c.wickRun || (pwm && c.applied != 0 && c.duty != 0) }))
  s2.settleBank b

/-- The cause of a take (table CAUSE of PAIR.TAKEOVER_INFO). -/
def takeCause (s : State) (how : Release) : Nat :=
  if s.pair.goAt.isSome then (if s.pair.merging then 7 else 1)
  else match how with
    | .request => 2
    | .holdEnd => 3
    | .unpowered => 4
    | .uv => 5

/-- OWN_TAKE (R305): the line has read RELEASED for 2 us, at an offset of 0.25 us into the running fabric cycle. -/
def ownTake (s : State) (b : Bank) (how : Release) (q : Fin 40) : State :=
  let k := s.bank b
  if ! s.interlocks b ∨ k.holds ∨ k.clamp ∨ ! k.takeEnable ∨ k.uvLatched ∨ ! k.restoreMet then s
  else
    let s1 := s.takeBank b
    if s1.inReset then s1 else (s1.recordTake b (s.takeCause how) (s.devTime (s.now + q.val))).noteOwn b

/-- A unit stops holding: its cells' states are selected anew, its stages off (R303, R309). -/
def stopHolding (s : State) (b : Bank) : State :=
  let s1 := s.forEach (bankChans b) (fun s n => if (s.bank b).lost then s.reselect n else s)
  (s1.modPair (fun p => { p with enable := p.enable.set b false })).settleBank b

/-- PARTNER_TAKEN (R305): loop outputs off at once, the switches 10 us later; inputs disconnect. -/
def partnerTaken (s : State) (b : Bank) : State :=
  if ! s.interlocks b ∨ ! (s.bank b).releasing then s
  else ((s.modBank b (fun k => { k with
    holds := false, releasing := false, opening := true, line := .low, takeEnable := false })).stopHolding b).noteOwn b

/-- OUTGOING_SWITCH_OPEN (R305). -/
def outgoingSwitchOpen (s : State) (b : Bank) : State :=
  if ! (s.bank b).opening then s else (s.modBank b (fun k => { k with opening := false })).settleBank b

/-- GRACE_END (R305): 1 ms after the release nobody has taken; the clamp stays applied. -/
def graceEnd (s : State) (b : Bank) : State :=
  if ! s.interlocks b ∨ ! (s.bank b).releasing ∨ s.boundaryTime < (s.bank b).graceAt + 4000 then s
  else ((s.modBank b (fun k => { k with holds := false, releasing := false, takeEnable := false })).stopHolding b).noteOwn b

/-- CLAMP_REMOVE (R305): the line has been LOW for 2 us. -/
def clampRemove (s : State) (b : Bank) : State :=
  if ! s.interlocks b ∨ (s.bank b).holds ∨ ! (s.bank b).clamp then s
  else (s.modBank b (fun k => { k with clamp := false, line := .low })).noteOwn b

/-- PARTNER_SEEN_CHANGE (R302, R309): what the die finds at its line has changed. With the logic side lost the pair rule goes by
PARTNER_SEEN. -/
def partnerSeenChange (s : State) (b : Bank) (x : OwnSense) : State :=
  let k := s.bank b
  if ! s.interlocks b then s
  else match x with
    | .sink c =>
      if ! k.holds then s
      else
        let s1 := s.modBank b (fun k => { k with partnerSeen := decide (1 ≤ c.val), takeReqIn := decide (c.val = 2) })
        (if k.lost then s1.forEach (bankChans b) (fun s n => s.reselect n) else s1).noteOwn b
    | .line band => if k.holds ∧ ! k.releasing then s else (s.modBank b (fun k => { k with line := band })).noteOwn b

/-- COLD_TAKE (R307, R308): with the pair link up, the line HIGH at both ends, nobody holding or clamping, the unit of the higher
priority pulls it low. A unit whose own clamp is still applied, started so by a host, removes it first. -/
def coldTake (s : State) (b : Bank) (q : Fin 40) : State :=
  let k := s.bank b
  let ok := s.partnerIs (fun h => h.high b && ! h.holds b && ! h.clamps b && decide (h.prio.toNat < s.prio))
  if s.inReset ∨ ! s.interlocks b ∨ k.lost ∨ k.holds then s
  else if k.clamp then
    match s.partner with
    | none => s
    | some h => if h.holds b then s
      else (s.modBank b (fun k => { k with clamp := false, line := if h.clamps b then .released else .high })).noteOwn b
  else if ! k.line.isHigh ∨ s.lineFault b ∨ ! ok then s
  else
    let s1 := (s.takeBank b).modPair (fun p => { p with cold := p.cold.set b true, coldAt := p.coldAt.set b s.now })
    (s1.recordTake b 6 (s.devTime (s.now + q.val))).noteOwn b

/-- COLD_TAKE_TIMEOUT (R308): the partner has not reported LOW within 1 ms. -/
def coldTakeTimeout (s : State) (b : Bank) : State :=
  if s.inReset ∨ ! s.pair.cold[b] ∨ s.boundaryTime < s.pair.coldAt[b] + 4000 then s
  else
    let s1 := s.modPair (fun p => { p with cold := p.cold.set b false, coldFault := p.coldFault.set b true })
    ((s1.modBank b (fun k => { k with holds := false, line := .high })).stopHolding b).noteOwn b

/-! ### The pair link -/

/-- PAIR_LINK_LOCK (R310). -/
def pairLinkLock (s : State) : State := if s.inReset then s else (s.modPair (fun p => { p with lock := true })).pairNote

/-- PAIR_LINK_DOWN (R310): what is in flight is lost. -/
def pairLinkDown (s : State) : State := if s.inReset then s else (s.modPair (fun p => { p with lock := false })).pairNote

/-- A frame has arrived (R311, R324): its CRC is counted, and the discarded one in CRC_ERR. -/
def countFrame (s : State) (ok : Bool) : State :=
  let s1 := s.modPair (fun p => { p with
    rxFrames := if 1000000 ≤ p.rxFrames then 1 else p.rxFrames + 1
    rxErrs := (if 1000000 ≤ p.rxFrames then 0 else p.rxErrs) + (! ok).toNat, crcSince := p.crcSince + (! ok).toNat })
  if ok then s1 else s1.addSat PAIR_LINK_ERR_CRC_ERR 1

/-- The payload of a heartbeat (R312) whose SOF is at device time t. -/
def heartbeatBytes (s : State) (t : Nat) : List Byte :=
  let flags := ofBits [s.mode != .boot && s.mode != .votive,
    s.readySelf, s.digestMatch, s.fwMatch]
  let banks := ofBits (allBanks.map (fun (b : Bank) => s.isSet (BANK_SUP_STAT_UV_LATCHED b)) ++ allBanks.map (fun (b : Bank) => s.isSet (BANK_LINK_UP b)))
  let echo := match s.pair.echo with
    | none => 0
    | some (ts, eof) => ts % 2 ^ 48 + 2 ^ 48 * (min ((t - eof) / 10) 0xFFFF)
  leBytes 4 s.pair.hbNo ++ leBytes 1 (s.get PAIR_STAT_ROLE) ++ leBytes 1 s.prio ++ leBytes 2 flags ++
    leBytes 4 (s.get PAIR_CLAIM_CLAIM) ++ leBytes 4 (s.word PAIR_OWN_LINE_0.addr).toNat ++
    leBytes 4 (s.get PAIR_SNAP_SEQ_SEQ) ++ leBytes 4 banks ++ leBytes 8 t ++ leBytes 8 echo

/-- PAIR_HEARTBEAT_SEND (R312): its SOF is `ns` after the last fabric-cycle boundary. -/
def pairHeartbeatSend (s : State) (ns : Fin 10000) : State :=
  if s.inReset ∨ ! s.isSet PAIR_CFG_EN then s
  else s.modPair (fun p => { p with
    hbSent := pairFrame 1 (s.heartbeatBytes (s.devTimeNs ns.val)), hbNo := (p.hbNo + 1) % 4294967296 })

/-- The heartbeats are compared (R308 and the broken interlock line of chapter 09): a held line reads LOW at the other end, and
one unit holds it. A confirmed cold take waits no more, and one that failed leaves LINE_FAULT in both units. -/
def compareLines (s : State) (h : PairHb) (old : Option PairHb) : State :=
  s.forEach s.pairedBanks (fun (s : State) (b : Bank) =>
    let s := if s.interlocks b then s.modBank b (fun k => { k with line := k.lineBand h old b }) else s
    let k := s.bank b
    let s1 := if h.ownOf b % 4 = 0 then s.modPair (fun p => { p with cold := p.cold.set b false }) else s
    if s1.pair.cold[b] then s1
    else
      let mine := k.holds && ! k.releasing
      let bad := (mine && h.high b) || (h.holds b && k.line.isHigh) || (mine && h.holds b && h.ownOf b % 4 == 0)
      let failed := old.any (fun o => o.holds b) && ! h.holds b && natBit (h.ownOf b) 7 && s1.pair.cmpFault[b]
      s1.modPair (fun p => { p with cmpFault := p.cmpFault.set b bad, coldFault := p.coldFault.set b (p.coldFault[b] || failed) }))

/-- The standby measures its offset from the active (R313), from T_SOF and ECHO, the local device time t of the SOF's
arrival in ns: the time there and back, without the partner's turn and the 3,920 ns from SOF to EOF of a heartbeat. Where not both units are ring members it disciplines its device time by it. -/
def alignTime (s : State) (h : PairHb) (t : Nat) : State :=
  let sent := bits h.echo 0 48
  let turn := 10 * bits h.echo 48 16
  if s.get PAIR_STAT_ROLE ≠ 2 ∨ h.role ≠ 1 ∨ h.echo = 0 then s
  else
    let rtt : Int := (((t + 2 ^ 48 - sent) % 2 ^ 48 : Nat) : Int) - turn - 3920
    let e : Int := (h.tSof.toNat : Int) + rtt / 2 - t
    let s1 := s.put PAIR_TIME_ALIGN_NS (toCode 16 (clampInt (-32768) 32767 (-e)))
    if s.get RING_STAT_ROLE ≠ 0 then s1 else s1.steer e 100000

/-- A heartbeat has arrived (R299, R312, R313, R318, R319), its SOF at device time t and its EOF at `eof`. -/
def takeHeartbeat (s : State) (h : PairHb) (t eof : Nat) (late : Bool) : State :=
    let first := s.pair.hb.isNone
    let back := s.pair.lost
    let s1 := s.modPair (fun p => { p with
      readyAt := if h.ready then p.readyAt <|> some s.now else none
      wantBase := p.wantBase || ! p.alive, alive := true, lost := false, hb := some h
      echo := some (h.tSof.toNat, eof), lateSince := p.lateSince + late.toNat })
    let s2 := (s1.put PAIR_STAT_PARTNER_PRIO h.prio.toNat).put PAIR_PARTNER_CLAIM_CLAIM h.claim.toNat
    let s3 := if first then s2.setEpoch s2.topEpoch else s2
    let s4 := if back then s3.pairEvt 4 else s3
    let s5 := (s4.compareLines h s.pair.hb).settleRole h
    let s6 := s5.alignTime h t
    let s7 := if s6.takesSnaps ∧ (h.role = 1 ∨ s6.isSet PAIR_STAT_SPLIT) ∧ s6.pair.applied.isNone then
        s6.modPair (fun p => { p with ctl := some .baselineReq })
      else s6
    s7.pairNote

/-- PAIR_HEARTBEAT_RECEIVED (R311, R312): the bytes of a frame between SOF and EOF, `codesOk` where none of its code groups was in
error, its SOF arriving `ns` after the last fabric-cycle boundary; `late`: more than 100 us late. A frame that carries no heartbeat
is discarded and counted. -/
def pairHeartbeatReceived (s : State) (codesOk : Bool) (f : List Byte) (ns : Fin 10000) (late : Bool) : State :=
  if s.inReset ∨ ! s.isSet PAIR_CFG_EN ∨ ! s.pair.lock then s
  else match (if codesOk then hbOf f else none) with
    | none => s.countFrame false
    | some h => (s.countFrame true).takeHeartbeat h (s.devTimeNs ns.val) (s.devTimeNs ns.val + eofNs f) late

/-- An open shadow is discarded (R316). -/
def dropShadow (s : State) : State :=
  if s.pair.shadow.isNone then s
  else ((s.modPair (fun p => { p with shadow := none, gap := true })).addSat PAIR_LINK_ERR_SNAP_TORN 1).pairEvt 5

/-- PAIR_HEARTBEAT_LOST (R316, R318, R319): three heartbeats missed. The epoch is raised; a standby that is READY for a bank
or holds one becomes active, and asks for the banks it is READY for. -/
def pairHeartbeatLost (s : State) : State :=
  if s.inReset ∨ ! s.isSet PAIR_CFG_EN ∨ ! s.pair.alive then s
  else
    let able := s.get PAIR_STAT_ROLE == 2 && (s.pairedBanks.any (fun b => s.pair.enable[b]) || s.holdsAny)
    let s1 := ((s.dropShadow).addSat PAIR_LINK_ERR_HB_LOST 1).raiseEpoch
    let s2 := (s1.modPair (fun p => { p with alive := false, lost := true, readyAt := none })).pairEvt 3
    (if able then s2.becomeActive else s2).pairNote

/-! ### Snapshots -/

/-- The CELL record of a cell (R315). -/
def cellRecord (s : State) (n : Chan) : List Byte :=
  let c := s.cell n
  let flg := ofBits [s.isSet (CELL_STATE_ADOPTED n), c.latched || c.stalled, s.isSet (CELL_AO_STAT_POLICY_ACT n),
    s.isSet (CELL_LIVE_UV_OFF n)]
  snapRec 0x11 (leBytes 1 n.val ++ leBytes 1 (s.get (CELL_STATE_STATE n) + 16 * s.get (CELL_STATE_CAUSE n)) ++ leBytes 1 flg ++ [0] ++
    leBytes 2 (s.get (CELL_OUT_VALUE n)) ++ leBytes 2 c.applied ++ leBytes 4 (s.get (CELL_COUNT_COUNT n)) ++
    leBytes 2 (s.get (CELL_FUSE_STAT_T_WIRE n)) ++ leBytes 2 (s.get (CELL_FUSE_STAT_I_HOLD n)) ++ leBytes 1 (s.get (CELL_SW_STAT_RETRY_CNT n)) ++ [0] ++
    leBytes 2 (s.get (CELL_AO_LOAD_R_EST n)) ++ leBytes 2 (s.get (WICK_STAT_DUTY_NOW n)) ++ [0, 0] ++ leBytes 4 (s.word (CELL_FLAGS_OPEN_LOAD n).addr).toNat ++ [0, 0, 0, 0])

/-- The BANK record of a bank (R315). -/
def bankRecord (s : State) (b : Bank) : List Byte :=
  let k := s.bank b
  let a : Nat := (k.rails[0].setpoint + 50) / 100
  let d : Nat := (k.rails[1].setpoint + 50) / 100
  let rails : List Byte := leBytes 2 a ++ leBytes 2 d
  snapRec 0x12 (leBytes 1 b.val ++ leBytes 1 k.mode.code ++ leBytes 1 (ofBits [k.uvLatched, k.restoring]) ++ [0] ++
    rails ++ [0, 0] ++ leBytes 8 (s.devTime k.wickAt))

/-- The OUT values of a remote sector. -/
def outSlots (s : State) (k : Nat) : List Nat :=
  (List.range (s.get (RNT_CTRL_NPTS k))).map (fun p => bits (s.memWord (sectorBase k + 0x100 + 12 * p)) 0 16)

/-- The SECTOR_OUT record of an entry: the points that differ from those last sent (R315). -/
def sectorRecord (k : Nat) (valid : Bool) (vals : List Nat) (old : Option (List Nat)) : List Byte :=
  let changed (p : Nat) : Bool := match old with
    | none => true
    | some o => decide (o[p]? ≠ vals[p]?)
  let pts := (List.range vals.length).filter changed
  let values : List Byte := pts.flatMap (fun p => leBytes 2 (vals.getD p 0))
  snapRec 0x13 (leBytes 2 k ++ leBytes 1 valid.toNat ++ [0] ++ leBytes 8 (pts.foldl (fun m p => m + 2 ^ p) 0) ++ values)

/-- The RING record (R315): the next cycle. -/
def ringRecord (s : State) : List Byte :=
  let r := s.ring
  snapRec 0x14 (leBytes 4 r.cyc ++ leBytes 8 ((r.tc4 + 125 * r.cycT) / 4) ++ leBytes 4 (ofBits [s.isSet RING_STAT_DUAL, s.get RING_STAT_STATE == 2]))

/-- The CELL, BANK and RING records of the unit, each under a key of its own. -/
def fixedRecords (s : State) : List (Nat × List Byte) :=
  s.pairedBanks.flatMap (fun b => (bankChans b).map (fun n => (n.val, s.cellRecord n))) ++
    s.pairedBanks.map (fun b => (32 + b.val, s.bankRecord b)) ++ (if s.ring.started then [(36, s.ringRecord)] else [])

/-- SNAPSHOT_CLOSE (R314, R315): the active unit closes a snapshot of what has changed, or of everything, and sends it in SNAP
frames of whole records while the pair link is up. -/
def snapshotClose (s : State) : State :=
  if s.inReset ∨ ! s.sendsSnaps ∨ ! s.isSet PAIR_CFG_EN then s
  else
    let p := s.pair
    let base := p.wantBase
    let seq := if 0xFFFFFFFF ≤ s.lastClosed then 1 else s.lastClosed + 1
    let fixed := s.fixedRecords
    let outs := (if s.isHead then s.used else []).map (fun k => (k, s.ring.outValid.contains k, s.outSlots k))
    let recs := (fixed.filter (fun e => base || ! p.prevRecs.contains e)).map (·.2) ++
      (outs.filter (fun e => base || ! p.prevOut.contains e)).map (fun e =>
        sectorRecord e.1 e.2.1 e.2.2 (if base then none else (p.prevOut.find? (fun o => o.1 == e.1)).map (fun o => o.2.2)))
    let opening := snapRec 0x10 (leBytes 4 seq ++ leBytes 4 (if base then 0 else s.lastClosed) ++
      leBytes 8 (s.devTime s.boundaryTime) ++ leBytes 4 (s.get RING_CYCLE_NO_CYCLE_NO) ++
      leBytes 4 (s.get PAIR_CLAIM_CLAIM) ++ s.digestBytes)
    let body := opening ++ recs.flatten
    let closing := snapRec 0x1F (leBytes 4 seq ++ leBytes 4 body.length ++ leBytes 4 (crc32 body).toNat)
    let frames := if s.pairUp then (packRecs (opening :: (recs ++ [closing]))).map (pairFrame 2) else []
    let s1 := s.modPair (fun p => { p with wantBase := false, prevRecs := fixed, prevOut := outs, snapSent := frames })
    let s2 := if s.get PAIR_STAT_ROLE = 1 then s1.put PAIR_SNAP_SEQ_SEQ seq else s1.modPair (fun p => { p with closed := seq })
    (s2.putB PAIR_STAT_SNAP_SLOW (decide (9 * s.snapPeriod < (body ++ closing).length))).pairNote

/-- A planned handover to this unit is being prepared (R323): for the 10 ms that the active waits, or until it ends. -/
def preparing (s : State) : Bool := s.pair.goAt.isSome || s.pair.frozen.any (fun t => decide (s.now < t + 40000))

/-- BASELINE_REQ (R314). -/
def baselineReq (s : State) : State :=
  if s.inReset ∨ ! s.sendsSnaps then s else s.modPair (fun p => { p with wantBase := true })

/-- A CLOSE record judges the shadow (R316). -/
def closeShadow (s : State) (sh : Snap) (p : List Byte) : State :=
  let whole := ! sh.bad && recU p 0 4 == sh.seq && recU p 4 4 == sh.bytes.length && recU p 8 4 == (crc32 sh.bytes).toNat
  let based := sh.base == 0 || s.pair.applied == some sh.base
  if whole ∧ based then s.modPair (fun p => { p with shadow := none, checked := some sh })
  else
    let s1 := s.dropShadow
    if whole then s1.modPair (fun p => { p with ctl := some .baselineReq }) else s1

/-- A whole record, header and all, reaches the standby (R315, R316). While a handover runs no new baseline is accepted (R323). -/
def takeRecord (s : State) (r : List Byte) : State :=
    let ty := recU r 0 1
    let p := (r.drop 4).take (recU r 2 2)
    if ty = 0x10 then
      let s1 := s.dropShadow
      if s.preparing ∧ recU p 4 4 = 0 then s1
      else
        let sh : Snap := { seq := recU p 0 4, base := recU p 4 4, taken := recU p 8 8, digest := (p.drop 24).take 8, bytes := r }
        (s1.modPair (fun q => { q with shadow := some sh, partnerDigest := some sh.digest })).pairNote
    else match s.pair.shadow with
      | none => s
      | some sh =>
        if ty = 0x1F then s.closeShadow sh p
        else s.modPair (fun q => { q with shadow := some { sh with
          bytes := sh.bytes ++ r, recs := sh.recs ++ [(ty, p)], bad := sh.bad || ! (decide (0x11 ≤ ty) && decide (ty ≤ 0x14)) } })

/-- SNAP_RECORD_RECEIVED (R311, R315, R316): a SNAP frame of whole records reaches the unit, its bytes as they came. A frame that is
none, of a reserved TYPE or with a wrong CRC among them, is discarded and counted. -/
def snapRecordReceived (s : State) (codesOk : Bool) (f : List Byte) : State :=
  if s.inReset ∨ ! s.isSet PAIR_CFG_EN ∨ ! s.pair.lock then s
  else match (if codesOk then framePayload 2 (fun n => decide (4 ≤ n) && decide (n ≤ 1024)) f else none) with
    | none => s.countFrame false
    | some p =>
      let s1 := s.countFrame true
      if ! s.takesSnaps then s1 else s1.forEach (splitRecs 256 p) takeRecord

/-- The logic-side cause that a mirrored cause stands for. -/
def logicCauseOf (ca : Cause) : LogicCause :=
  match ca with
  | .silenceRun => .silenceRun
  | .silence => .silence
  | .mismatch => .mismatch
  | .votive => .votive
  | _ => .none

/-- The cell state with a code of R27. -/
def cellStateOf (k : Nat) : CellState :=
  match k with
  | 0 => .off
  | 2 => .active
  | 3 => .hold
  | 4 => .safe
  | 5 => .limp
  | 6 => .fault
  | _ => .config

/-- A CELL record enters the mirror (R304, R315): of a cell of a paired bank that the unit does not hold. -/
def mirrorCellRec (s : State) (adoptAll : Bool) (p : List Byte) : State :=
  let n : Chan := Fin.ofNat 32 (recU p 0 1)
  if ! s.pairedBank (bankOf n) ∨ (s.bank (bankOf n)).holds then s
  else
    let ca := Cause.ofCode (recU p 1 1 / 16)
    let flg := recU p 2 1
    let st := cellStateOf (recU p 1 1 % 8)
    let s1 := s.modCell n (fun c => { c with
      state := st, cause := ca, adopted := adoptAll || natBit flg 0, kept := none, logicCause := logicCauseOf ca
      latched := natBit flg 1 && ca == .protection, stalled := natBit flg 1 && ca == .fuseStall, policyAct := natBit flg 2
      policyOff := s.fget (bankOf n) (CELL_AO_COMPLY_POLICY n) == 2
      commanded := recU p 4 2, applied := recU p 6 2, count := BitVec.ofNat 32 (recU p 8 4)
      tWire := (signed 16 (recU p 12 2) : Rat) / 16, iHold := some (recU p 14 2), modelled := true, retryCnt := recU p 16 1
      rEst := recU p 18 2, duty := recU p 20 2 })
    let s2 := (s1.put (CELL_OUT_VALUE n) (recU p 4 2)).setWord (CELL_FLAGS_OPEN_LOAD n).addr
      (BitVec.ofNat 32 (recU p 24 4) &&& w1cMask (CELL_FLAGS_OPEN_LOAD n).addr)
    let s3 := ((s2.put (CELL_STATE_STATE n) st.code).put (CELL_STATE_CAUSE n) ca.code).putB (CELL_STATE_ADOPTED n) (adoptAll || natBit flg 0)
    s3.modLcell n (fun c => { c with cause := if ca = .mismatch then .none else logicCauseOf ca, mismatch := ca == .mismatch })

/-- A BANK record enters the mirror (R313, R315): the mode, the Lantern rails at the setpoints carried and, once the time is
aligned, the bank's period start. -/
def mirrorBankRec (s : State) (p : List Byte) : State :=
  let b : Bank := Fin.ofNat 4 (recU p 0 1)
  if ! s.pairedBank b ∨ (s.bank b).holds then s
  else
    let m := Mode.ofCode (recU p 1 1)
    let rail (r : Rail) (o : Nat) : Rail := { r with setpoint := 100 * recU p o 2, enabled := recU p o 2 != 0 }
    let s1 := s.modLbank b (fun l => { l with mirrored := some m })
    s1.modBank b (fun k => { k with
      mode := m, wickAt := if s.isSet RING_STAT_UNSYNC then k.wickAt else (((recU p 10 8 : Int) - s.timeAhead) / 250).toNat, rails := (k.rails.set 0 (rail k.rails[0] 4)).set 1 (rail k.rails[1] 6) })

/-- A SECTOR_OUT record enters the mirror (R315). -/
def mirrorSectorRec (s : State) (p : List Byte) : State :=
  let k := recU p 0 2
  if 2048 ≤ k then s
  else
    let mask := recU p 4 8
    let pts := (List.range 64).filter (fun i => natBit mask i)
    let s1 := s.forEach pts.zipIdx (fun (s : State) (x : Nat × Nat) =>
      s.setMemWord (sectorBase k + 0x100 + 12 * x.1) (BitVec.ofNat 32 (recU p (12 + 2 * x.2) 2)))
    s1.modRing (fun r => { r with outValid := if natBit (recU p 2 1) 0 then k :: r.outValid.erase k else r.outValid.erase k })

/-- A data record enters the mirror. -/
def mirrorRec (s : State) (adoptAll : Bool) (r : Nat × List Byte) : State :=
  match r.1 with
  | 0x11 => s.mirrorCellRec adoptAll r.2
  | 0x12 => s.mirrorBankRec r.2
  | 0x13 => s.mirrorSectorRec r.2
  | 0x14 => s.modPair (fun p => { p with ringNext := some (recU r.2 0 4, recU r.2 4 8, recU r.2 12 4) })
  | _ => s

/-- SNAPSHOT_APPLY (R304, R316): at the boundary the checked snapshot is applied whole; the first baseline counts as the
adoption of every cell of the paired banks. During a handover it is answered (R323). -/
def snapshotApply (s : State) : State :=
  match s.pair.checked with
  | none => s
  | some sh =>
    if s.inReset ∨ ! s.takesSnaps then s
    else
      let first := s.pair.applied.isNone && sh.base == 0
      let s1 := sh.recs.foldl (fun (s : State) (r : Nat × List Byte) => s.mirrorRec first r) s
      let s2 := s1.modPair (fun p => { p with
        checked := none, applied := some sh.seq, gap := false, taken := some sh.taken
        ctl := if s.preparing ∧ p.goAt.isNone then some (.handoverReady sh.seq) else p.ctl })
      (if s.get PAIR_STAT_ROLE = 1 then s2 else s2.put PAIR_SNAP_SEQ_SEQ sh.seq).pairNote

/-! ### Planned handover -/

/-- A handover runs. -/
def handoverRuns (s : State) : Bool := s.get PAIR_HANDOVER_STATE == 1 || s.get PAIR_HANDOVER_STATE == 2

/-- The first step of a planned handover (R323). -/
def openHandover (s : State) : State :=
  ((s.put PAIR_HANDOVER_STATE 1).put PAIR_HANDOVER_CODE 0).modPair (fun p => { p with
    ctl := some .handoverReq, passed := false, reqAt := s.now })

/-- A planned handover starts, or fails with its code (R323). -/
def startHandover (s : State) : State :=
  let fail (c : Nat) : State := s.handoverEnds 4 c
  if s.get PAIR_STAT_ROLE ≠ 1 then fail 1
  else if ! s.pairUp then fail 3
  else if s.pairedBanks.any s.lineFault then fail 5
  else if ¬ s.isSet PAIR_STAT_READY then fail 2
  else s.openHandover

/-- HANDOVER_START by a seat (R323). -/
def handoverStart (s : State) (x : Seat) : State :=
  if s.inReset ∨ ! s.modeSeat x ∨ s.mode = .boot ∨ s.mode = .votive ∨ s.handoverRuns then s else s.startHandover

/-- AUTO_MERGE (R321): ownership is divided and the partner has reported READY for 1 s; the lower claim hands over, whatever its
role. -/
def autoMerge (s : State) : State :=
  if s.inReset ∨ ¬ s.isSet PAIR_STAT_SPLIT ∨ ! s.pairUp ∨ ¬ s.isSet PAIR_CFG_AUTO_MERGE ∨ s.handoverRuns ∨
      ¬ s.get PAIR_CLAIM_CLAIM < s.get PAIR_PARTNER_CLAIM_CLAIM ∨ ! s.partnerIs (fun h => h.ready) ∨
      ! s.pair.readyAt.any (fun t => decide (t + 4000000 ≤ s.boundaryTime)) then s
  else if s.pairedBanks.any s.lineFault then s.handoverEnds 4 5
  else s.openHandover

/-- HANDOVER_REQ_RECEIVED (R323). -/
def handoverReqReceived (s : State) : State :=
  if s.inReset ∨ ! s.isSet PAIR_CFG_EN then s
  else s.modPair (fun p => { p with frozen := some s.now, merging := s.isSet PAIR_STAT_SPLIT })

/-- HANDOVER_READY (R323): the active answers HANDOVER_READY of its last snapshot with HANDOVER_GO; B is the first
fabric-cycle boundary at least 200 us later. -/
def handoverReady (s : State) (seq : BitVec 32) : State :=
  if s.inReset ∨ s.get PAIR_HANDOVER_STATE ≠ 1 ∨ seq.toNat ≠ s.lastClosed then s
  else
    let b := s.devTime (s.now + 40 * 21)
    (s.put PAIR_HANDOVER_STATE 2).modPair (fun p => { p with ctl := some (.handoverGo b), bAt := b, goAt := none })

/-- HANDOVER_GO_RECEIVED (R323): the standby is the incoming unit, with the boundary's device time. -/
def handoverGoReceived (s : State) (b : BitVec 64) : State :=
  if s.inReset ∨ ! s.preparing then s else (s.modPair (fun p => { p with goAt := some b.toNat, passed := false })).pairNote

/-- HANDOVER_BOUNDARY (R323): at B the active's field dies release and it stops its cycles; the incoming unit raises its
epoch and originates them. -/
def handoverBoundary (s : State) : State :=
  if s.inReset ∨ s.pair.passed then s
  else if s.get PAIR_HANDOVER_STATE = 2 then
    if s.devTime s.boundaryTime < s.pair.bAt then s else
    let s1 := s.forEach s.pairedBanks (fun (s : State) (b : Bank) =>
      let k := s.bank b
      if k.running ∧ ! k.lost ∧ k.holds ∧ ! k.releasing then (s.modBank b (fun k => { k with releaseCmd := true })).release b else s)
    ((s1.modPair (fun p => { p with passed := true })).becomeStandby).pairNote
  else if s.pair.goAt.any (fun t => decide (t ≤ s.devTime s.boundaryTime)) then
    ((s.raiseEpoch).becomeActive.modPair (fun p => { p with passed := true })).pairNote
  else s

/-- HANDOVER_END (R323): the roles have been exchanged. -/
def handoverEnd (s : State) : State :=
  if s.inReset ∨ ! s.pair.passed then s
  else if s.get PAIR_HANDOVER_STATE = 2 then
    (s.handoverEnds 3 0).modPair (fun p => { p with passed := false, ctl := some .handoverEnd })
  else (s.pairEvt 2).modPair (fun p => { p with passed := false, goAt := none, frozen := none, merging := false })

/-- HANDOVER_TIMEOUT (R323): no HANDOVER_READY within 10 ms. -/
def handoverTimeout (s : State) : State :=
  if s.inReset ∨ s.get PAIR_HANDOVER_STATE ≠ 1 ∨ s.boundaryTime < s.pair.reqAt + 40000 then s else s.handoverEnds 4 4

/-! ### Self-test and Beacon -/

/-- A Lantern rail is at its mirrored setpoint (R324): what is measured lies within 2 % of it. -/
def railAtSetpoint (r : Rail) : Bool := ! r.enabled || decide (((r.meas : Int) - (r.setpoint : Int)).natAbs * 50 ≤ r.setpoint)

/-- The tests of R324 that fail on what the unit holds: a barrier link without heartbeats one way or with an error in its running
10^6 frames, a rail off its setpoint, OWN_n at odds with the partner's heartbeat, more than one wrong CRC in the pair link's
running 10^6 frames. -/
def failedTests (s : State) : BitVec 7 :=
  let any (p : Bank → Bool) : Bool := s.pairedBanks.any p
  BitVec.ofNat 7 (ofBits [
    any (fun b => ! s.isSet (BANK_LINK_UP b) || (s.lbank b).dieLost || (s.lbank b).frameErrs != 0), false,
    any (fun b => ! ((s.bank b).rails.toList.all railAtSetpoint)), any s.lineFault, false, false, decide (1 < s.pair.rxErrs)])

/-- SELF_TEST (R324): a round of the tests in `ran`. What the unit holds decides tests 2 and 6; in the others `fail` says what else
has failed. -/
def selfTest (s : State) (ran fail : BitVec 7) : State :=
  if s.inReset ∨ s.get PAIR_STAT_ROLE ≠ 2 then s
  else (s.modPair (fun p => { p with
    testFail := (p.testFail &&& ~~~ ran) ||| (((fail &&& 0x3B#7) ||| s.failedTests) &&& ran)
    rounds := (p.rounds + 1) % 4294967296 })).pairNote

/-- The highest temperature of the cells and bank dies, in 1/16 degree. -/
def topTemp (s : State) : Int :=
  let cells := (allChans.filter (fun n => (s.cell n).tempValid)).map (fun n => (s.cell n).temp)
  let dies := allBanks.map (fun b => roundNear (16 * (s.bank b).tDie))
  (cells ++ dies).foldl max (-32768)

/-- The first 60 bytes of a Beacon (R325) at device time t. -/
def beaconBytes (s : State) (t : Nat) : List Byte :=
  let p := s.pair
  let ready := s.isSet PAIR_STAT_READY
  let st := ofBits [ready, p.testFail == 0, p.applied.isSome, s.digestMatch, s.fwMatch, s.isSet PAIR_STAT_SNAP_SLOW]
  let own := (allBanks.map (fun b => s.get ⟨PAIR_OWN_LINE_0.addr, 8 * b.val, 2⟩ * 4 ^ b.val)).sum
  leBytes 4 p.bseq ++ leBytes 1 st ++ leBytes 1 s.mode.code ++ leBytes 1 s.prio ++
    leBytes 1 (ofBits (allBanks.map (fun b => s.pairedBank b && s.readyBank b))) ++ leBytes 4 (p.applied.getD 0) ++
    leBytes 4 (s.snapAge t) ++ allBanks.flatMap (fun (b : Bank) => leBytes 2 (s.get (BANK_SUP_STAT_VF_MV b))) ++ leBytes 1 own ++
    leBytes 1 p.testFail.toNat ++ [0, 0] ++ leBytes 2 (toCode 16 s.topTemp) ++ leBytes 1 (s.get CANDLE_DEV_LIFE_LIFE_PCT) ++ [0] ++
    s.digestBytes ++ leBytes 1 (s.get NVM_FW_ACTIVE_MAJOR) ++ leBytes 1 (s.get NVM_FW_ACTIVE_MINOR) ++ [0, 0] ++ leBytes 4 p.rounds ++
    leBytes 2 (min p.crcSince 0xFFFF) ++ leBytes 2 (min p.lateSince 0xFFFF) ++ leBytes 8 t

/-- The Beacon words (table PAIR.BEACON). -/
def putBeacon (s : State) (bs : List Byte) : State :=
  s.setWords (PAIR_BEACON_WORD 0).addr ((List.range 16).map (fun i => bytesWord ((bs.drop (4 * i)).take 4)))

/-- BEACON_SEND (R325): the standby sends and shows its Beacon. -/
def beaconSend (s : State) (ns : Fin 10000) : State :=
  if s.inReset ∨ s.get PAIR_STAT_ROLE ≠ 2 then s
  else
    let bs := withCrc32 (s.beaconBytes (s.devTimeNs ns.val))
    (s.putBeacon bs).modPair (fun p => { p with
      beaconSent := pairFrame 4 bs, bseq := (p.bseq + 1) % 4294967296, crcSince := 0, lateSince := 0 })

/-- BEACON_RECEIVED (R311, R325): the bytes of a frame between SOF and EOF. The active shows the Beacon; the event BEACON. A frame
that carries none is discarded and counted. -/
def beaconReceived (s : State) (codesOk : Bool) (f : List Byte) : State :=
  if s.inReset ∨ ! s.isSet PAIR_CFG_EN ∨ ! s.pair.lock then s
  else match (if codesOk then framePayload 4 (· == 64) f else none) with
    | none => s.countFrame false
    | some bs =>
      let s1 := s.countFrame true
      if s.get PAIR_STAT_ROLE ≠ 1 then s1
      else ((s1.putBeacon bs).modPair (fun p => { p with
        partnerDigest := some ((bs.drop 0x20).take 8), partnerFw := some (recU bs 0x28 1) })).pairEvt 11

end State

end Sys2Proof.Machine
end

