-- ==== Sys2Proof/Machine/Supervise.lean ====
section
/-!
DEFINITION. Clocks, watchdog, resets, boot, VOTIVE and low-power states (R327 to R364), the mode commands and the seat
timeouts (R165 to R172).
-/

namespace Sys2Proof.Machine

/-- The place of a class code in the order of R344: POR, BOR, CMR, WDR, PIN, HFR. -/
def classRank : Nat → Nat
  | 0 => 0 | 1 => 1 | 3 => 2 | 2 => 3 | 5 => 4 | _ => 5

/-- A field keeps its value in a full reset of a class (R356): what the field dies and PD_AON hold, but for the fields a
POR clears, and nothing once PD_AON is lost (R357). -/
def Surv.keeps (cls : ResetClass) (aonLost : Bool) : Surv → Bool
  | .all => ! aonLost
  | .notPor => cls != .por
  | .fld => cls != .por
  | _ => false

/-- The bits of a register that keep their values in a full reset; what OTP and the silicon give never changes. -/
def keepMask (cls : ResetClass) (aonLost : Bool) (a : Nat) : Word :=
  match describe a with
  | none => 0
  | some fs => fs.foldl (fun m f => if f.rst = .otp ∨ f.rst = .fixed ∨ f.surv.keeps cls aonLost then setBits m f.lo f.w (2 ^ f.w - 1) else m) 0

/-- The bit of WAKE_SRC a source sets (table PWR_STAT). -/
def WakeSrc.bit : WakeSrc → Nat
  | .watchdog => 0 | .spi => 1 | .mgmt => 2 | .cell _ => 3 | .link => 4 | .band => 5

namespace State

/-! ### Resets -/

/-- The running SEC command writes OTP. -/
def otpRuns (s : State) : Bool :=
  match s.secRun with
  | none => false
  | some (.store _ _) => false
  | some _ => true

/-- NV operations that a full reset meets (R347, R356): a page operation of a WDR or HFR is finished, which completes the
operation where that page was its last (a free value); an install is not complete before its trailer has been read back (R192),
and a reset during a store of the configuration words leaves the previous record in force (R427).
Every other operation is lost. An OTP write either has completed or has not. -/
def settleNv (s : State) (cls : ResetClass) : State :=
  let grace := cls == .wdr || cls == .hfr
  let done := Config.nvBegun s.free
  let s1 := s.useFree
  let s2 := if done && grace then (s1.trimStoreDone 0).foldDone 0 else s1.foldCut
  if done && (grace || s.otpRuns) then s2.secCmdDone 0 else s2

/-- The steps that a boot can have reached by its time since the release (table LAST_STEP): at least the one after the last whose maximum
of R349, no slot taking part in it, has passed, or after the switch to XIN has begun; at most CLOCK while it waits for XIN (R328). -/
def stepBounds (s : State) : Nat × Nat :=
  let t := s.now - s.releasedAt
  let rc := s.isSet CLKMON_STAT_SOURCE
  (if 240000 < t then 4 else if 84000 < t then 3 else if 800 < t ∨ ! rc then 2 else 1, if rc ∧ t < 80000 then 2 else 8)

/-- The step reached when a boot ends (table LAST_STEP): DONE, the step that led to VOTIVE, or else a free value within its bounds. -/
def stepReached (s : State) : Nat :=
  if s.isSet SYS_BOOT_OK_OK then 9
  else match s.get SYS_VOTIVE_CAUSE_CAUSE with
    | 0 => min s.stepBounds.2 (max s.stepBounds.1 (1 + (Config.bootStep s.free).val))
    | 3 => 4
    | 7 => 3
    | 4 => 5
    | 5 => 5
    | _ => 1

/-- The logic side loses everything that does not survive a full reset (R356): its registers as their Survives column
says, SRAM, work in progress, device time. `RING.CLAIM` survives at a node and not at a head (R298). -/
def clearLogic (s : State) (cls : ResetClass) (aonLost : Bool) : State :=
  let regs := s.regs.foldl (fun m (e : Nat × Word) =>
    let k := keepMask cls aonLost e.1
    sparseSet resetWord m e.1 ((resetWord e.1 &&& ~~~ k) ||| (e.2 &&& k))) []
  { s with
    regs := if s.isHead then sparseSet resetWord regs RING_CLAIM_CLAIM.addr (resetWord RING_CLAIM_CLAIM.addr) else regs
    shadow := [], shadowLate := [], fresh := [], mem := [], units := Vector.replicate 96 {}
    candle := if aonLost then { seq := s.candle.seq, sector := s.candle.sector } else { s.candle with fold := none }
    txns := Vector.replicate 5 none, txnOpen := Vector.replicate 4 false, txnId := 0, load := none, fwLoad := none
    fabLoaded := false, secRun := none, nvRead := none, dbgNonce := none, scan := if cls = .por then {} else s.scan
    trimSteps := Vector.replicate 2 0, trimStore := none
    lcells := Vector.replicate 32 {}
    lbanks := Vector.ofFn (fun b => { down := (s.lbank b).down, porMarker := cls = .por || (s.lbank b).porMarker })
    cycle := 0, timeAhead := -250 * (s.now : Int), fuseDone := false
    seatAge := Vector.replicate 4 0, seatFresh := Vector.replicate 4 false, resp := Vector.replicate 4 []
    wdgStart := s.now, wdgOpen := 100, wdgTimeout := 100000, wdgServicer := 4, resleep := false, wokeBy := none, dueLines := []
    xtalSince := none, restoreReq := false, inReset := true
    ring := {}, pair := {}, eccLatch := false, dma := {}, dmaDue := Vector.replicate 16 0
    readBack := Vector.replicate 4 (cls != .por && (! s.inReset || s.readBack[(0 : Fin 4)])), commits := [] }

/-- A full reset begins, or joins one that has not been released (R343 to R348). -/
def fullReset (s : State) (cls : ResetClass) (sub : Nat) (aonLost : Bool) : State :=
  let power := cls == .por || cls == .bor
  if s.inReset then
    let first := decide (classRank cls.code < classRank (s.get SYS_RESET_CAUSE_CLASS))
    let s1 := if cls = .por then s.clearLogic cls aonLost else s
    let s2 := { s1 with graceWait := s1.graceWait && ! power, bootEnded := s1.bootEnded && ! aonLost
                        lastFail := if aonLost then 0 else s1.lastFail }
    let s3 := if first then (s2.put SYS_RESET_CAUSE_CLASS cls.code).put SYS_RESET_CAUSE_SUB sub else s2
    if aonLost then s3.putB SYS_RESET_CAUSE_AON_LOST true else s3
  else
    let wait := (cls == .wdr || cls == .hfr) && (s.nvmOp == 1 || s.nvmOp == 2)
    let step := s.stepReached
    let ended := ! s.isSet SYS_BOOT_OK_OK
    let last := s.get SYS_RESET_CAUSE_CLASS
    let s1 := (s.settleNv cls).clearLogic cls aonLost
    let s2 := { s1 with graceWait := wait, bootEnded := ended && ! aonLost, lastFail := if aonLost then 0 else s1.lastFail }
    let h := s2.get SYS_RESET_HIST_CLASS_0 + 16 * s2.get SYS_RESET_HIST_CLASS_1 + 256 * s2.get SYS_RESET_HIST_CLASS_2
    let s3 := s2.setWord SYS_RESET_CAUSE_CLASS.addr (BitVec.ofNat 32 (cls.code + 16 * sub + 256 * aonLost.toNat))
    if aonLost then s3
    else (s3.setWord SYS_RESET_HIST_CLASS_0.addr (BitVec.ofNat 32 (last + 16 * h))).put SYS_BOOT_STAT_LAST_STEP step

/-- POWER_ON_RESET (R343, R357): VDD33 has been below 1.6 V, and VBAT with it where PD_AON is lost. -/
def powerOnReset (s : State) (aonLost : Bool) : State := s.fullReset .por 0 aonLost

/-- BROWN_OUT_RESET (R343). -/
def brownOutReset (s : State) : State := s.fullReset .bor 0 false

/-- PIN_RESET (R343). -/
def pinReset (s : State) : State := s.fullReset .pin 0 false

/-- NV_GRACE_END (R347, R348): the page operation has ended, or 30 ms after the trigger; the length of the wait is
recorded. -/
def nvGraceEnd (s : State) (us : Nat) : State :=
  if ! s.graceWait then s
  else (({ s with graceWait := false }).putB SYS_RESET_CAUSE_GRACE true).put SYS_RESET_CAUSE_GRACE_US (min us 30000)

/-- A WDR with a cause of WDG.FAIL and the count at the failure (R337, R342, R350); it joins a reset that has not been released
(R344). -/
def wdgFail (s : State) (cause count : Nat) : State := ((s.put WDG_FAIL_CAUSE cause).put WDG_FAIL_COUNT_AT count).fullReset .wdr cause false

/-! ### Watchdog -/

/-- The watchdog count at an offset q of 0.25 us into the running fabric cycle (R334); a validation does not pause it (R189). -/
def wdgCount (s : State) (q : Nat) : Nat := min ((s.now + q - s.wdgStart) / 4) 0xFFFFFF

/-- A configuration change waits for a service (R339). -/
def wdgPending (s : State) : Bool :=
  ! s.isSet WDG_STAT_BOOT_VALUES &&
    (s.get WDG_OPEN_US != s.wdgOpen || s.get WDG_TIMEOUT_US != s.wdgTimeout || s.get WDG_CFG_SERVICER != s.wdgServicer)

/-- The configured values come into force (R339, R340). -/
def wdgTake (s : State) : State :=
  { s with wdgOpen := s.get WDG_OPEN_US, wdgTimeout := s.get WDG_TIMEOUT_US, wdgServicer := s.get WDG_CFG_SERVICER }

/-- Entry into a power state (R360): into STANDBY or SLEEP it closes the open windows at q (R151). -/
def enterPower (s : State) (k q : Nat) : State :=
  let was := s.get SYS_PWR_STAT_STATE
  let s1 := if 2 ≤ k ∧ was ≠ k then s.forEach allBanks (fun s b => s.closeBank b .power (s.now + q)) else s
  (s1.put SYS_PWR_STAT_STATE k).putB SYS_PWR_STAT_CHANGING (decide (was ≠ k))

/-- A valid service (R337, R339): the count is 0 at q; MARKHOR returns to SLEEP where R341 says so. -/
def wdgServe (s : State) (q : Nat) : State :=
  let s1 := (({ s with wdgStart := s.now + q, resleep := false }).putB WDG_STAT_ARMED false).putB WDG_STAT_WINDOW_OPEN false
  let s2 := s1.addWrap WDG_STAT_SERVICES 1
  let s3 := if s2.isSet WDG_STAT_BOOT_VALUES then s2 else s2.wdgTake
  if s.resleep then s3.enterPower 3 q else s3

/-- An agent, seat 0 to 3 or 4 for MARKHOR, may serve the watchdog (R335). -/
def wdgMay (s : State) (agent : Nat) : Bool := agent == s.wdgServicer

/-- A KEY_A write of the servicer (R336, R337). -/
def wdgKeyA (s : State) (key : Nat) (q : Nat) : State :=
  if key ≠ 0x5AC3 then s.wdgFail 3 (s.wdgCount q)
  else (if s.isSet WDG_STAT_ARMED then s.addSat WDG_STRAY_CNT 1 else s).putB WDG_STAT_ARMED true

/-- A KEY_B write of the servicer (R336 to R338). -/
def wdgKeyB (s : State) (key : Nat) (q : Nat) : State :=
  let c := s.wdgCount q
  if s.wdgTimeout ≤ c then s.wdgFail 1 c
  else if ¬ s.isSet WDG_STAT_ARMED ∨ key ≠ 0xA53C then s.wdgFail 3 c
  else if c < s.wdgOpen then s.wdgFail 2 c
  else s.wdgServe q

/-- WDG_KEY_A by MARKHOR (R335, R337), which serves only while every running engine has reported progress within 1 ms. -/
def wdgKeyACmd (s : State) (progress : Bool) (key : BitVec 16) (q : Fin 40) : State :=
  if s.inReset ∨ ! s.wdgMay 4 ∨ ! progress then s else s.wdgKeyA key.toNat q

/-- WDG_KEY_B by MARKHOR (R335, R337). -/
def wdgKeyBCmd (s : State) (progress : Bool) (key : BitVec 16) (q : Fin 40) : State :=
  if s.inReset ∨ ! s.wdgMay 4 ∨ ! progress then s else s.wdgKeyB key.toNat q

/-- WDG_EXPIRED (R337): the count reaches TIMEOUT in the running fabric cycle. -/
def wdgExpired (s : State) : State := if ! s.inReset ∧ s.wdgTimeout ≤ s.wdgCount 40 then s.wdgFail 1 s.wdgTimeout else s

/-- WDG_ARM_DISCARD (R337): 16 us without a KEY_B. -/
def wdgArmDiscard (s : State) : State :=
  if s.inReset ∨ ¬ s.isSet WDG_STAT_ARMED then s else (s.putB WDG_STAT_ARMED false).addSat WDG_STRAY_CNT 1

/-! ### Low-power states -/

/-- A source is enabled to wake (R362). -/
def wakes (s : State) : WakeSrc → Bool
  | .cell n => (s.word SYS_PWR_WAKE_CELLS.addr).getLsbD n.val
  | .link => s.isSet SYS_PWR_CFG_LINK_WAKE
  | .band => s.isSet SYS_PWR_CFG_VF_WAKE
  | _ => true

/-- The events that became due in SLEEP are raised on its exit (R231, R362). -/
def raiseDue (s : State) : State :=
  ({ s with dueLines := [] }).forEach s.dueLines (fun (s : State) (e : Nat × Seat) => s.raiseIn e.1 e.2)

/-- The exit from SLEEP for a wake source (R362), from the state itself or from its entry (R363). -/
def leaveSleep (s : State) (src : WakeSrc) (abandoned : Bool) : State :=
  let s1 := (s.put SYS_PWR_STAT_STATE 0).putB SYS_PWR_STAT_CHANGING false
  (s1.put SYS_PWR_STAT_WAKE_SRC (2 ^ src.bit + 64 * abandoned.toNat)).raiseDue

/-- WAKE (R341, R362, R363): a wake source registers; the logic side leaves SLEEP, an entry that runs is abandoned, and MARKHOR
does not return to SLEEP. A frame that wakes is counted. -/
def wake (s : State) (src : WakeSrc) : State :=
  if s.inReset ∨ ! s.wakes src then s
  else
    let s1 := { s with resleep := false, wokeBy := some src }
    if ! s.sleeping then s1
    else
      let s2 := s1.leaveSleep src (s.isSet SYS_PWR_STAT_CHANGING)
      if src = .spi ∨ src = .mgmt then s2.addWrap SYS_PWR_STAT_WAKE_FRAMES 1 else s2

/-- WDG_WINDOW_OPEN (R334, R341): the count reaches OPEN in the running fabric cycle; line 54 is raised and SLEEP is left. -/
def wdgWindowOpen (s : State) : State :=
  if s.inReset ∨ s.isSet WDG_STAT_WINDOW_OPEN ∨ s.wdgCount 40 < s.wdgOpen then s
  else
    let s1 := ((s.putB WDG_STAT_WINDOW_OPEN true).raiseLine 54 allSeats).wake .watchdog
    { s1 with resleep := s.sleeping && s.wdgServicer == 4 && s.isSet SYS_PWR_CFG_WDG_RESLEEP }

/-- An output-family cell applies a value other than off or is in LIMP (R361). -/
def anyOutput (s : State) : Bool :=
  allChans.any (fun n => family (s.fn n) == 2 && ((s.cell n).applied != 0 || (s.cell n).state == .limp))

/-- Work that a SLEEP request finds (R361 BUSY). -/
def workRuns (s : State) : Bool :=
  ! s.stagedRuns.isEmpty || s.load.isSome || s.fwLoad.isSome || s.nvmOp != 0 ||
    (List.range 16).any (fun c => s.isSet (DMA_STAT_BUSY c)) || (List.range 8).any (fun i => s.isSet (RING_SCHED_CTRL_ARM i))

/-- Why a request for a power state is refused (R360, R361); 0 where it is accepted. -/
def pwrRefuse (s : State) (k : Nat) : Nat :=
  if k = 0 then 0
  else if s.mode ≠ .run then 1
  else if 2 ≤ k ∧ s.get RING_STAT_ROLE ≠ 0 then 2
  else if 2 ≤ k ∧ s.isSet PAIR_CFG_EN then 3
  else if k = 3 ∧ s.anyOutput then 4
  else if k = 3 ∧ s.wdgTimeout - s.wdgOpen < 1000 then 5
  else if k = 3 ∧ s.workRuns then 6
  else 0

/-- A request for a power state at q (R360, R361). A wake source that has registered in the same fabric cycle wins over SLEEP
(R363). -/
def pwrRequest (s : State) (k q : Nat) : State :=
  let r := s.pwrRefuse k
  if r ≠ 0 then s.put SYS_PWR_STAT_REFUSE r
  else
    match s.wokeBy with
    | some src => if k = 3 then s.leaveSleep src true else s.enterPower k q
    | none => s.enterPower k q

/-- PWR_ACTIVE, PWR_IDLE, PWR_STANDBY and PWR_SLEEP by a seat (R360, R364); in SLEEP no host port takes a write. -/
def pwrCmd (s : State) (x : Seat) (k q : Nat) : State :=
  if s.inReset ∨ ! s.modeSeat x ∨ s.sleeping then s else s.pwrRequest k q

/-! ### Clocks -/

/-- The main clock is switched to the internal RC (R331). -/
def toRc (s : State) : State :=
  let s1 := ({ s with xtalSince := none }).putB CLKMON_STAT_XTAL_OK false
  if s.isSet CLKMON_STAT_SOURCE then s1
  else (((s1.putB CLKMON_STAT_SOURCE true).addSat CLKMON_STAT_SWITCHES 1).raiseLine 55 allSeats).bypassClose

/-- CRYSTAL_STOPPED (R331). -/
def crystalStopped (s : State) : State := if s.inReset then s else s.toRc

/-- CRYSTAL_OFF_FREQUENCY (R331). -/
def crystalOffFrequency (s : State) : State := if s.inReset then s else s.toRc

/-- MAIN_CLOCK_STOPPED (R331). -/
def mainClockStopped (s : State) : State := s.fullReset .cmr 1 false

/-- PLL_UNLOCK (R331). -/
def pllUnlock (s : State) : State := s.fullReset .cmr 2 false

/-- MONITOR_RC_STOPPED (R331). -/
def monitorRcStopped (s : State) : State :=
  if s.inReset then s else (s.raiseFld CLKMON_STAT_MON_FAIL).raiseLine 55 allSeats

/-- XTAL_OK has read 1 for 100 ms (R332). -/
def xtalSteady (s : State) : Bool :=
  match s.xtalSince with
  | some t => decide (t + 400000 ≤ s.now)
  | none => false

/-- CLOCK_RESTORE (R332): the return to XIN waits for the boundary. -/
def clockRestore (s : State) (x : Seat) : State :=
  if s.inReset ∨ ! s.modeSeat x ∨ ! s.xtalSteady then s else { s with restoreReq := true }

/-- CLOCK_RESTORE_SWITCH (R332): at the boundary. -/
def clockRestoreSwitch (s : State) : State :=
  if s.inReset ∨ ! s.restoreReq then s
  else
    let s1 := { s with restoreReq := false }
    if s.isSet CLKMON_STAT_SOURCE then (s1.putB CLKMON_STAT_SOURCE false).raiseLine 55 allSeats else s1

/-- Boot step 3 is open (R328, R349): within 20 ms of the release of a boot that has come past step 2, be it one that ends in VOTIVE. -/
def clockStep (s : State) : Bool :=
  (s.mode == .boot || (s.mode == .votive && [3, 4, 5, 7].contains (s.get SYS_VOTIVE_CAUSE_CAUSE))) &&
    decide (s.now ≤ s.releasedAt + 80000)

/-- XTAL_SWITCH (R328): during boot XTAL_OK has held for 1 ms. -/
def xtalSwitch (s : State) : State :=
  if s.inReset ∨ ! s.clockStep ∨ ¬ s.isSet CLKMON_STAT_SOURCE then s
  else (({ s with xtalSince := some s.now }).putB CLKMON_STAT_XTAL_OK true).putB CLKMON_STAT_SOURCE false

/-! ### Boot -/

/-- The device mode changes (R165); line 49. -/
def setMode (s : State) (m : Mode) : State :=
  let s1 := s.put SYS_MODE_MODE m.code
  if s.mode = m then s1 else s1.raiseLine 49 allSeats

/-- The device enters VOTIVE (R353, R354). -/
def enterVotive (s : State) (cause detail : Nat) : State :=
  let s1 := ((s.setMode .votive).put SYS_VOTIVE_CAUSE_CAUSE cause).put SYS_VOTIVE_CAUSE_DETAIL detail
  s1.forEach allChans (fun s n => s.modLcell n (fun c => { c with cause := .votive }))

/-- Boot step 2 reads the configuration words, and what the SEC registers show (R349, R426, R388). -/
def readWords (s : State) : State :=
  let r : CwRec := s.nv.cw.getD { clkMode := 0, xdrive := 1, seats := 7, autoLock := 0 }
  let s1 := ((s.put SYS_CW_CLK_CLK_MODE r.clkMode).put SYS_CW_CLK_XDRIVE r.xdrive).put SYS_CW_BOOT_VOTIVE_SEATS r.seats
  let s2 := ((s1.put SYS_CW_BOOT_AUTO_LOCK r.autoLock).put SYS_CW_STAT_CLK_MODE r.clkMode).put SYS_CW_STAT_XDRIVE r.xdrive
  let s3 := ((s2.put SYS_CW_STAT_VOTIVE_SEATS r.seats).put SYS_CW_STAT_AUTO_LOCK r.autoLock).putB SYS_CW_STAT_NO_RECORD
    s.nv.cw.isNone
  (s3.put SEC_DBG_LEVEL s.otpDebugLevel).noteSec

/-- The newer of two slots that qualify, slot A where the sequence numbers are equal (R190, R381). -/
def pickSlot (a b : Bool) (seqA seqB : Nat) : Option (Fin 2) :=
  if a then (if b && seqNewer seqB seqA then some 1 else some 0) else if b then some 1 else none

/-- The words of an image take effect in their registers (R183, R191). -/
def loadWords (s : State) (recs : List (Nat × Word)) : State :=
  s.forEach recs (fun s e => s.setWord e.1 ((s.word e.1 &&& ~~~ imgMask e.1) ||| (e.2 &&& imgMask e.1)))

/-- The records Candle keeps are loaded: the stored trims after any full reset (R116) and, after a POR, the stored calibration
factors (R135). -/
def loadStored (s : State) : State :=
  let s1 := s.forEach allChans (fun (s : State) (n : Chan) => s.setWord (CELL_AO_TRIM_ZERO n).addr s.nv.trims[n])
  if s.get SYS_RESET_CAUSE_CLASS ≠ 0 then s1
  else s1.forEach allBanks (fun (s : State) (b : Bank) =>
    let ws : List Word := match s.nv.cal[b] with
      | some (ws, _) => ws
      | none => []
    let s := s.setWord (BANK_P_OFFSET_OFFSET b).addr (ws.getD 0 0)
    let s := s.forEach (List.range 5) (fun (s : State) (g : Nat) => s.setWord (BANK_P_GAIN_GAIN b g).addr (ws.getD (1 + g) 0))
    (s.setWord (BANK_C_OFFSET_OFFSET b).addr (ws.getD 6 0)).setWord (BANK_C_GAIN_GAIN b).addr (ws.getD 7 0))

/-- The selected fabric image is loaded (R190, R191), and its injected entries feed their units (R128). -/
def loadImage (s : State) (k : Fin 2) : State :=
  let img := s.nv.fab[k]
  let body := imgBody img
  let s1 := ({ s with fabLoaded := true }).loadWords (imgAllSeats body.recs)
  let s2 := s1.forEach body.nodes (fun s e => s.setWord e.1 e.2)
  let s3 := (s2.put FABRIC_STAT_ACTIVE_SLOT k.val).putDigest 0xE0000 (imgDigest img)
  s3.forEach allBanks (fun (s : State) (b : Bank) => s.refreshInjFeeds b s.now)

/-- Boot step 2's decision for VOTIVE (R351, R352): OTP, then the strap, then FAIL_CNT. -/
def bootGate (s : State) (bootSel : Bool) : Option (Nat × Nat) :=
  if s.nv.identBad ∨ (List.finRange 4).any (fun k => s.nv.hashBad[k] && s.keyProgrammed k) then some (6, 0)
  else if bootSel then some (2, 0)
  else if s.get SYS_BOOT_STAT_FAIL_CNT = 3 then some (1, s.lastFail)
  else none

/-- The start of a boot is recorded (R349, R351). -/
def bootStart (s : State) (bootSel : Bool) : State :=
  let cls := s.get SYS_RESET_CAUSE_CLASS
  let failed := s.bootEnded && (cls == 2 || cls == 3)
  let s1 := { s with
    inReset := false, wdgStart := s.now, releasedAt := s.now, bootEnded := false
    lastFail := if failed then cls else s.lastFail }
  let s2 := (s1.addWrap SYS_BOOT_STAT_BOOTS 1).putB SYS_BOOT_STAT_BOOT_SEL bootSel
  let s3 := if failed then s2.put SYS_BOOT_STAT_FAIL_CNT (min 3 (s2.get SYS_BOOT_STAT_FAIL_CNT + 1)) else s2
  let s4 := s3.putB CANDLE_STAT_LOG_OK s3.newestSummary.isSome
  if s4.isSet SYS_RESET_CAUSE_AON_LOST then s4.candleRestore.noteWear else s4

/-- A boot that finds firmware and images but none that fits the other (R353) takes the ring role from the newest valid image, so that
a node joins in VOTIVE (R354; DESIGN CHOICE, log entry 45): the words of its RING block take effect. -/
def votiveRing (s : State) (j : Fin 2) : State :=
  (s.loadWords ((imgAllSeats (imgBody s.nv.fab[j]).recs).filter (fun e => e.1 / 0x10000 == 8))).ringBoot

/-- Boot steps 5 and 6 (R190, R349, R381): the engine firmware and the fabric image are validated and selected. -/
def bootImages (s : State) : State :=
  let s1 := (s.checkFwSlot 0).checkFwSlot 1
  match pickSlot (s1.isSet (NVM_FW_SLOT_VALID 0)) (s1.isSet (NVM_FW_SLOT_VALID 1)) (s1.get (NVM_FW_SEQ_SEQ 0)) (s1.get (NVM_FW_SEQ_SEQ 1)) with
  | none => s1.enterVotive 3 (s1.get (NVM_FW_SLOT_CODE 0))
  | some k =>
    let s2 := ((s1.put NVM_FW_ACTIVE_SLOT k.val).put NVM_FW_ACTIVE_MAJOR (s1.get (NVM_FW_SLOT_MAJOR k))).put NVM_FW_ACTIVE_MINOR
      (s1.get (NVM_FW_SLOT_MINOR k))
    let s3 := (s2.checkSlot 0).checkSlot 1
    let valid (j : Fin 2) : Bool := s3.isSet (FABRIC_SLOT_VALID j)
    let fits (j : Fin 2) : Bool := valid j && s3.get (FABRIC_SLOT_CODE j) == 0
    let seq (j : Fin 2) : Nat := s3.get (FABRIC_SLOT_SEQ_SEQ j)
    match pickSlot (fits 0) (fits 1) (seq 0) (seq 1) with
    | some j => s3.loadImage j
    | none =>
      match pickSlot (valid 0) (valid 1) (seq 0) (seq 1) with
      | none => s3.enterVotive 4 (s3.get (FABRIC_SLOT_CODE 0))
      | some j => (s3.enterVotive 5 (s3.get (FABRIC_SLOT_FW_MAJOR j))).votiveRing j

/-- What the image's configuration starts before BOOT_OK (R300, R349 steps 7 to 9): Candle's plans, the pair straps, the
ring role; a paired head claims as its unit does (R318). -/
def bootFinal (s : State) (prio : Fin 8) : State :=
  let s1 := ((s.replan).pairBoot prio).ringBoot
  if s1.isHead ∧ s1.isSet PAIR_CFG_EN then s1.put RING_CLAIM_CLAIM (s1.get PAIR_CLAIM_CLAIM) else s1

/-- RESET_RELEASE (R349, R351 to R353): the boot steps up to the one that goes to VOTIVE, or up to BOOT_OK, which is its own
step. `memBad` is the number of a 64 KiB block that fails the check of step 4, `prio` the PAIR_PRIO straps. -/
def resetRelease (s : State) (bootSel : Bool) (memBad : Option (BitVec 8)) (prio : Fin 8) : State :=
  if ! s.inReset ∨ s.graceWait then s
  else
    let s1 := (s.bootStart bootSel).readWords.loadStored
    match s1.bootGate bootSel with
    | some (c, d) => s1.enterVotive c d
    | none =>
      let s2 := s1.putB CLKMON_STAT_PLL_LOCK true
      match memBad with
      | some k => s2.enterVotive 7 k.toNat
      | none =>
        let s3 := s2.bootImages
        if s3.fabLoaded then s3.bootFinal prio else s3

/-- BOOT_OK (R340, R350, R428): MARKHOR's last boot step; the device enters STARTUP. -/
def bootOk (s : State) (ms : Nat) : State :=
  if s.inReset ∨ s.mode ≠ .boot ∨ ! s.fabLoaded then s
  else
    let s1 := ((s.putB SYS_BOOT_OK_OK true).put SYS_BOOT_OK_BOOT_MS (min ms 0xFFFF)).put SYS_BOOT_STAT_FAIL_CNT 0
    let s2 := ({ s1 with wdgStart := s.now, seatAge := Vector.replicate 4 0 }).wdgTake
    let s3 := ((s2.putB WDG_STAT_BOOT_VALUES false).putB WDG_STAT_WINDOW_OPEN false).putB WDG_STAT_ARMED false
    let s4 := if s.isSet SYS_CW_STAT_AUTO_LOCK then (s3.putB SYS_LOCK_LOCKED true).putB SYS_LOCK_BY_AUTO true else s3
    let s5 := if s.isSet CLKMON_STAT_SOURCE then s4.raiseLine 55 allSeats else s4
    ((s5.setMode .startup).startFold false).pairStartup

/-- BOOT_DEADLINE (R350): 2 s after the release without BOOT_OK. -/
def bootDeadline (s : State) : State :=
  if s.inReset ∨ s.mode ≠ .boot ∨ s.boundaryTime < s.releasedAt + 8000000 then s else s.wdgFail 4 (s.wdgCount 0)

/-- MPU_FAULT (R242, R243): an engine's blocked access is recorded, line 57 is raised in all seats, and a WDR follows. -/
def mpuFault (s : State) (e : Fin 11) (kind : BitVec 2) (priv : Bool) (addr : Word) : State :=
  if s.inReset then s
  else
    let s1 := (s.addSat (MPU_FAULT_CNT_CNT e) 1).put (MPU_FAULT_ADDR_ADDR e) addr.toNat
    let s2 := ((s1.put (MPU_FAULT_INFO_KIND e) kind.toNat).putB (MPU_FAULT_INFO_PRIV e) priv).putB (MPU_FAULT_INFO_VALID e) true
    (s2.raiseLine 57 allSeats).wdgFail 5 (s.wdgCount 0)

/-- ECC_UNCORRECTABLE (R234, R342): the ECC source latches, line 58; in MARKHOR's own memory a WDR follows. -/
def eccUncorrectable (s : State) (markhor : Bool) : State :=
  if s.inReset then s
  else
    let s1 := s.eccError
    if markhor then s1.wdgFail 7 (s.wdgCount 0) else s1

/-- FAULT_ECC_CLEAR (R234): FAULT_CLR.ECC by a seat with its MODE_SEATS bit. -/
def faultEccClear (s : State) (x : Seat) : State :=
  if s.inReset ∨ ! s.modeSeat x then s else { s with eccLatch := false }

/-- LOCKSTEP_DISAGREE (R342). -/
def lockstepDisagree (s : State) : State := s.wdgFail 6 (s.wdgCount 0)

/-- RESET_CMD (R343): the key takes an HFR at the commit. -/
def resetCmd (s : State) (x : Seat) : State :=
  if s.inReset ∨ ! s.modeSeat x ∨ s.mode = .boot then s else { s with commits := s.commits ++ [.hfr] }

/-- JTAG_RESET (R343, R388): where the debug level permits it. -/
def jtagReset (s : State) : State :=
  if s.inReset ∨ ! s.debugPermitted then s else { s with commits := s.commits ++ [.hfr] }

/-- BOOT_RETRY (R355): in VOTIVE only. -/
def bootRetry (s : State) (x : Seat) : State :=
  if s.inReset ∨ ! s.modeSeat x ∨ s.mode ≠ .votive then s else { s with commits := s.commits ++ [.bootRetry] }

/-- VDDIO_CHANGE (R359): the host-port pins follow VDDIO. -/
def vddioChange (s : State) (valid : Bool) : State := { s with vddio := valid }

/-! ### Modes -/

/-- A mode command is accepted in the present mode (R165). -/
def modeCmdOk (s : State) (m : Mode) : Bool :=
  match m with
  | .run => s.mode == .startup || s.mode == .test || s.mode == .recovery || s.mode == .run
  | .test => s.mode == .startup || s.mode == .run || s.mode == .recovery
  | _ => false

/-- RESET_INTENT is accepted in the present mode (R165). -/
def intentOk (s : State) : Bool := s.mode == .startup || s.mode == .run || s.mode == .test

/-- REC_REQ is accepted in the present mode (R165). -/
def recReqOk (s : State) : Bool := s.mode == .run || s.mode == .test

/-- REC_END is accepted (R165): the bank is in RECOVERY. -/
def recEndOk (s : State) (b : Bank) : Bool := s.recReqOk && (s.lbank b).recovery

/-- What waits for the commit takes a further entry. -/
def atCommit (s : State) (a : CommitAct) : State := { s with commits := s.commits ++ [a] }

/-- MODE_CMD_RUN and MODE_CMD_TEST by a seat (R165). -/
def modeCmd (s : State) (x : Seat) (m : Mode) : State :=
  if s.inReset ∨ ! s.modeSeat x ∨ ! s.modeCmdOk m then s else s.atCommit (.mode m)

/-- An accepted RESET_INTENT (R172): RECOVERY at the next commit; Candle folds (R368). -/
def declareReset (s : State) : State := ((s.putB SYS_RESET_INTENT_DONE false).atCommit .resetIntent).startFold false

/-- RESET_INTENT by a seat (R172). -/
def resetIntent (s : State) (x : Seat) : State :=
  if s.inReset ∨ ! s.modeSeat x ∨ ! s.intentOk then s else s.declareReset

/-- REC_REQ by a seat (R165). -/
def recReq (s : State) (x : Seat) (b : Bank) : State :=
  if s.inReset ∨ ! s.modeSeat x ∨ ! s.recReqOk then s else s.atCommit (.recReq b)

/-- REC_END by a seat (R165). -/
def recEnd (s : State) (x : Seat) (b : Bank) : State :=
  if s.inReset ∨ ! s.modeSeat x ∨ ! s.recEndOk b then s else s.atCommit (.recEnd b)

/-- A mode command ends the modes that a snapshot has given banks (R165, R315). -/
def clearMirrored (s : State) : State :=
  s.forEach allBanks (fun (s : State) (b : Bank) => s.modLbank b (fun l => { l with mirrored := none }))

/-- A mode command takes effect at the commit (R165, R172). RUN in RUN changes nothing. -/
def commitMode (s : State) : CommitAct → State
  | .mode m => if s.mode = m then s else (s.clearMirrored.forEach allBanks (fun s b => s.setBankRec b false)).setMode m
  | .resetIntent =>
    let s1 := s.clearMirrored.forEach allBanks (fun s b => (s.setBankRec b true).modLbank b (fun l => { l with reported := false }))
    s1.setMode .recovery
  | .recReq b => s.setBankRec b true
  | .recEnd b => s.setBankRec b false
  | _ => s

/-- The mode commands that wait take effect, in the order they were accepted. -/
def commitModes (s : State) : State := s.commits.foldl commitMode s

/-- SEAT_TIMEOUT (R167, R170): at the boundary, where the seat's time has run out, after the mode commands, the adopted output cells of the seat take the
cause SILENCE_RUN or SILENCE, unless the logic side holds another cause for them; a paired bank that the unit does not hold
is left alone (R304). -/
def seatTimeout (s : State) (x : Seat) : State :=
  if s.inReset ∨ s.mode = .boot ∨ s.mode = .votive ∨ s.seatFresh[x] ∨ s.get SYS_PWR_STAT_STATE = 3 then s
  else if s.isSet (SEAT_STAT_TIMED_OUT x) ∨ s.seatAge[x] + 10 < 1000 * s.get (SEAT_CFG_TIMEOUT_MS x) then s
  else
    let m := s.commitModes
    let cells := allChans.filter (fun (n : Chan) =>
      s.owner n == x && family (s.lfn n) == 2 && s.isSet (CELL_STATE_ADOPTED n) && s.holdsBank (bankOf n))
    let s1 := s.forEach cells (fun s n => s.modLcell n (fun c =>
      if c.cause = .none then { c with cause := if m.bankModeCmd (bankOf n) = .run then .silenceRun else .silence } else c))
    ((s1.putB (SEAT_STAT_TIMED_OUT x) true).addSat (SEAT_STAT_TIMEOUTS x) 1).raiseLine (40 + x.val) allSeats

end State

end Sys2Proof.Machine
end

