-- ==== Sys2Proof/Machine/Reads.lean ====
section
/-!
DEFINITION. What a seat reads (R215, R220, R222, R224 to R229, R419 to R421): the rows of the address map, the firewall,
and the word at an address; the publication of sector 0.
-/

namespace Sys2Proof.Machine

/-- The first and last address of each row of the address map (R419). -/
def mapRows : List (Nat × Nat) :=
  (List.range 15).map (fun i => (0x10000 * i, 0x10000 * i + 0xFFFF)) ++
    [(0x100000, 0x10FFFF), (0x1000000, 0x11FFFFF), (0x1200000, 0x127FFFF), (0x1400000, 0x14FFFFF)]

/-- The row that holds an address. -/
def rowOf (a : Nat) : Option (Nat × Nat) := mapRows.find? (fun r => decide (r.1 ≤ a) && decide (a ≤ r.2))

/-- An address inside a row that no access reaches: engine working data, and the rest of the mailbox region (R224, R420). -/
def holeIn (a : Nat) : Bool :=
  (decide (0x1260000 ≤ a) && decide (a ≤ 0x127FFFF)) || (decide (0x1440000 ≤ a) && decide (a ≤ 0x14FFFFF))

/-- An address is mapped. -/
def mapped (a : Nat) : Bool := (rowOf a).isSome && ! holeIn a

/-- The word addresses of a range that starts at an address. -/
def wordAddrs (a words : Nat) : List Nat := (List.range words).map (fun i => a + 4 * i)

/-- The first word of a range that is not mapped, or that lies in another row than the first (R215 check 4, R420). -/
def unmappedWord (a words : Nat) : Option Nat :=
  (wordAddrs a words).find? (fun w => ! mapped w || rowOf w != rowOf a)

/-- The mailbox an address lies in (R224). -/
def mailboxOf (a : Nat) : Option Seat :=
  if 0x1400000 ≤ a ∧ a < 0x1440000 then some (Fin.ofNat 4 ((a - 0x1400000) / 0x10000)) else none

/-- The first address of a seat's mailbox. -/
def mailboxBase (x : Seat) : Nat := 0x1400000 + 0x10000 * x.val

/-- The own SEAT and EVT registers of a seat. -/
def ownRegs (x : Seat) (a : Nat) : Bool :=
  (decide (0x20000 + 0x100 * x.val ≤ a) && decide (a < 0x20100 + 0x100 * x.val)) ||
    (decide (0x30000 + 0x100 * x.val ≤ a) && decide (a < 0x30100 + 0x100 * x.val))

/-- The rows a write may reach in VOTIVE (R222): SYS, SEAT, EVT, NVM, SEC, and the FABRIC load registers. -/
def votiveRow (a : Nat) : Bool :=
  decide (a < 0x10000) || (decide (0x20000 ≤ a) && decide (a < 0x40000)) || (decide (0xB0000 ≤ a) && decide (a < 0xC0000)) ||
    (decide (0xD0000 ≤ a) && decide (a < 0xE0000)) || (decide (0xE0040 ≤ a) && decide (a < 0xE0080)) ||
    (decide (0xE0100 ≤ a) && decide (a < 0xE0200))

/-- A point word of the process image: sector, point, and which of its words (0 OUT, 1 IN, 2 QUAL) (R225, R226). -/
def pointOf (a : Nat) : Option (Nat × Nat × Nat) :=
  if a < 0x1000000 ∨ 0x1200000 ≤ a then none
  else
    let o := (a - 0x1000000) % 0x400
    if o < 0x100 then none else some ((a - 0x1000000) / 0x400, (o - 0x100) / 12, (o - 0x100) % 12 / 4)

namespace State

/-- A window of a seat's firewall holds an address with the permission needed (R220). -/
def windowHolds (s : State) (x : Seat) (write : Bool) (a w : Nat) : Bool :=
  s.isSet (SEAT_FW_BASE_EN x w) && decide (s.get (SEAT_FW_BASE_BASE x w) ≤ a / 64) && decide (a / 64 ≤ s.get (SEAT_FW_LIMIT_LIMIT x w)) &&
    (s.get (SEAT_FW_BASE_PERM x w) == 3 || (! write && s.get (SEAT_FW_BASE_PERM x w) == 1))

/-- The firewall of a seat allows an access (R220); the registers read 0 and it is not in force before an image is loaded
(R428). -/
def firewallOk (s : State) (x : Seat) (write : Bool) (a : Nat) : Bool :=
  ! s.isSet (SEAT_CFG_FW_EN x) || (! write && (ownRegs x a || mailboxOf a == some x)) ||
    (List.range 8).any (s.windowHolds x write a)

/-- The device mode allows an access (R222). -/
def modeAllows (s : State) (x : Seat) (write : Bool) (a : Nat) : Bool :=
  match s.mode with
  | .boot => ! write && (decide (a < 0x10000) || ownRegs x a)
  | .votive => ! write || votiveRow a
  | _ => true

/-- The sources of FAULT_N that are live (table FAULT_SRC). -/
def faultSources (s : State) : Nat :=
  ofBits [
    allChans.any (fun (n : Chan) => s.get (CELL_STATE_STATE n) == CellState.fault.code),
    allBanks.any (fun (b : Bank) => ! s.isSet (BANK_LINK_UP b)),
    allBanks.any (fun (b : Bank) => s.isSet (BANK_SUP_STAT_UV_LATCHED b)),
    s.isSet CLKMON_STAT_SOURCE,
    s.eccLatch,
    s.get RING_STAT_STATE == 2 || s.get RING_STAT_STATE == 3,
    s.isSet PAIR_STAT_DEGRADED,
    s.isSet CANDLE_STAT_LIFE_ALARM,
    allSeats.any (fun (x : Seat) => s.linePending x 57)]

/-- FAULT_N is forced low (R234). -/
def faultForced (s : State) : Bool := s.mode == .boot || s.mode == .votive

/-- FAULT_N is driven low (R234). -/
def faultLow (s : State) : Bool :=
  s.inReset || s.faultForced || ! s.isSet SYS_BOOT_OK_OK || s.faultSources &&& s.get EVT_FAULT_EN_EN != 0

/-- IRQ0_N (p = 0) or IRQ1_N (p = 1) (R233): high impedance from reset until the host ports are powered; then low while a
seat drives it, else high where PIN_CFG makes it push-pull, and released to its pull-up where open-drain. EXTEST drives the
land in the device's place (R417). -/
def irqPin (s : State) (p : Nat) : PinLevel :=
  match s.scanDrives (51 + p) with
  | some v => if v then .high else .low
  | none =>
    if s.inReset ∨ ! s.vddio then .highZ
    else if allSeats.any (fun (x : Seat) => s.seatDrives x p) then .low
    else if s.isSet ⟨EVT_PIN_CFG_IRQ0_PP.addr, p, 1⟩ then .high else .highZ

/-- FAULT_N, an open-drain pin (R234), or what EXTEST drives on its land (R417). -/
def faultPin (s : State) : PinLevel :=
  match s.scanDrives 53 with
  | some v => if v then .high else .low
  | none => if s.faultLow then .low else .highZ

/-- A word of the EVT block of a seat (table EVT). -/
def eventWord (s : State) (y : Seat) (a : Nat) : Word :=
  let v := s.word a
  if a = (EVT_PEND_HI_LINE y).addr then setBits v 0 4 (ofBits ((List.range 4).map (fun i => s.linePending y (32 + i))))
  else if a = (EVT_ATTN_ANY y).addr then BitVec.ofNat 32 (ofBits [s.attn y, s.seatDrives y 0, s.seatDrives y 1])
  else if 0x20 ≤ a % 0x100 ∧ a % 0x100 < 0x2C then
    let i := (a % 0x100 - 0x20) / 4
    (List.range 32).foldl (fun (v : Word) (j : Nat) => setBit v j (s.snapBit y (32 * i + j))) v
  else v

/-- A word of the Ring Node Table; entry 0 is the device itself (R267). -/
def tableWord (s : State) (a : Nat) : Word :=
  if 0x100020 ≤ a then s.word a
  else match a % 32 with
    | 0x0 => s.word 8
    | 0x4 => s.word 0xC
    | 0x8 => s.word 0xE0000
    | 0xC => s.word 0xE0004
    | _ => 0

/-- A word of the process image (R225, R226): a sector whose entry is not in use reads 0; the OUT words of sector 0 are
those of the cells. -/
def imageWord (s : State) (a : Nat) : Word :=
  match pointOf a with
  | some (0, p, 0) => if p < 32 then s.word (CELL_OUT_VALUE p).addr else 0
  | _ =>
    let k := (a - 0x1000000) / 0x400
    if k = 0 ∨ s.isSet (RNT_CTRL_IN_USE k) then s.memWord a else 0

/-- CELL[n].IN (R82): of DI and DI_NAMUR it is the cell's input word in the process image, from the first publication on. -/
def inputWord (s : State) (n : Chan) : Word :=
  if (s.lfn n = FN_DI ∨ s.lfn n = FN_DI_NAMUR) ∧ s.memWord 0x1000000 ≠ 0 then s.memWord (0x1000104 + 12 * n.val)
  else s.word (CELL_IN_LEVEL n).addr

/-- A register's word at an offset of 0.25 us into the fabric cycle, with the fields the device derives when they are
read. -/
def deviceWord (s : State) (a : Nat) (q : Nat) : Word :=
  let v := s.word a
  match cellOfAddr a with
  | some n =>
    if a % 0x400 = 0 then setBits v 4 2 (family (s.lfn n))
    else if a % 0x400 = 0x24 then
      setBit v 1 ((s.shadow ++ s.shadowLate).any (fun (e : Nat × Word) => cellOfAddr e.1 == some n))
    else if a % 0x400 = 0x180 then setBit v 1 (s.cfg.railOf n).isSome
    else if a = (CELL_IN_LEVEL n).addr then s.inputWord n
    else v
  | none =>
    match unitOfAddr a with
    | some u => if a % 0x80 = 0x10 then BitVec.ofNat 32 (s.nNow u + 2 ^ 28 * (s.units[u].isOpen).toNat) else v
    | none =>
      match bankOfAddr a with
      | some b => if a = (BANK_LINK_SINCE_LOSS b).addr ∧ ¬ s.isSet (BANK_LINK_UP b) then
          setBits v (BANK_LINK_SINCE_LOSS b).lo (BANK_LINK_SINCE_LOSS b).w 0 else v
      | none =>
        if a = 0x208 then setBits v 0 4 s.modeSeats
        else if a = 0x10014 then setBit v 3 s.wdgPending
        else if a = 0x10018 then BitVec.ofNat 32 (s.wdgCount q)
        else if a = 0x10100 then
          let awake := s.get SYS_PWR_STAT_STATE != 3
          setBit (setBit v 2 (v.getLsbD 2 && awake)) 4 (s.isSet CLKMON_CFG_SSC_EN && v.getLsbD 2 && awake)
        else if 0x20000 ≤ a ∧ a < 0x20400 ∧ a % 0x100 = 8 then
          setBits v 16 16 (min (s.seatAge[(Fin.ofNat 4 (a / 0x100) : Seat)] / 1000) 0xFFFF)
        else if a = 0x30808 then BitVec.ofNat 32 (s.faultSources + 65536 * s.faultForced.toNat)
        else if a = (RING_PORT_STAT_TX_OFF 0).addr ∨ a = (RING_PORT_STAT_TX_OFF 1).addr then
          setBit v 4 (v.getLsbD 4 || (s.ringOn && ! s.ring.bypassOpen))
        else if a = PAIR_SNAP_AGE_US.addr then
          BitVec.ofNat 32 (if s.get PAIR_STAT_ROLE = 2 then s.snapAge (s.devTime (s.now + q)) else 0xFFFFFFFF)
        else if a = 0xB0000 then setBits (setBit v 0 (s.nvmOp != 0)) 1 3 s.nvmOp
        else if 0xC0000 ≤ a ∧ a < 0xC0200 ∧ a % 0x20 = 0x14 then
          let c := (a - 0xC0000) / 0x20
          if 8 ≤ c then BitVec.ofNat 32 ((c - 8) / 2) else BitVec.ofNat 32 (0x10 + (Config.dmaEngine c).val)
        else if 0xC0800 ≤ a ∧ a < 0xC1300 ∧ a % 0x100 < 0x80 then
          if s.fabLoaded then Config.mpuRegion ((a - 0xC0800) / 0x100) (a % 0x100 / 4) &&& (if a % 8 = 0 then 0xFFFFFFE1 else 0xFFFFFFEF)
          else 0
        else v

/-- What a seat reads at a word address (R215 to R229, R421); a WO field reads 0 (R216). -/
def readWord (s : State) (x : Seat) (a : Nat) (q : Nat) : Word :=
  if 0x1000000 ≤ a then (if a < 0x1200000 then s.imageWord a else s.memWord a)
  else if 0x100000 ≤ a then s.tableWord a
  else
    let key := seatKey x a
    let v := if 0x30000 ≤ a ∧ a < 0x30400 then s.eventWord (Fin.ofNat 4 ((a - 0x30000) / 0x100)) a else s.deviceWord key q
    v &&& ~~~ accMask (· == .wo) a

/-- What a read changes: TIME_LO latches the time (table RING TIME_HI), SEC_LO the calendar (R379). -/
def readEffect (s : State) (a : Nat) (q : Nat) : State :=
  if a = 0x80024 then
    let t := s.devTime (s.now + q)
    (s.put RING_TIME_LO_T t).put RING_TIME_HI_T (t / 4294967296)
  else if a = 0xA0800 then s.calendarLatch
  else s

/-- Words read in ascending order, with what the reads change. -/
def readRange (s : State) (x : Seat) (q : Nat) : List Nat → List Word × State
  | [] => ([], s)
  | a :: t =>
    let s1 := s.readEffect a q
    let r := s1.readRange x q t
    (s1.readWord x a q :: r.1, r.2)

/-! ### Publication of sector 0 -/

/-- The IN word of a cell by its function (R226). -/
def inWord (s : State) (n : Chan) : Word :=
  let f := s.lfn n
  if f = FN_DI ∨ f = FN_DI_NAMUR then s.word (CELL_IN_LEVEL n).addr
  else if f = FN_DI_COUNT then s.word (CELL_COUNT_COUNT n).addr
  else if isLoopFn f then BitVec.ofNat 32 (s.get (CELL_AO_STAT_RB n))
  else if isSwitchFn f then BitVec.ofNat 32 (s.get (CELL_SW_STAT_CURRENT_MA n))
  else 0

/-- The lowest-numbered unit that an entry of the sequence in effect feeds from a cell (R226). -/
def feedUnit (s : State) (n : Chan) : Option Unit96 :=
  let b := bankOf n
  let m := s.meas[b]
  let units := ((List.range 16).filter (fun k => k < m.len ∧ inputCell b (bits (m.seq.getD k 0) 0 4) = some n)).map
    (fun k => bits (m.seq.getD k 0) 16 4)
  ((List.range 16).find? (fun j => units.contains j)).map (unitOf b)

/-- The newest snapshot of a unit: SUM and COUNT; none before the first (R146). -/
def newestSum (s : State) (u : Unit96) : Option (Int × Nat) :=
  let x := s.units[u]
  let a := if x.newest1 then (STAT_SLOT1_GEN_GEN u).addr else (STAT_SLOT0_GEN_GEN u).addr
  if x.w = 0 then none
  else some (signed 48 ((s.word (a + 4)).toNat + 4294967296 * bits (s.word (a + 8)) 0 16), (s.word (a + 0xC)).toNat)

/-- The IN word of an analogue input, and whether it has no valid snapshot (R226). -/
def meanWord (s : State) (n : Chan) : Word × Bool :=
  match s.feedUnit n with
  | none => (0, true)
  | some u =>
    match s.newestSum u with
    | none => (0, true)
    | some (sum, count) => if count = 0 then (0, true) else (BitVec.ofInt 32 (sum.tdiv count), false)

/-- IN and QUAL of a cell's point (R226, R227). -/
def pointWords (s : State) (n : Chan) : Word × Word :=
  let f := s.lfn n
  let live := s.word (CELL_LIVE_OPEN_LOAD n).addr
  let analogue := f == FN_AI_V || f == FN_AI_I
  let (v, stale) := if analogue then s.meanWord n else (s.inWord n, false)
  let any (l : List Nat) : Bool := l.any (fun i => live.getLsbD i)
  let q := s.get (CELL_STATE_STATE n) + ofBits [
    false, false, false, stale || live.getLsbD FL_STALE, s.isSet RING_NODE_MISMATCH, s.isSet RING_STAT_UNSYNC,
    any [FL_ILIM, FL_FUSE_TRIP, FL_TSD, FL_COMPLIANCE], s.isSet (CELL_STATE_ADOPTED n),
    any [FL_OPEN_LOAD, FL_WIRE_BREAK, FL_SHORT_VF, FL_XFEED], live.getLsbD FL_UV_OFF]
  (v, BitVec.ofNat 32 q)

/-- NSTAT of sector 0 (R225). -/
def ownStatus (s : State) (stale : Bool) : Word :=
  BitVec.ofNat 32 (ofBits [true, s.isSet RING_NODE_MISMATCH, s.isSet RING_STAT_UNSYNC, stale, natBit s.ring.nsw 4] + 256 * 32)

/-- The IN word of an input stays as published: an analogue or a counting input in HOLD, and every input while the field die
reports that it has lost the logic side (R27, R82). A digital input's IN word is CELL[n].IN itself, which holds its level. -/
def inWordHeld (s : State) (n : Chan) : Bool :=
  let f := s.lfn n
  family f == 1 && f != FN_DI && f != FN_DI_NAMUR &&
    (s.get (CELL_STATE_STATE n) == CellState.hold.code || (s.lbank (bankOf n)).dieLost)

/-- The words of sector 0 that a publication may change: NSTAT, and OUT, IN and QUAL of the 32 points. The OUT words in
memory are those last published; a read of one gives the cell's own (R226). -/
def ownSector (s : State) : List (Nat × Word) :=
  let pts := allChans.map (fun (n : Chan) => (n, s.pointWords n))
  let stale := pts.any (fun (p : Chan × Word × Word) => p.2.2.getLsbD 3)
  (0x1000010, s.ownStatus stale) :: pts.flatMap (fun (p : Chan × Word × Word) =>
    let a := 0x1000100 + 12 * p.1.val
    [(a, s.word (CELL_OUT_VALUE p.1).addr), (a + 4, if s.inWordHeld p.1 then s.memWord (a + 4) else p.2.1), (a + 8, p.2.2)])

/-- SECTOR0_PUBLISH (R228, R241): at a boundary at which one of its words changes, sector 0 is published. -/
def publishOwn (s : State) (t : Nat) : State :=
  let ws := s.ownSector
  if ws.all (fun (e : Nat × Word) => s.memWord e.1 == e.2) then s
  else
    let d := s.devTime t
    let s1 := s.forEach ws (fun (s : State) (e : Nat × Word) => s.setMemWord e.1 e.2)
    let s2 := s1.setMemWords 0x1000000 [BitVec.ofNat 32 (nextGen (s.memWord 0x1000000).toNat), BitVec.ofNat 32 s.cycle,
      BitVec.ofNat 32 d, BitVec.ofNat 32 (d / 4294967296)]
    (s2.dmaEdge 2 (fun _ => true)).notePub d

end State

end Sys2Proof.Machine
end

