-- ==== Sys2Proof/Machine/Dma.lean ====
section
/-!
DEFINITION. The DMA controller (R235 to R241): channels, descriptors, beats, generation words, faults and triggers. Channels
8 to 15 act for their seats; channels 0 to 7 act for the engines, whose MPU regions bound them (R242; log entry 36).
-/

namespace Sys2Proof.Machine

/-- For whom a channel acts (R235). -/
inductive DmaAgent
  | seat (x : Seat)
  | engine (e : Fin 11)
  deriving DecidableEq, Repr

/-- For whom a channel acts (R235); the engine of a channel 0 to 7 is the vendor's choice. -/
def agentOf (c : DmaCh) : DmaAgent :=
  match seatOfCh c with
  | some x => .seat x
  | none => .engine (Config.dmaEngine c.val)

/-- The causes of a DMA fault (table CAUSE of R240); an MPU fault with the address it meets. -/
inductive DmaCause
  | desc | dest | firewall | owner | ecc | torn | stop | unmapped | source
  | mpu (a : Nat)
  deriving DecidableEq, Repr

/-- The code of a cause; the one for a source the seat may not read is a free value. -/
def DmaCause.code : DmaCause → Nat
  | .desc => 1 | .dest => 2 | .firewall => 3 | .mpu _ => 4 | .owner => 5 | .ecc => 6 | .torn => 7 | .stop => 8 | .unmapped => 9
  | .source => 1 + Config.dmaSourceCause.val

/-- An address in the SRAM windows of the map, the engines' own parts of them among it (R224). -/
def inSram (a : Nat) : Bool := decide (0x1000000 ≤ a) && (rowOf a).isSome

/-- A descriptor may lie at an address: 32-byte aligned, for a seat in its mailbox (R236), for an engine in SRAM. -/
def descAt (g : DmaAgent) (a : Nat) : Bool :=
  a % 32 == 0 && match g with
    | .seat x => decide (mailboxBase x ≤ a) && decide (a < mailboxBase x + 0x10000)
    | .engine _ => inSram a

/-- The priority of a channel's descriptor (R236): 0 to 3 for a host channel, 4 to 7 for an engine channel. -/
def DmaRun.prio (r : DmaRun) (c : DmaCh) : Nat := bits r.ctrl 4 2 + if (seatOfCh c).isSome then 0 else 4

/-- The source and destination addresses of the next beat (R236). -/
def DmaRun.from (r : DmaRun) : Nat := if r.ctrl.getLsbD 0 then r.src + r.done else r.src
def DmaRun.to (r : DmaRun) : Nat := if r.ctrl.getLsbD 1 then r.dst + r.done else r.dst

namespace State

/-- The DMA part changed. -/
def modDma (s : State) (g : DmaSt → DmaSt) : State := { s with dma := g s.dma }

/-- A channel's chain replaced. -/
def setRun (s : State) (c : DmaCh) (r : Option DmaRun) : State := s.modDma (fun d => { d with run := d.run.set c r })

/-- The status code of a write of an OUT word of a remote sector (R225, R230, R320). -/
def remoteCheck (s : State) (x : Seat) (k p : Nat) (w : Word) : Nat :=
  if ! s.isSet (RNT_CTRL_IN_USE k) ∨ s.get (RNT_CTRL_NPTS k) ≤ p then 0x04
  else if s.get (RNT_CTRL_OWNER k) ≠ x.val then 0x07
  else if s.pair.demoted then 0x08
  else if bits w 16 16 ≠ 0 then 0x0A
  else 0

/-- The status code of a write of a word of the process image (R225, R226). -/
def imageCheck (s : State) (x : Seat) (a : Nat) (w : Word) : Nat :=
  let k := (a - 0x1000000) / 0x400
  if k ≠ 0 ∧ ! s.isSet (RNT_CTRL_IN_USE k) then 0x04
  else match pointOf a with
    | some (0, p, r) => if 32 ≤ p then 0x04 else if r ≠ 0 then 0x06 else s.outCheck x (Fin.ofNat 32 p) w
    | some (k, p, r) => if r ≠ 0 then 0x06 else s.remoteCheck x k p w
    | none => 0x06

/-- An OUT word of a remote sector, accepted at a device time in ns, is in the image, and the sector's OUT values are the
owner's (R230, R257); what was there before goes out in a cycle that starts less than 2 us later (R261). -/
def postRemote (s : State) (a : Nat) (w : Word) (t : Nat) : State :=
  let k := (a - 0x1000000) / 0x400
  (s.setMemWord a w).modRing (fun r => { r with
    outValid := k :: r.outValid.erase k, outNew := r.outNew ++ [(a, s.memWord a, r.outValid.contains k, t)] })

/-- A line raised for the seat of a channel; an engine channel has none. -/
def dmaLine (s : State) (c : DmaCh) (line : Nat) : State := s.raiseLine line (seatOfCh c).toList

/-- RESULT of a descriptor is written (R236), where the descriptor may lie. -/
def writeResult (s : State) (c : DmaCh) (r : DmaRun) (v : Nat) : State :=
  if descAt (agentOf c) r.desc then s.setMemWord (r.desc + 0x1C) (BitVec.ofNat 32 v) else s

/-- The chain of a channel ends; with REARM it waits for the next trigger (R241). The triggers that came while it ran, and are
not yet counted, are missed: none queues. -/
def chainEnd (s : State) (c : DmaCh) : State :=
  let s1 := ({ s with dmaDue := s.dmaDue.set c 0 } : State).addSat (DMA_STAT_MISSED c) s.dmaDue[c]
  (((s1.setRun c none).putB (DMA_STAT_BUSY c) false).putB (DMA_STAT_PREEMPTED c) false).putB (DMA_STAT_ENABLED c)
    (s.isSet (DMA_CTRL_REARM c))

/-- What a cause is beside the channel's fault: an MPU fault of the engine, on which MARKHOR has still to act (R243), or an
uncorrectable ECC error of the memory (R234). -/
def noteCause (s : State) (c : DmaCh) : DmaCause → State
  | .mpu a => s.modDma (fun d => { d with mpuHit := some (Config.dmaEngine c.val, a) })
  | .ecc => s.eccError
  | _ => s

/-- DMA_FAULT (R239, R240): the transfer stops at the current beat; held words never take effect. -/
def dmaFault (s : State) (c : DmaCh) (r : DmaRun) (cause : DmaCause) : State :=
  let bytes := if r.held = [] then r.done else 0
  let s1 := s.writeResult c r (bytes + 0x100000 * cause.code + 0x2000000 + 0x4000000 * r.opened.toNat)
  let s2 := ((s1.raiseFld (DMA_STAT_FAULT c)).put (DMA_STAT_CAUSE c) cause.code).put (DMA_BYTES_DONE c) bytes
  let s3 := if r.opened then s2.raiseFld (DMA_STAT_TORN c) else s2
  ((s3.dmaLine c 57).noteCause c cause).chainEnd c

/-- The fields of a descriptor are good (R236, CAUSE DESC). -/
def descOk (s : State) (g : DmaAgent) (a : Nat) : Bool :=
  descAt g a &&
  (let len := (s.memWord (a + 8)).toNat
   let next := (s.memWord (a + 0x10)).toNat
   (s.memWord a).toNat % 4 == 0 && (s.memWord (a + 4)).toNat % 4 == 0 && len % 4 == 0 && decide (4 ≤ len) && decide (len ≤ 262144) &&
    s.memWord (a + 0xC) &&& 0xFFFFFFC0 == 0 && (next == 0 || descAt g next) &&
    (s.memWord (a + 0x14)).toNat % 4 == 0 && (s.memWord (a + 0x18)).toNat % 4 == 0)

/-- A descriptor is taken up: its fields are read, or the chain ends with cause DESC. -/
def loadDesc (s : State) (c : DmaCh) (a : Nat) : State :=
  let s1 := ((s.put (DMA_CUR_ADDR c) a).put (DMA_BYTES_DONE c) 0).putB (DMA_STAT_BUSY c) true
  if ! s.descOk (agentOf c) a then s1.dmaFault c { desc := a } .desc
  else
    let w (o : Nat) : Word := s.memWord (a + o)
    s1.setRun c (some {
      desc := a, src := (w 0).toNat, dst := (w 4).toNat, len := (w 8).toNat, ctrl := (w 0xC).setWidth 6, next := (w 0x10).toNat
      srcGen := (w 0x14).toNat, dstGen := (w 0x18).toNat })

/-- A trigger reaches an enabled channel: the chain starts, or the trigger is counted as missed (R241). -/
def trigChain (s : State) (c : DmaCh) : State :=
  if ! s.isSet (DMA_STAT_ENABLED c) then s
  else if s.isSet (DMA_STAT_BUSY c) then s.addSat (DMA_STAT_MISSED c) 1
  else s.loadDesc c (s.get (DMA_DESC_ADDR c))

/-- CTRL.START (R241): the channel is enabled; with TRIG 0 the chain starts. -/
def dmaStart (s : State) (c : DmaCh) : State :=
  let s1 := s.putB (DMA_STAT_ENABLED c) true
  if s.get (DMA_CTRL_TRIG c) = 0 then s1.trigChain c else s1

/-- CTRL.STOP (R238, R240): a chain stops as a fault with cause STOP; the channel is disabled, and no trigger waits. -/
def dmaStop (s : State) (c : DmaCh) : State :=
  let s1 := match s.dma.run[c] with
    | some r => s.dmaFault c r .stop
    | none => s
  { s1.putB (DMA_STAT_ENABLED c) false with dmaDue := s1.dmaDue.set c 0 }

/-- Vendor firmware writes DESC and CTRL of an engine channel with START set (R235, R241). -/
def engineStart (s : State) (c : DmaCh) (ctrl : BitVec 16) (desc : Word) : State :=
  if s.inReset ∨ (seatOfCh c).isSome ∨ 3 < bits ctrl 4 4 ∨ desc.toNat % 32 ≠ 0 then s
  else
    let s1 := (s.put (DMA_DESC_ADDR c) desc.toNat).putB (DMA_CTRL_REARM c) (ctrl.getLsbD 2)
    ((s1.put (DMA_CTRL_TRIG c) (bits ctrl 4 4)).put (DMA_CTRL_LINE c) (bits ctrl 8 6)).dmaStart c

/-- Vendor firmware writes STOP of an engine channel. -/
def engineStop (s : State) (c : DmaCh) : State := if s.inReset ∨ (seatOfCh c).isSome then s else s.dmaStop c

/-- DMA_TRIGGER (R241): a trigger that TRIG selects has come, as the line, the publication or the cycle has noted. -/
def dmaTrigger (s : State) (c : DmaCh) : State :=
  if s.inReset ∨ s.sleeping ∨ s.dmaDue[c] = 0 then s
  else ({ s with dmaDue := s.dmaDue.set c (s.dmaDue[c] - 1) } : State).trigChain c

/-- A region of an engine's MPU holds an address with the permission needed (R242, table MPU). -/
def regionHolds (s : State) (e : Fin 11) (write : Bool) (a i : Nat) : Bool :=
  let base := s.deviceWord (MPU_BASE_EN e i).addr 0
  let attr := s.deviceWord (MPU_ATTR_R e i).addr 0
  base.getLsbD 0 && decide (bits base 5 27 ≤ a / 32) && decide (a / 32 ≤ bits attr 5 27) &&
    attr.getLsbD (if write then 1 else 0) && (! attr.getLsbD 3 || Config.enginePriv e)

/-- The MPU of an engine allows an access (R242). -/
def mpuOk (s : State) (e : Fin 11) (write : Bool) (a : Nat) : Bool := (List.range 16).any (s.regionHolds e write a)

/-- Why a channel may not read an address (R235, R237, R240). -/
def sourceBar (s : State) (g : DmaAgent) (a : Nat) : Option DmaCause :=
  match g with
  | .engine e => if (rowOf a).isNone then some .unmapped else if s.mpuOk e false a then none else some (.mpu a)
  | .seat x =>
    if ! mapped a then some .unmapped
    else if ! s.firewallOk x false a then some .firewall
    else match mailboxOf a with
      | some y => if y = x then none else some .source
      | none => none

/-- Why an engine's channel may not write an address: its MPU, or no SRAM (R242; log entry 36). -/
def engineBar (s : State) (e : Fin 11) (a : Nat) : Option DmaCause :=
  if (rowOf a).isNone then some .unmapped
  else if ! s.mpuOk e true a then some (.mpu a)
  else if inSram a then none else some .dest

/-- Why a channel may not write a word (R235, R237, R240). -/
def destBar (s : State) (g : DmaAgent) (a : Nat) (w : Word) : Option DmaCause :=
  match g with
  | .engine e => s.engineBar e a
  | .seat x =>
    if ! mapped a then some .unmapped
    else if mailboxOf a = some x then (if s.firewallOk x true a then none else some .firewall)
    else match pointOf a with
      | some (_, _, 0) =>
        if ! s.firewallOk x true a then some .firewall
        else match s.imageCheck x a w with
          | 0 => none
          | 0x04 => some .unmapped
          | _ => some .owner
      | _ => some .dest

/-- Why the destination generation word may not be kept (R237): for a seat, it lies outside the mailbox. -/
def genBar (s : State) (g : DmaAgent) (a : Nat) : Option DmaCause :=
  match g with
  | .engine e => s.engineBar e a
  | .seat x =>
    if ! mapped a then some .unmapped
    else if mailboxOf a ≠ some x then some .dest
    else if s.firewallOk x true a then none else some .firewall

/-- The word a channel reads (R421): a seat's, or an engine's, whose view of the seat-banked registers is that of a debug
access (log entry 36). -/
def beatWord (s : State) (g : DmaAgent) (a q : Nat) : Word :=
  match g with
  | .seat x => s.readWord x a q
  | .engine _ => if holeIn a then s.memWord a else s.readWord 0 a q

/-- A channel writes an address straight away: a seat's mailbox, or what an engine reaches (R237). -/
def writesNow (g : DmaAgent) (a : Nat) : Bool :=
  match g with
  | .seat x => mailboxOf a == some x
  | .engine _ => true

/-- What comes before the first beat of a descriptor (R239): the destination generation word is made odd. -/
def openGen (s : State) (r : DmaRun) : State × DmaRun :=
  if r.dstGen = 0 ∨ r.opened then (s, r)
  else
    let g := s.memWord r.dstGen
    ((if g.getLsbD 0 then s else s.setMemWord r.dstGen (g + 1)), { r with opened := true })

/-- An attempt under GEN_CHECK has seen an odd, zero or changed generation word (R239): the descriptor is repeated, up to
four times in all. -/
def retryGen (s : State) (c : DmaCh) (r : DmaRun) : State :=
  let r1 := { r with attempts := r.attempts + 1, done := 0, before := none, held := [] }
  if 4 ≤ r1.attempts then s.dmaFault c { r with attempts := r1.attempts } .torn
  else (s.setRun c (some r1)).put (DMA_BYTES_DONE c) 0

/-- GEN_CHECK is set with a source generation word (R236, R239). -/
def genChecked (r : DmaRun) : Bool := r.ctrl.getLsbD 2 && r.srcGen != 0

/-- One word is moved (R237, R238); `ecc` says that reading the source finds an uncorrectable error. -/
def moveWord (s : State) (c : DmaCh) (r : DmaRun) (ecc : Bool) (q : Nat) : State :=
  let g := agentOf c
  match s.sourceBar g r.from with
  | some e => s.dmaFault c r e
  | none =>
    if ecc then s.dmaFault c r .ecc
    else
      let w := s.beatWord g r.from q
      let s1 := s.readEffect r.from q
      match s1.destBar g r.to w with
      | some e => s1.dmaFault c r e
      | none =>
        let r1 := { r with done := r.done + 4 }
        let s2 := s1.put (DMA_BYTES_DONE c) r1.done
        if State.writesNow g r.to then (s2.setMemWord r.to w).setRun c (some r1)
        else s2.setRun c (some { r1 with held := r.held ++ [(r.to, w)] })

/-- A beat of a channel: before the first one, the generation words (R239). -/
def beatOf (s : State) (c : DmaCh) (r : DmaRun) (ecc : Bool) (q : Nat) : State :=
  if r.done ≠ 0 then s.moveWord c r ecc q
  else
    match if r.dstGen = 0 then none else s.genBar (agentOf c) r.dstGen with
    | some e => s.dmaFault c r e
    | none =>
      let (s1, r1) := s.openGen r
      if ! State.genChecked r then s1.moveWord c r1 ecc q
      else match s1.sourceBar (agentOf c) r.srcGen with
        | some e => s1.dmaFault c r1 e
        | none =>
          let g := s1.beatWord (agentOf c) r.srcGen q
          if g.getLsbD 0 ∨ g = 0 then s1.retryGen c r1 else s1.moveWord c { r1 with before := some g } ecc q

/-- A channel has a beat ready (R238). -/
def beatReady (s : State) (c : DmaCh) : Bool :=
  match s.dma.run[c] with
  | some r => decide (r.done < r.len)
  | none => false

/-- PRIO of a channel's running descriptor. -/
def runPrio (s : State) (c : DmaCh) : Nat := match s.dma.run[c] with
  | some r => r.prio c
  | none => 0

/-- The channel served next (R238): of the highest priority with a beat ready; among equals the one served last for up to 16
beats in a row, then the next in ascending channel number. -/
def nextChannel (s : State) : Option DmaCh :=
  let ready := (List.finRange 16).filter s.beatReady
  let top := ready.foldl (fun m c => max m (s.runPrio c)) 0
  let best := ready.filter (fun c => s.runPrio c == top)
  let (last, n) := s.dma.turn.getD top (15, 16)
  match best.find? (fun c => c.val == last && decide (n < 16)) with
  | some c => some c
  | none =>
    match best.find? (fun c => decide (last < c.val)) with
    | some c => some c
    | none => best.head?

/-- A channel is being served: its turn, and the channels it holds up (table DMA STAT PREEMPTED). -/
def noteTurn (s : State) (c : DmaCh) : State :=
  let p := s.runPrio c
  let s1 := s.modDma (fun d =>
    let t := d.turn.getD p (15, 16)
    { d with turn := d.turn.setIfInBounds p (c.val, if t.1 = c.val ∧ t.2 < 16 then t.2 + 1 else 1) })
  s1.forEach (List.finRange 16) (fun (s : State) (e : DmaCh) =>
    s.putB (DMA_STAT_PREEMPTED e) (s.isSet (DMA_STAT_BUSY e) && decide (s.runPrio e < p)))

/-- DMA_BEAT (R238): at a beat boundary the highest-priority ready channel moves one word, q quarters of a us into the
fabric cycle. -/
def dmaBeat (s : State) (ecc : Bool) (q : Fin 40) : State :=
  if s.inReset ∨ s.sleeping then s
  else match s.nextChannel with
    | none => s
    | some c =>
      match s.dma.run[c] with
      | none => s
      | some r => (s.noteTurn c).beatOf c r ecc q.val

/-- A held word of the process image is accepted for the first boundary at least 2 us later (R237). -/
def postHeld (s : State) (late : Bool) (e : Nat × Word) : State :=
  match pointOf e.1 with
  | some (0, p, _) => s.postOut (Fin.ofNat 32 p) (bits e.2 0 16) late
  | _ => s.modDma (fun d => if late then { d with piLate := d.piLate ++ [e] } else { d with pi := d.pi ++ [e] })

/-- A descriptor is done (R236, R239, R241): generation word even, RESULT, line 56, then the next descriptor or the end of
the chain. -/
def descDone (s : State) (c : DmaCh) (r : DmaRun) (late : Bool) : State :=
  let s1 := r.held.foldl (fun (s : State) (e : Nat × Word) => s.postHeld late e) s
  let s2 := if r.opened then
      let g := s1.memWord r.dstGen + 1
      s1.setMemWord r.dstGen (if g = 0 then 2 else g)
    else s1
  let s3 := s2.writeResult c r (r.done + 0x1000000)
  let s4 := if r.ctrl.getLsbD 3 then s3.dmaLine c 56 else s3
  if r.next = 0 then (s4.chainEnd c).addWrap (DMA_STAT_RUNS c) 1 else s4.loadDesc c r.next

/-- DMA_DESCRIPTOR_END (R239, R241): the last beat of a channel's descriptor has completed. -/
def dmaDescriptorEnd (s : State) (c : DmaCh) (q : Fin 40) : State :=
  if s.inReset ∨ s.sleeping then s
  else match s.dma.run[c] with
    | none => s
    | some r =>
      if r.done < r.len then s
      else if ! State.genChecked r then s.descDone c r (decide (32 < q.val))
      else match s.sourceBar (agentOf c) r.srcGen with
        | some e => s.dmaFault c r e
        | none =>
          if r.before = some (s.beatWord (agentOf c) r.srcGen q.val) then s.descDone c r (decide (32 < q.val)) else s.retryGen c r

/-- DMA_PI_COMMIT (R237): at the boundary the words of remote sectors that wait, accepted at least 2 us before, take effect
together. -/
def dmaCommit (s : State) : State :=
  (s.dma.pi.foldl (fun (s : State) (e : Nat × Word) => s.postRemote e.1 e.2 (s.devTime s.now - 2000)) s).modDma (fun d => { d with pi := d.piLate, piLate := [] })

end State

end Sys2Proof.Machine
end

