-- ==== Sys2Proof/Machine/Access.lean ====
section
/-!
DEFINITION. What a seat's access does (R208 to R224): the rights and rules of each written word, the commands that
registers take, the frame with its check order, counters, refresh and response. Status codes are those of the table of R217.
-/

namespace Sys2Proof.Machine

/-- What the words of a write have come to: the state they leave, the code and address of the first that fails (code 0:
none), and the words with RWC fields, which are checked together. -/
structure WriteRes where
  st : State
  code : Nat
  addr : Nat
  recs : List (Nat × Word)

/-- The status code of a result code of the configuration checks (R207, R217). -/
def statusOf (code : Nat) : Nat :=
  match code with
  | 0 => 0
  | 0x1B => 0x07
  | 0x19 => 0x0D
  | 0x1D => 0x08
  | 0x1C => 0x09
  | 0x1A => 0x0C
  | 0x18 => 0x0B
  | _ => 0x0A

/-- CELL[n].OUT, whose every check is in the order of R33. -/
def isOutReg (a : Nat) : Bool := (cellOfAddr a).isSome && a % 0x400 == 0x10

/-- A register whose RWC fields wait for a commit; OUT has an order of checks of its own (R33, R37). -/
def isRwcReg (a : Nat) : Bool := rwcMask a != 0 && ! isOutReg a

/-- The words a write frame of the firmware-load or image-load window goes to: the window takes each of them, wherever it is
addressed (R194, R294; log entry 57). -/
def writeAddrs (a words : Nat) : List Nat :=
  (wordAddrs a words).map (fun w =>
    if a / 0x100 = 0xE01 then 0xE0100 + w % 0x100 else if a / 0x100 = 0xB01 then 0xB0100 + w % 0x100 else w)

/-- The host channel of a DMA register. -/
def hostChOf (a : Nat) : Option DmaCh :=
  if 0xC0100 ≤ a ∧ a < 0xC0200 then some (Fin.ofNat 16 ((a - 0xC0000) / 0x20)) else none

/-- The index of a register in an array that starts at a base, in steps of a stride. -/
def regIdx (base stride a : Nat) : Nat := (a - base) / stride

namespace State

/-! ### Rights -/

/-- A bit of TRIM.SEL may be 1 only for a cell of the seat (R114). -/
def selOk (s : State) (x : Seat) (w : Word) : Bool := allChans.all (fun (n : Chan) => ! w.getLsbD n.val || s.owner n == x)

/-- A seat may write a register (R114, R152, R165, R218, R298, R335, R364); a START of a load by any seat is answered by the
rules of R194. -/
def mayWrite (s : State) (x : Seat) (a : Nat) (w : Word) : Bool :=
  match cellOfAddr a with
  | some n => s.owner n == x
  | none =>
    match wickOfAddr a with
    | some n => s.get (WICK_OWN_SEAT n) == x.val
    | none =>
      match unitOfAddr a with
      | some u => s.get (STAT_OWN_SEAT u) == x.val
      | none =>
        match bankOfAddr a with
        | some b => if a % 0x1000 = 0xC14 then s.modeSeat x else s.bankRight x b (a % 0x1000) (s.word a) w (s.word (a - 0x20))
        | none =>
          if 0x20000 ≤ a ∧ a < 0x20400 ∧ a % 0x100 = 4 then regIdx 0x20000 0x100 a == x.val
          else if 0x30000 ≤ a ∧ a < 0x30400 then regIdx 0x30000 0x100 a == x.val
          else if 0xC0000 ≤ a ∧ a < 0xC0200 then (hostChOf a).any (fun c => seatOfCh c == some x)
          else if a = 0x604 then s.selOk x w
          else if a = 0x600 ∨ a = 0x608 ∨ a = 0x60C then true
          else if a = 0x1000C ∨ a = 0x10010 then s.wdgMay x.val
          else if (a = 0xE0040 ∨ a = 0xB0010) ∧ w.getLsbD 0 then true
          else if (0x80100 ≤ a ∧ a < 0x80118) ∨ (0x80200 ≤ a ∧ a < 0x80280) then true
          else if (0xE0080 ≤ a ∧ a < 0xE0090) ∨ (0xE1000 ≤ a ∧ a < 0xE2000) then true
          else s.modeSeat x

/-! ### What a register takes -/

/-- The rules of a write in the SYS block beside the ranges of its fields. LOCKED and BUSY refuse a write of CW_STORE whatever its key
(R425, R427; log entry 18). -/
def sysCheck (s : State) (a : Nat) (w : Word) : Nat :=
  let key := bits w 0 16
  if a = 0x14 then (if key = 0x4C4B then 0 else 0x0A)
  else if a = 0x114 then (if key = 0x3C96 then 0 else 0x0A)
  else if a = 0x118 then (if key ≠ 0x7B11 then 0x0A else if s.mode = .votive then 0 else 0x08)
  else if a = 0x204 then
    (if bits w 0 3 = 2 then (if s.modeCmdOk .run then 0 else 0x08)
     else if bits w 0 3 = 3 then (if s.modeCmdOk .test then 0 else 0x08)
     else 0x0A)
  else if a = 0x20C then (if key ≠ 0x7E1A then 0x0A else if s.intentOk then 0 else 0x08)
  else if a = 0x300 then (if s.pwrRefuse (bits w 0 2) = 0 then 0 else 0x08)
  else if a = 0x400 ∨ a = 0x404 then (if s.isSet SYS_CW_STORE_BUSY then 0x0C else 0)
  else if a = 0x408 then
    (if s.isSet SYS_LOCK_LOCKED then 0x0D else if s.isSet SYS_CW_STORE_BUSY then 0x0C else if key ≠ 0x57C1 then 0x0A else 0)
  else if a = 0x60C then (if key ≠ 0xA5C3 then 0x0A else if s.isSet TRIM_STORE_BUSY then 0x0C else 0)
  else 0

/-- What a write in the SYS block does beside storing its fields. -/
def sysEffect (s : State) (x : Seat) (a : Nat) (w : Word) (q : Nat) : State :=
  if a = 0x14 then s.lockKey x
  else if a = 0x114 then s.resetCmd x
  else if a = 0x118 then s.bootRetry x
  else if a = 0x204 then s.modeCmd x (if bits w 0 3 = 2 then .run else .test)
  else if a = 0x20C then s.resetIntent x
  else if a = 0x300 then s.pwrCmd x (bits w 0 2) q
  else if a = 0x408 then s.cwStore x
  else if a = 0x604 then
    allChans.foldl (fun (s : State) (n : Chan) =>
      if s.owner n = x then s.setWord 0x604 (setBit (s.word 0x604) n.val (w.getLsbD n.val)) else s) s
  else if a = 0x60C then s.trimStoreStart x
  else s

/-- The rules of a write in a CELL block beside the ranges of its fields. -/
def cellCheck (s : State) (x : Seat) (n : Chan) (a : Nat) (w : Word) : Nat :=
  let off := a % 0x400
  if off = 0x10 then s.outCheck x n w
  else if off = 0x24 then (if w.getLsbD 0 ∧ ! s.faultClrOk n then 0x08 else 0)
  else if off = 0x28 then (if bits w 0 16 = s.get (CELL_STATE_TOKEN n) then 0 else 0x0A)
  else 0

/-- What a write in a CELL block does beside storing its fields. -/
def cellEffect (s : State) (x : Seat) (n : Chan) (a : Nat) (w : Word) (late : Bool) : State :=
  let off := a % 0x400
  if off = 0x10 then s.postOut n (bits w 0 16) late
  else if off = 0x24 then (if w.getLsbD 0 then s.faultClr x n else s)
  else if off = 0x28 then s.cellAdopt x n (bits w 0 16)
  else if off = 0x20C then (if w.getLsbD 0 then s.requestCtrClear n late else s)
  else s

/-- The rules of a write in a BANK block beside the ranges of its fields (R165). -/
def bankCheck (s : State) (b : Bank) (a : Nat) (w : Word) : Nat :=
  if a % 0x1000 ≠ 0xC14 then 0
  else if w.getLsbD 8 ∧ w.getLsbD 9 then 0x0A
  else if w.getLsbD 8 ∧ ! s.recReqOk then 0x08
  else if w.getLsbD 9 ∧ ! s.recEndOk b then 0x08
  else 0

/-- What a write in a BANK block does beside storing its fields. -/
def bankEffect (s : State) (x : Seat) (b : Bank) (a : Nat) (w : Word) (q : Nat) : State :=
  let off := a % 0x1000
  if off = 0x1C4 then s.hostTrigger b (bits w 0 8) q
  else if off = 0x200 then (if w.getLsbD 0 then s.queueCal b else s)
  else if off = 0xA08 then (if w.getLsbD 31 then s.put (BANK_ARB_PEAK_PEAK_MA b) 0 else s)
  else if off = 0xC0C then (if w.getLsbD 31 then s.put (BANK_SUP_MIN_VF_MIN_MV b) 0xFFFF else s)
  else if off = 0xC14 then (if w.getLsbD 8 then s.recReq x b else if w.getLsbD 9 then s.recEnd x b else s)
  else s

/-- The rules of a write in the RING block beside the ranges of its fields (R264, R279, R286, R291, R292, R296, R298). -/
def ringCheck (s : State) (x : Seat) (a : Nat) (w : Word) : Nat :=
  if a = 0x8002C then s.timeSetCheck
  else if a = 0x80048 then (if bits w 0 16 = 0x5C1A then 0 else 0x0A)
  else if a = 0x80100 then (if w.getLsbD 0 ∧ ! s.isHead then 0x08 else 0)
  else if a = 0x80104 then (if w = 0 then 0x0A else 0)
  else if a = 0x80108 ∨ a = 0x8010C then (if bits w 0 2 = 0 then 0 else 0x0A)
  else if 0x80200 ≤ a ∧ a < 0x80280 then
    let k := regIdx 0x80200 0x10 a
    if s.isSet (RING_SCHED_CTRL_ARM k) ∧ s.get (RING_SCHED_CTRL_SEAT k) ≠ x.val then 0x07
    else if a % 0x10 = 0 ∧ w.getLsbD 5 ∧ ! w.getLsbD 6 then s.schedCheck x k (Fin.ofNat 32 (bits w 0 5))
    else 0
  else s.ringRegCheck a w

/-- What a write in the RING block does beside storing its fields. -/
def ringEffect (s : State) (x : Seat) (a : Nat) (w : Word) (q : Nat) : State :=
  if a = 0x80008 then (if w.getLsbD 0 then s else s.ringStop)
  else if a = 0x8002C then s.timeSet x w
  else if a = 0x80030 then s.setWord a w
  else if a = 0x80048 then s.claimClear x
  else if a = 0x80100 then
    let s1 := if w.getLsbD 0 then s.cmdStart x else s
    if w.getLsbD 1 then s1.cmdAbort x else s1
  else if 0x80200 ≤ a ∧ a < 0x80280 ∧ a % 0x10 = 0 then
    let k : Fin 8 := Fin.ofNat 8 (regIdx 0x80200 0x10 a)
    if w.getLsbD 6 then s.putB (RING_SCHED_CTRL_ARM k) false
    else if w.getLsbD 5 then s.schedPost x k (Fin.ofNat 32 (bits w 0 5)) q else s
  else s

/-- The rules of a write in the PAIR block beside the ranges of its fields (R323). -/
def pairCheck (s : State) (a : Nat) (w : Word) : Nat :=
  if a = 0x90024 then (if bits w 0 16 ≠ 0x4D2B then 0x0A else if s.handoverRuns then 0x0C else 0)
  else 0

/-- What a load or its data are refused for (R193, R194, R204). -/
def loadCheck (s : State) (x : Seat) (w : Word) : Nat :=
  let m := bits w 4 3
  let mine : Bool := s.load.any (fun l => l.seat == x)
  let receiving : Bool := s.load.any (fun l => l.phase == .receiving)
  if w.getLsbD 0 then
    (if m = 0 ∨ 4 < m then 0x0A
     else if ! s.modeSeat x ∨ s.load.isSome ∨ ((m = 2 ∨ m = 4) ∧ s.seatInTxn x) then 0x0C
     else 0)
  else if w.getLsbD 1 ∨ w.getLsbD 2 then
    (if s.load.isNone then 0x08 else if ! mine then 0x07 else if w.getLsbD 1 ∧ ! receiving then 0x08 else 0)
  else 0

/-- As `loadCheck`, of a firmware load (R382). -/
def fwCheck (s : State) (x : Seat) (w : Word) : Nat :=
  let mine : Bool := s.fwLoad.any (fun l => l.seat == x)
  let receiving : Bool := s.fwLoad.any (fun l => l.phase == .receiving)
  if w.getLsbD 0 then (if ! s.modeSeat x ∨ s.fwLoad.isSome then 0x0C else 0)
  else if w.getLsbD 1 ∨ w.getLsbD 2 then
    (if s.fwLoad.isNone then 0x08 else if ! mine then 0x07 else if w.getLsbD 1 ∧ ! receiving then 0x08 else 0)
  else 0

/-- A write of image data is taken only from the loading seat while it is received (R194). -/
def dataCheck (l : Option Load) (x : Seat) : Nat :=
  match l with
  | none => 0x08
  | some l => if l.seat ≠ x then 0x07 else if l.phase = LoadPhase.receiving then 0 else 0x08

/-- The rules of a write of SEC.CMD (R386); the outcome of a command is in CMD_STAT. -/
def secCheck (s : State) (w : Word) : Nat :=
  let op := bits w 16 4
  let arg := bits w 20 4
  if bits w 0 16 ≠ 0x6E53 then (if s.secRun.isSome then 0x0C else 0)
  else if op = 0 ∨ 6 < op ∨ (op ≤ 3 ∧ 3 < arg) ∨ (op = 6 ∧ 2 < arg) then 0x0A
  else if op = 1 ∧ s.get SEC_HASH_USE_USE = 0 then 0x0A
  else if s.secRun.isSome then 0x0C
  else 0

/-- A SEC command is given (R386). -/
def secEffect (s : State) (x : Seat) (w : Word) : State :=
  let k : Fin 4 := Fin.ofNat 4 (bits w 20 4)
  if bits w 0 16 ≠ 0x6E53 then s.secCode 0x01
  else match bits w 16 4 with
    | 1 => s.secProgramSlot x k
    | 2 => s.secStoreKey x k
    | 3 => s.secRevoke x k
    | 4 => s.secRaiseFw x
    | 5 => s.secRaiseFab x
    | 6 => s.secRaiseDebug x (Fin.ofNat 3 (bits w 20 4))
    | _ => s

/-- The rules of a write of a NVM register beside the ranges of its fields (R430, table NVM). -/
def nvmCheck (s : State) (x : Seat) (a : Nat) (w : Word) : Nat :=
  if a = 0xB0010 then s.fwCheck x w
  else if a = 0xB0030 then
    (if 5 < bits w 1 3 then 0x0A
     else if w.getLsbD 0 ∧ ! s.nvReadOk (bits w 1 3) then 0x0A
     else if w.getLsbD 0 ∧ s.nvRead.isSome then 0x0C else 0)
  else if a = 0xB0034 then (if bits w 0 2 = 0 then 0 else 0x0A)
  else if a = 0xB0038 then (if bits w 0 2 = 0 ∧ bits w 16 2 = 0 ∧ bits w 0 16 ≠ 0 then 0 else 0x0A)
  else if 0xB0100 ≤ a ∧ a < 0xB0200 then dataCheck s.fwLoad x
  else 0

/-- What a write of a NVM register does beside storing its fields. -/
def nvmEffect (s : State) (x : Seat) (a : Nat) (w : Word) : State :=
  if a = 0xB0010 then
    (if w.getLsbD 0 then s.fwLoadStart x else if w.getLsbD 1 then s.fwLoadEnd x else if w.getLsbD 2 then s.fwLoadCancel x else s)
  else if a = 0xB0030 then (if w.getLsbD 0 then s.nvReadStart x (bits w 1 3) else s)
  else if 0xB0100 ≤ a ∧ a < 0xB0200 then s.fwLoadData x w
  else s

/-- The rules of a write of a FABRIC register beside the ranges of its fields (R194, R198, table TXN_COUNT). -/
def fabricCheck (s : State) (x : Seat) (a : Nat) (w : Word) : Nat :=
  if a = 0xE0040 then s.loadCheck x w
  else if a = 0xE0080 then
    (if w.getLsbD 2 ∧ ! s.txnOpen[x] then 0x08
     else if (w.getLsbD 1 ∨ w.getLsbD 4) ∧ s.txnBusy x then 0x0C
     else 0)
  else if a = 0xE0088 then (if bits w 0 10 ≤ 512 then 0 else 0x0A)
  else if 0xE0100 ≤ a ∧ a < 0xE0200 then dataCheck s.load x
  else 0

/-- The mode of a load (R193). -/
def loadModeOf (m : Nat) : LoadMode :=
  match m with
  | 1 => .install
  | 2 => .apply
  | 3 => .installApply
  | _ => .reconcile

/-- What a write of a FABRIC register does beside storing its fields. -/
def fabricEffect (s : State) (x : Seat) (a : Nat) (w : Word) : State :=
  if a = 0xE0040 then
    (if w.getLsbD 0 then s.loadStart x (loadModeOf (bits w 4 3))
     else if w.getLsbD 1 then s.loadEndCmd x else if w.getLsbD 2 then s.loadCancel x else s)
  else if a = 0xE0080 then
    let s1 := if w.getLsbD 0 then s.txnOpenCmd x else s
    let s2 := if w.getLsbD 1 then s1.txnCommitCmd x else s1
    let s3 := if w.getLsbD 2 then s2.txnAbortCmd x else s2
    if w.getLsbD 4 then s3.txnCheckCmd x else s3
  else if 0xE0100 ≤ a ∧ a < 0xE0200 then s.loadData x w
  else s

/-- The rules of a write of a DMA register of a host channel (R241, table DMA). -/
def dmaCheck (a : Nat) (w : Word) : Nat :=
  if a % 0x20 = 0 then (if bits w 4 4 ≤ 3 then 0 else 0x0A)
  else if a % 0x20 = 4 then (if bits w 0 5 = 0 then 0 else 0x0A)
  else 0

/-- What a write of a DMA register does beside storing its fields: STOP, then START. -/
def dmaEffect (s : State) (a : Nat) (w : Word) : State :=
  match hostChOf a with
  | none => s
  | some c =>
    if a % 0x20 ≠ 0 then s
    else
      let s1 := if w.getLsbD 1 then s.dmaStop c else s
      if w.getLsbD 0 then s1.dmaStart c else s1

/-- The rules of a write of a Candle or calendar register (R379). -/
def candleCheck (s : State) (a : Nat) (w : Word) : Nat :=
  if a = 0xA080C then
    (if ! signedIn 16 (bits w 16 16) (-5000) 5000 then 0x0A
     else if s.isSet CAL_CTRL_AUTO_TRIM ∧ bits w 16 16 ≠ s.get CAL_CTRL_TRIM then 0x08 else 0)
  else 0

/-- What a write of a Candle or calendar register does beside storing its fields. -/
def candleEffect (s : State) (a : Nat) (w : Word) : State :=
  if a = 0xA0000 then (if w.getLsbD 0 then s.startFold false else s)
  else if a = 0xA0800 then s.calendarSet w
  else if a = 0xA0804 then s.modCandle (fun c => { c with calHi := bits w 0 8 })
  else s

/-- What a write of a WDG or CLKMON register does beside storing its fields (R332, R336). -/
def wdgEffect (s : State) (x : Seat) (a : Nat) (w : Word) (q : Nat) : State :=
  if a = 0x1000C then (if s.wdgMay x.val then s.wdgKeyA (bits w 0 16) q else s)
  else if a = 0x10010 then (if s.wdgMay x.val then s.wdgKeyB (bits w 0 16) q else s)
  else if a = 0x10104 then (if w.getLsbD 0 then s.clockRestore x else s)
  else s

/-! ### One written word -/

/-- A write is refused of an RWC field of a cell whose bank the unit does not hold (R304), and of any register of a cell whose bank
it is handing over (R323). OUT has an order of checks of its own. -/
def bankBarred (s : State) (a : Nat) : Bool :=
  let of (n : Option Chan) (p : Bank → Bool) : Bool := (n.map bankOf).any p
  ! isOutReg a && ((isRwcReg a && of (cellOrWick a) (fun b => ! s.holdsBank b)) || of (cellOrWick a) s.handingOver)

/-- The rules of a written register beside its rights and ranges: 0, or the status code of the refusal. -/
def ownCheck (s : State) (x : Seat) (a : Nat) (w : Word) : Nat :=
  if s.bankBarred a then 0x08
  else match cellOfAddr a with
    | some n => s.cellCheck x n a w
    | none =>
      match bankOfAddr a with
      | some b => s.bankCheck b a w
      | none =>
        match a / 0x10000 with
        | 0x0 => s.sysCheck a w
        | 0x1 => if a = 0x10104 ∧ w.getLsbD 0 ∧ ! s.xtalSteady then 0x08 else 0
        | 0x8 => s.ringCheck x a w
        | 0x9 => s.pairCheck a w
        | 0xA => s.candleCheck a w
        | 0xB => s.nvmCheck x a w
        | 0xC => dmaCheck a w
        | 0xD => if a = 0xD0018 then s.secCheck w else 0
        | 0xE => s.fabricCheck x a w
        | _ => 0

/-- What a written register does beside storing its fields. A CLOSE of a unit takes effect at the boundary to come, however late
in the cycle it is accepted (DESIGN CHOICE, log entry 65). -/
def ownEffect (s : State) (x : Seat) (a : Nat) (w : Word) (q : Nat) (late : Bool) : State :=
  match cellOfAddr a with
  | some n => s.cellEffect x n a w late
  | none =>
    match bankOfAddr a with
    | some b => s.bankEffect x b a w q
    | none =>
      match unitOfAddr a with
      | some u => if a % 0x80 = 0xC ∧ w.getLsbD 0 then s.atCommit (.statClose u) else s
      | none =>
        match a / 0x10000 with
        | 0x0 => s.sysEffect x a w q
        | 0x1 => s.wdgEffect x a w q
        | 0x3 => if a = 0x3080C ∧ w.getLsbD 4 then s.faultEccClear x else s
        | 0x8 => s.ringEffect x a w q
        | 0x9 => if a = 0x90024 then s.handoverStart x else s
        | 0xA => s.candleEffect a w
        | 0xB => s.nvmEffect x a w
        | 0xC => s.dmaEffect a w
        | 0xD => if a = 0xD0018 then s.secEffect x w else if 0xD0040 ≤ a then s.setWord a w else s
        | 0xE => s.fabricEffect x a w
        | _ => s

/-- The status code of a written register word (R215 check 7, R216, R218, R425); `start` is the state at the frame's
acceptance, against which the lock is checked, and `view` the configuration with the frame's words. -/
def regCheck (s start : State) (view : Cfg) (x : Seat) (a : Nat) (w : Word) : Nat :=
  if writableMask a = 0 ∨ (0xC0000 ≤ a ∧ a < 0xC0100) then 0x06
  else if ! s.mayWrite x a w then 0x07
  else if ! isOutReg a ∧ w &&& ~~~ writableMask a ≠ 0 then 0x0A
  else if isRwcReg a ∧ ! regOk view (seatKey x a) (view (seatKey x a)) then 0x0A
  else if ! isRwcReg a ∧ rwMask a ≠ 0 ∧ ! regOk view (seatKey x a) ((s.word (seatKey x a) &&& ~~~ rwMask a) ||| (w &&& rwMask a)) then 0x0A
  else
    let c := s.ownCheck x a w
    if c ≠ 0x0A ∧ start.isSet SYS_LOCK_LOCKED ∧ (w ^^^ s.deviceWord a 0) &&& rwlMask a ≠ 0 then 0x0D else c

/-- The status code of a written word (R215 check 7). -/
def wordCheck (s start : State) (view : Cfg) (x : Seat) (a : Nat) (w : Word) : Nat :=
  if 0x1400000 ≤ a then (if mailboxOf a = some x then 0 else 0x07)
  else if 0x1200000 ≤ a then 0x06
  else if 0x1000000 ≤ a then s.imageCheck x a w
  else if 0x100000 ≤ a then
    (if writableMask a = 0 then 0x06 else if ! s.modeSeat x then 0x07 else s.entryCheck a w)
  else s.regCheck start view x a w

/-- The image fields of SYS, SEAT, EVT and CLKMON stay 0 while no fabric image has been loaded (R428). -/
def imageHeld (s : State) (a : Nat) : Word :=
  if ! s.fabLoaded ∧ (a < 0x10000 ∨ (0x10100 ≤ a ∧ a < 0x10200) ∨ (0x20000 ≤ a ∧ a < 0x40000)) then imgMask a else 0

/-- RW and RWL fields store at once; W1C bits clear where nothing has set them in this cycle (R38, R216, R232). -/
def storeFields (s : State) (x : Seat) (a : Nat) (w : Word) : State :=
  let key := seatKey x a
  let old := s.word key
  let kept := old &&& ~~~ (w &&& w1cMask a &&& ~~~ sparseGet (fun _ => 0) s.fresh key)
  let v := (kept &&& ~~~ rwMask a) ||| (w &&& rwMask a &&& ~~~ s.imageHeld a)
  if a = 0x604 ∨ v = old then s else s.setWord key v

/-- An accepted word takes effect; RWC fields wait for the end of the frame. -/
def wordEffect (s : State) (x : Seat) (a : Nat) (w : Word) (q : Nat) (late : Bool) : State :=
  if 0x1400000 ≤ a then s.setMemWord a w
  else if 0x1000000 ≤ a then
    match pointOf a with
    | some (0, p, _) => s.postOut (Fin.ofNat 32 p) (bits w 0 16) late
    | _ => s.postRemote a w (s.devTime (s.now + q))
  else if 0x100000 ≤ a then s.postEntry a w
  else
    let was := s.isSet PAIR_CFG_EN
    let s1 := (s.storeFields x a w).ownEffect x a w q late
    if a = 0x90000 then s1.pairConfigured was else s1

/-- The words of a write, in ascending order; a reset that one of them takes ends the rest. -/
def putWords (s start : State) (view : Cfg) (x : Seat) (q : Nat) (late : Bool) : List (Nat × Word) → WriteRes
  | [] => { st := s, code := 0, addr := 0, recs := [] }
  | (a, w) :: t =>
    if s.inReset then { st := s, code := 0, addr := 0, recs := [] }
    else
      let c := s.wordCheck start view x a w
      if c ≠ 0 then { st := s, code := c, addr := a, recs := [] }
      else
        let r := (s.wordEffect x a w q late).putWords start view x q late t
        { r with recs := if isRwcReg a then (a, w) :: r.recs else r.recs }

/-- The words with RWC fields are checked together and wait for the commit (R37, R197). -/
def postRecs (start : State) (x : Seat) (late : Bool) (r : WriteRes) : WriteRes :=
  if r.code ≠ 0 ∨ r.recs = [] then r
  else
    let c := start.checkRecs x .direct r.recs true
    if c.code ≠ 0 then { r with code := statusOf c.code, addr := c.addr }
    else { r with st := r.recs.foldl (fun (s : State) (e : Nat × Word) => s.postWord e.1 e.2 late) r.st }

/-! ### Accesses -/

/-- The first word of an access that the firewall bars (R220). -/
def barredWord (s : State) (x : Seat) (write : Bool) (addrs : List Nat) : Option Nat :=
  addrs.find? (fun a => ! s.firewallOk x write a)

/-- The first word of an access that the device mode bars (R222). -/
def modeWord (s : State) (x : Seat) (write : Bool) (addrs : List Nat) : Option Nat :=
  addrs.find? (fun a => ! s.modeAllows x write a)

/-- Checks 4 to 6 of R215 on a range of words: a status code and the address of the first failing word. -/
def rangeCheck (s : State) (x : Seat) (write : Bool) (a words : Nat) : Nat × Nat :=
  let addrs := if write then writeAddrs a words else wordAddrs a words
  match unmappedWord a words with
  | some b => (0x04, b)
  | none =>
    match s.barredWord x write addrs with
    | some b => (0x05, b)
    | none =>
      match s.modeWord x write addrs with
      | some b => (0x08, b)
      | none => (0, 0)

/-- What an access gives: the state it leaves when accepted, code and address of the refusal, and the words read. -/
structure AccessRes where
  st : State
  code : Nat
  addr : Nat
  words : List Word

/-- A read of a range (R215, R224, R229). -/
def readAccess (s : State) (x : Seat) (a words q : Nat) : AccessRes :=
  let (c, b) := s.rangeCheck x false a words
  if c ≠ 0 then { st := s, code := c, addr := b, words := [] }
  else match (wordAddrs a words).find? (fun w => (mailboxOf w).any (· != x)) with
    | some w => { st := s, code := 0x07, addr := w, words := [] }
    | none =>
      let r := s.readRange x q (wordAddrs a words)
      { st := r.2, code := 0, addr := 0, words := r.1 }

/-- A write of words to a range (R215): accepted or refused as a whole. -/
def writeAccess (s : State) (x : Seat) (a : Nat) (ws : List Word) (q : Fin 40) : AccessRes :=
  let (c, b) := s.rangeCheck x true a ws.length
  if c ≠ 0 then { st := s, code := c, addr := b, words := [] }
  else
    let recs := (writeAddrs a ws.length).zip ws
    let late := decide (32 < q.val)
    let r := postRecs s x late (s.putWords s (Cfg.overlay s.pendingCfg (recs.map (fun e => (seatKey x e.1, e.2)))) x q.val late recs)
    { st := r.st, code := r.code, addr := r.addr, words := [] }

/-! ### Frames -/

/-- The response part of a frame after the turnaround bytes (R213). -/
def responseBytes (data : List Byte) (status : Nat) : List Byte :=
  let body := (0xA5 : Byte) :: (data ++ [BitVec.ofNat 8 status])
  body ++ beBytes 2 (crc16 body).toNat

/-- The response is ready for the seat; a new one takes the place of one not collected (R210, R213, R217). -/
def respond (s : State) (x : Seat) (data : List Byte) (code : Nat) : State :=
  { s with resp := s.resp.set x (responseBytes data (code + 128 * (s.attn x).toNat)) }

/-- A refused frame is counted and recorded (R217, table SEAT); a staged change raises its event (R231). `len` is the length
of the read data. -/
def refuse (s : State) (x : Seat) (write : Bool) (code addr len : Nat) : State :=
  let s1 := if code = 1 then s.addSat (SEAT_ERRS_CRC_ERR x) 1 else s
  let s2 := s1.addSat (SEAT_ERRS_REFUSED x) 1
  let s3 := ((s2.put (SEAT_LAST_REF_CODE x) code).putB (SEAT_LAST_REF_WRITE x) write).put (SEAT_LAST_REF_ADDR_ADDR x) addr
  let s4 := if code = 0x0B then s3.raiseLine 44 [x] else s3
  s4.respond x (List.replicate len 0) code

/-- A refresh of the seat by an accepted frame (R221). -/
def refreshBy (s : State) (x : Seat) (write : Bool) : State :=
  if write ∨ s.get (SEAT_CFG_REFRESH_MODE x) = 1 then s.refreshSeat x else s

/-- The outcome of an access as the seat sees it: counters, refresh, record of a refusal, response. -/
def finish (s : State) (x : Seat) (write : Bool) (len : Nat) (r : AccessRes) : State :=
  if r.code ≠ 0 then
    s.refuse x write r.code r.addr (if write then 0 else len)
  else if r.st.inReset then r.st
  else ((r.st.addWrap (SEAT_FRAMES_OK x) 1).refreshBy x write).respond x (r.words.flatMap wordBytes) 0

/-- A seat's port is up (R222, R223, R359): the device is out of reset, VDDIO is valid for seats 0 to 2, and seat 3 has a
port on a ring node only. -/
def portUp (s : State) (x : Seat) : Bool := ! s.inReset && (if x = 3 then s.isNode else s.vddio)

/-- The response of an earlier frame that has not been read completely is discarded (R210). -/
def dropResponse (s : State) (x : Seat) : State := { s with resp := s.resp.set x [] }

/-- A frame on a host port in SLEEP wakes the logic side and has no other effect (R362), but that it discards a response not
yet read (R210). -/
def wakeBy (s : State) (x : Seat) : State := (s.dropResponse x).wake (if x = 2 then .mgmt else .spi)

/-- A power request that the state refuses leaves its reason in REFUSE (R361). -/
def notePower (s : State) (w : Word) (r : AccessRes) : State :=
  let k := s.pwrRefuse (bits w 0 2)
  if r.code = 8 ∧ r.addr = 0x300 ∧ k ≠ 0 then s.put SYS_PWR_STAT_REFUSE k else s

/-- A write of one word by a seat, as a write frame of four bytes carries it (R215). -/
def seatWrite (s : State) (x : Seat) (a : Nat) (w : Word) (q : Fin 40) : State :=
  if ! s.portUp x then s
  else if s.sleeping then s.wakeBy x
  else
    if a % 4 ≠ 0 then s.refuse x true 0x03 a 0
    else (s.notePower w (s.writeAccess x a [w] q)).finish x true 4 (s.writeAccess x a [w] q)

/-- The opcodes of a seat (R211): single and quad on SPI, single alone on MGMT and seat 3. -/
def opcodeOk (x : Seat) (opc : Nat) : Bool :=
  opc == 0x02 || opc == 0x03 || (decide (x.val < 2) && (opc == 0x32 || opc == 0x6B))

/-- A request frame: opcode, address, length, data and whether its HCRC is right (R211). -/
structure Request where
  opc : Nat
  addr : Nat
  len : Nat
  data : List Word
  crcOk : Bool
  deriving DecidableEq, Repr

/-- The words of data bytes, least significant byte first (R9). -/
def dataWords : Nat → List Byte → List Word
  | 0, _ => []
  | k + 1, bs => bytesWord (bs.take 4) :: dataWords k (bs.drop 4)

/-- The request in the bytes of a frame; none where the frame ends before its HCRC (R211, R214). -/
def parseRequest (bs : List Byte) : Option Request :=
  let opc := (bs.getD 0 0).toNat
  let len := beNat ((bs.drop 5).take 2)
  let n := 9 + (if opc = 0x02 ∨ opc = 0x32 then len else 0)
  if bs.length < n then none
  else some {
    opc := opc, addr := beNat ((bs.drop 1).take 4), len := len, data := dataWords ((n - 9) / 4) (bs.drop 7)
    crcOk := (crc16 (bs.take (n - 2))).toNat == beNat ((bs.drop (n - 2)).take 2) }

/-- What a complete frame does (R215). -/
def serveRequest (s : State) (x : Seat) (r : Request) (q : Fin 40) : State :=
  let write := r.opc == 0x02 || r.opc == 0x32
  let reads := r.opc == 0x03 || r.opc == 0x6B
  let len := if reads then r.len else 0
  if ! r.crcOk then s.refuse x write 0x01 r.addr len
  else if ! opcodeOk x r.opc then s.refuse x write 0x02 r.addr len
  else if r.addr % 4 ≠ 0 ∨ r.len % 4 ≠ 0 ∨ r.len < 4 ∨ 1024 < r.len then s.refuse x write 0x03 r.addr len
  else if reads then s.finish x false r.len (s.readAccess x r.addr (r.len / 4) q.val)
  else
    let res := s.writeAccess x r.addr r.data q
    (s.notePower (r.data.getD ((0x300 - r.addr) / 4) 0) res).finish x true r.len res

/-- FRAME_ABORT (R210, R214): CS_N rises, or an I2C STOP arrives, before the HCRC is complete; counted in FRAME_ERR. -/
def frameAbort (s : State) (x : Seat) : State :=
  if ! s.portUp x then s
  else if s.sleeping then s.wakeBy x
  else (s.dropResponse x).addSat (SEAT_ERRS_FRAME_ERR x) 1

/-- HOST_FRAME (R211 to R223): the request bytes of a frame on a seat, accepted q quarters of a us into the fabric cycle. -/
def hostFrame (s : State) (x : Seat) (bytes : List Byte) (q : Fin 40) : State :=
  if ! s.portUp x then s
  else if s.sleeping then s.wakeBy x
  else match parseRequest bytes with
    | none => s.frameAbort x
    | some r => s.serveRequest x r q

/-! ### Seat 3 and the debugger -/

/-- The RSP fragments of a response (R258, R293). -/
def rspFragments (node tag pay : Nat) : Nat → Nat → List Byte → List SvcMsg
  | 0, _, _ => []
  | f + 1, k, bs =>
    let part := bs.take pay
    let rest := bs.drop pay
    { stype := 6, flags := ofBits [k == 0, rest.isEmpty], addr := node, tag := tag, frag := k, payload := part } ::
      (if rest.isEmpty then [] else rspFragments node tag pay f (k + 1) rest)

/-- NODE_CMD_RUN (R223, R293): the node runs a reassembled command as a frame of seat 3 and queues the response, where the
frame has one (R214), as RSP fragments. -/
def nodeCmdRun (s : State) (q : Fin 40) : State :=
  match s.ring.cmdReady with
  | none => s
  | some (tag, req) =>
    if ! s.portUp 3 then s
    else
      let s1 := (s.modRing (fun r => { r with cmdReady := none })).hostFrame 3 req q
      if s1.inReset then s1
      else
        let rsp := s1.resp[(3 : Seat)]
        if rsp.isEmpty then s1 else s1.modRing (fun r => { r with
          upQ := r.upQ ++ rspFragments (s1.get RING_NODE_ADDR) tag (s1.get RING_CFG_SVC_PAY) (rsp.length + 1) 0 rsp })

/-- A debug read of an engine-private register (R388, R434) delivers a word that the spec leaves open. R434 lets such an access read
only: a write has no effect (DESIGN CHOICE, log entry 37). -/
def debugPrivate (s : State) (w : Option Word) : State :=
  if s.inReset ∨ ! s.debugPermitted ∨ w.isSome then s else { s.useFree with dbgRead := Config.privWord s.free }

/-- DEBUG_REGISTER_ACCESS (R335, R388, R421): at a level that permits it a debugger reads or writes a register, reaching seat
0's copies; it may write the watchdog keys in place of the servicer. -/
def debugAccess (s : State) (a : Nat) (w : Option Word) (q : Fin 40) : State :=
  if s.inReset ∨ ! s.debugPermitted ∨ 0x100000 ≤ a ∨ ! mapped a then s
  else match w with
    | none =>
      let s1 := s.readEffect a q.val
      { s1 with dbgRead := s1.readWord 0 a q.val }
    | some v =>
      if a = 0x1000C then s.wdgKeyA (bits v 0 16) q.val
      else if a = 0x10010 then s.wdgKeyB (bits v 0 16) q.val
      else
        let r := s.writeAccess 0 a [v] q
        if r.code = 0 then r.st else s

end State

end Sys2Proof.Machine
end

