-- ==== Sys2Proof/Machine/Boundary.lean ====
section
/-!
DEFINITION. The fabric-cycle boundary (R18 to R21, R32, R37, R167, R170): the mode commands, the commit of the shadow values
and of what else waits, the publications, and one downward frame for each bank.
-/

namespace Sys2Proof.Machine

namespace State

/-- What waits for the commit beside the modes and the resets takes effect (R145, R174, R372). -/
def commitAct (t : Nat) (s : State) : CommitAct → State
  | .adopt n => s.adoptCell n
  | .statClose u => s.closeUnit u .host t
  | .field f v => s.put f v
  | .cwStore => s.cwBegin
  | _ => s

/-- A reset waits for the commit (R343, R355). -/
def resetDue (s : State) : Bool := s.commits.any (fun a => a == .hfr || a == .bootRetry)

/-- A host full reset at the commit (R343); with BOOT_RETRY, FAIL_CNT reads 0 before it (R355). -/
def commitReset (s : State) : State :=
  (if s.commits.contains .bootRetry then s.put SYS_BOOT_STAT_FAIL_CNT 0 else s).fullReset .hfr 0 false

/-- The commit (R18, R37): modes first (R167), then the shadow values, then what else waits; values accepted too late for it
wait for the next (R21). -/
def commitAll (s : State) : State :=
  let t := s.boundaryTime
  let acts := s.commits
  let s1 := s.commitModes
  let s2 := s1.commitPending [] t
  let s3 := acts.foldl (commitAct t) { s2 with commits := [] }
  { s3.dmaCommit with shadow := s3.shadowLate, shadowLate := [] }

/-- IBEX engines that have not written their command words by the boundary are counted (R20). Engine 2b serves cells 0 to 3
of bank b, engine 2b + 1 cells 4 to 7. -/
def countOverruns (s : State) (ovrn : BitVec 8) : State :=
  s.forEach allBanks (fun (s : State) (b : Bank) =>
    let s1 := if ovrn.getLsbD (2 * b.val) then s.addSat (BANK_LINK_ERR_OVERRUN_A b) 1 else s
    if ovrn.getLsbD (2 * b.val + 1) then s1.addSat (BANK_LINK_ERR_OVERRUN_B b) 1 else s1)

/-- One frame for each bank (R18, R24). In SLEEP the last command words are repeated (R360); in VOTIVE MARKHOR writes them and
no engine can overrun (R354). -/
def sendFrames (s : State) (ovrn : BitVec 8) : State :=
  let asleep := s.sleeping
  let held := s.mode == .votive
  s.forEach allBanks (fun (s : State) (b : Bank) =>
    s.sendDown b (asleep || (! held && ovrn.getLsbD (2 * b.val))) (asleep || (! held && ovrn.getLsbD (2 * b.val + 1))))

/-- The time of each seat since its last counted refresh (R32, R170, R221); suspended in SLEEP (R360). -/
def ageSeats (s : State) : State :=
  if s.sleeping then s
  else
    let s1 := s.forEach allSeats (fun (s : State) (x : Seat) =>
      if s.seatFresh[x] then s.putB (SEAT_STAT_TIMED_OUT x) false else s)
    { s1 with
      seatAge := Vector.ofFn (fun (x : Seat) => if s.seatFresh[x] then 0 else s.seatAge[x] + 10)
      seatFresh := Vector.replicate 4 false }

/-- LINK.SINCE_LOSS of each bank counts (table LINK). -/
def ageLinks (s : State) : State :=
  s.forEach allBanks (fun (s : State) (b : Bank) =>
    match (s.lbank b).sinceLoss with
    | none => s
    | some k => (s.modLbank b (fun l => { l with sinceLoss := some (k + 10) })).showSinceLoss b)

/-- A field die that does not run sends no upward frame (R24): the heartbeats it was to carry are missed (R25). -/
def missUp (s : State) : State :=
  s.forEach allBanks (fun (s : State) (b : Bank) =>
    if (s.bank b).running then s
    else s.modLbank b (fun l => { l with missed := if l.hbNext then l.missed + 1 else l.missed, hbNext := ! l.hbNext }))

/-- Time windows that are not open are open from the first boundary after their configuration took effect (R145); after a loss of
the link they wait for their first sample, and in STANDBY and SLEEP none is open (R151, R356). `old` is the state before the boundary's commit. -/
def openTimeWindows (s old : State) (t : Nat) : State :=
  if ! s.fabLoaded ∨ s.mode = .boot ∨ s.mode = .votive ∨ ! s.sequencesRun then s
  else s.forEach (List.finRange 96) (fun (s : State) (u : Unit96) =>
    if old.winMode u = 1 ∧ s.winMode u = 1 ∧ ! s.units[u].afterLoss then s.openUnit u t else s)

/-- What the clock monitor shows (R331, R332, table CLKMON.STAT): XIN runs within its band, and the deviation of the main
clock. -/
def noteClock (s : State) (xtalOk : Bool) (dev : BitVec 8) : State :=
  let s1 := (s.putB CLKMON_STAT_XTAL_OK xtalOk).put CLKMON_STAT_DEV dev.toNat
  { s1 with xtalSince := if xtalOk then some (s.xtalSince.getD s.boundaryTime) else none }

/-- A fabric cycle ends and the next begins: the time, the cycle number, and what held for the ended cycle only. -/
def nextCycle (s : State) : State :=
  { s with cycle := s.cycle + 1, now := s.now + 40, fuseDone := false, fresh := [], wokeBy := none }

/-- FABRIC_CYCLE_BOUNDARY (R18): the boundary that ends the running fabric cycle, with the engines that have overrun, and what
the clock monitor finds. In a reset of the logic side only time passes, and the field dies miss its frames. -/
def fabricCycleBoundary (s : State) (ovrn : BitVec 8) (xtalOk : Bool) (dev : BitVec 8) : State :=
  if s.inReset then { s.emptySlots with now := s.now + 40 }
  else if s.resetDue then { s.commitReset.emptySlots with now := s.now + 40 }
  else
    let t := s.boundaryTime
    let awake := ! s.sleeping
    let s1 := if awake ∧ s.mode ≠ .votive then s.countOverruns ovrn else s
    let s2 := ((s1.commitAll.timeBoundary t).noteClock xtalOk dev).openTimeWindows s t
    let s3 := (s2.ageSeats.ageLinks.missUp.noteLifeAlarm.pairNote).nextCycle
    let s4 := if awake then s3.publishOwn t else s3
    (s4.sendFrames ovrn).putB SYS_PWR_STAT_CHANGING false

end State

end Sys2Proof.Machine
end

