-- ==== Sys2Proof/Machine/Supply.lean ====
section
/-!
DEFINITION. Field supply (chapter 05): the supply bands of R155, UV_OFF and its restore policies (R158 to R161), the
field-bank reset and the start of a field die (R162 to R164), and the end of the timed holds (R173, R309).
-/

namespace Sys2Proof.Machine

namespace State

/-- VF_LOW sets or clears in the live flags of every cell of the bank whose function is not OFF (R158). -/
def liveVfLow (s : State) (b : Bank) (v : Bool) : State :=
  s.forEach (bankChans b) (fun s n =>
    if s.fn n = FN_OFF then s
    else s.modCell n (fun c => { c with
      live := setBit c.live FL_VF_LOW v, occ := if v then setBit c.occ FL_VF_LOW true else c.occ }))

/-- VF_LOW_SET (R155): below the level for 1 ms. -/
def vfLowSet (s : State) (b : Bank) (mv : Nat) : State :=
  let k := s.bank b
  if ¬ k.running ∨ k.vfLow then s
  else (s.modBank b (fun k => { k with
    vfLow := true, band := if k.band = .belowUv then .belowUv else .low, vfMv := mv, repVfLow := k.repVfLow + 1
    })).liveVfLow b true

/-- VF_LOW_CLEAR (R155): above the clear level for 10 ms. -/
def vfLowClear (s : State) (b : Bank) (mv : Nat) : State :=
  if ¬ (s.bank b).running then s
  else (s.modBank b (fun k => { k with
    vfLow := false, band := if mv ≤ 32000 then .normal else .high, vfMv := mv })).liveVfLow b false

/-- The outputs of a bank are forced off and latched UV_OFF (R158): UV_OFF on the output-family cells. -/
def holdUv (s : State) (b : Bank) : State :=
  s.forEach (bankChans b) (fun s n =>
    if family (s.fn n) = 2 then
      (s.modCell n (fun c => { c with
        uvHeld := true, live := setBit c.live FL_UV_OFF true, occ := setBit c.occ FL_UV_OFF true })).settle n false
    else s)

/-- UV_OFF_TRIP (R155, R158, R161): the supply falls below the UV_OFF level; a running restore is abandoned. -/
def uvOffTrip (s : State) (b : Bank) (mv : Nat) : State :=
  let k := s.bank b
  if ¬ k.running then s
  else
    let s1 := s.modBank b (fun k => { k with
      uvLatched := true, restoring := false, restoreMet := false, band := .belowUv, vfMv := mv,
      repUvOff := k.repUvOff + 1, repVfLow := k.repVfLow + (if k.vfLow then 0 else 1), vfLow := true })
    ((s1.liveVfLow b true).holdUv b).railsUpdate b

/-- A cell is released from UV_OFF (R159): LIVE.UV_OFF clears and it applies what its state applies now. -/
def releaseUv (s : State) (n : Chan) : State :=
  let s1 := s.modCell n (fun c => { c with uvHeld := false, live := setBit c.live FL_UV_OFF false })
  let v := s1.valueOf n (s1.cell n).state (s1.cell n).cause
  (s1.modCell n (fun c => { c with applied := v })).settle n false

/-- The cells a restore has to release, by its policy (R159): under STAY_OFF only those in LIMP. -/
def toRelease (s : State) (b : Bank) : List Chan :=
  let stayOff := s.fget b (BANK_SUP_CFG_UV_RESTORE b) = 1
  (bankChans b).filter (fun n => (s.cell n).uvHeld && family (s.fn n) == 2 && (! stayOff || (s.cell n).state == .limp))

/-- The first cell in the restore order (R160): by ascending PHASE, then channel number. -/
def firstByPhase (s : State) (b : Bank) (l : List Chan) : Option Chan :=
  l.foldl (fun best n => match best with
    | none => some n
    | some m => if s.fget b (WICK_CFG_PHASE n) < s.fget b (WICK_CFG_PHASE m) then some n else some m) none

/-- One step of a staggered restore (R160): the next cell in the order is released. -/
def releaseNext (s : State) (b : Bank) : State :=
  match s.firstByPhase b (s.toRelease b) with
  | none => ((s.modBank b (fun k => { k with restoring := false })).noteHeld b).railsUpdate b
  | some n =>
    let s1 := s.releaseUv n
    ((if s1.toRelease b = [] then s1.modBank b (fun k => { k with restoring := false }) else s1).noteHeld b).railsUpdate b

/-- The restore policy starts (R159, R162): cells whose state applies an off value are released at once; the first of
the others follows. It waits for the bank configuration to be complete. -/
def startRestore (s : State) (b : Bank) : State :=
  if (s.bank b).configuring ∨ ¬ (s.bank b).restoreMet then s else
  let s0 := s.forEach (bankChans b) (fun t n => if family (s.fn n) = 2 then t else t.releaseUv n)
  let s1 := s0.modBank b (fun k => { k with restoring := true })
  let s2 := s1.forEach (s1.toRelease b) (fun t n => if s1.valueOf n (s1.cell n).state (s1.cell n).cause = 0 then t.releaseUv n else t)
  s2.releaseNext b

/-- RESTORE_START (R155, R159): the restore level has been met for 1 ms. -/
def restoreStart (s : State) (b : Bank) (mv : Nat) : State :=
  if ¬ (s.bank b).running then s
  else (s.modBank b (fun k => { k with restoreMet := true, band := .low, vfMv := mv })).startRestore b

/-- STAGGER_RELEASE (R160): 1 ms after the previous release. Under STAY_OFF a cell that enters LIMP after the restore has ended
is no more released by it (DESIGN CHOICE, log entry 65). -/
def staggerRelease (s : State) (b : Bank) : State :=
  if (s.bank b).running ∧ (s.bank b).restoring then s.releaseNext b else s

/-- The field die of a bank is in reset (R162, R36 rank 1): it loses its state, its copy and everything it held;
its clamp leaves the line RELEASED where the partner does not hold it (R302). -/
def fieldReset (s : State) (b : Bank) : State :=
  let s1 := s.forEach (bankChans b) (fun s n => s.modCell n (fun _ => {}))
  s1.modBank b (fun k => { running := false, clamp := true, line := if k.line = .low ∧ ! k.holds then .low else .released })

/-- FIELD_DIE_RELEASE (R155, R162): VF_n has met the release level for 1 ms and the die starts: bank mode BOOT, new
TOKENs, outputs held under UV_OFF until the restore level is met, its first report says it has started after an FBR. -/
def fieldDieRelease (s : State) (b : Bank) (mv : Nat) : State :=
  if (s.bank b).running then s
  else
    let s1 := s.modBank b (fun k => { k with
      running := true, clamp := false, fbrReport := true, uvLatched := true, vfLow := true, band := .belowUv, vfMv := mv })
    s1.forEach (bankChans b) (fun s n => (s.newToken n).modCell n (fun c => { c with
      uvHeld := true, live := setBit (setBit c.live FL_UV_OFF true) FL_VF_LOW true }))

/-- RECOVERY_TIMEOUT_END (R173): the hold of the bank's lost cells runs out: LIMP if mapped, else the programmed safe
value. The end applies too while the logic side is back but the cell not yet adopted. -/
def recoveryTimeoutEnd (s : State) (b : Bank) : State :=
  if ¬ (s.bank b).running then s else
  let s1 := s.modBank b (fun k => { k with recoveryOver := true })
  (s1.forEach (bankChans b) (fun s n =>
    if (s.cell n).state = .hold ∧ (s.cell n).cause = .recoveryHold then
      if s.limpPin n ≠ 0 then s.enter n .limp .limpMap else s.enter n .safe .recoveryTimeout
    else s)).railsUpdate b

/-- PAIR_HOLD_END (R309): PAIR_HOLD has reached HOLD_MAX; the pair rule moves the bank's cells on. -/
def pairHoldEnd (s : State) (b : Bank) : State :=
  if ¬ (s.bank b).running then s else
  let s1 := s.modBank b (fun k => { k with pairHoldOver := true })
  (s1.forEach (bankChans b) (fun s n =>
    if (s.cell n).state = .hold ∧ (s.cell n).cause = .pairHold ∧ s.pairRule n ≠ (.hold, .pairHold) then
      let (st, ca) := s.pairRule n
      s.enter n st ca
    else s)).railsUpdate b

end State

end Sys2Proof.Machine
end

