-- ==== Sys2Proof/Machine/Compose.lean ====
section
/-!
DEFINITION. Events that act on several parts of the device at once, put together from what each part does; commands that
are one written register.
-/

namespace Sys2Proof.Machine

/-- The word of SEC.CMD with its key, an operation and its argument (R386). -/
def secWord (op arg : Nat) : Word := BitVec.ofNat 32 (0x6E53 + op * 0x10000 + arg * 0x100000)

/-- A field keeps its value in an FBR (R12, R356). -/
def Surv.keepsFbr : Surv → Bool
  | .img => true
  | .notPor => true
  | .all => true
  | _ => false

/-- A register of a bank's CELL, WICK or BANK blocks, but for LINK (R26, R419). -/
def ofBankDie (b : Bank) (a : Nat) : Bool :=
  (0x40000 + 0x2000 * b.val ≤ a && a < 0x40000 + 0x2000 * (b.val + 1)) ||
  (0x50000 + 0x1000 * b.val ≤ a && a < 0x50000 + 0x1000 * (b.val + 1) && a % 0x1000 != 0xF00) ||
  (0x70000 + 0x200 * b.val ≤ a && a < 0x70000 + 0x200 * (b.val + 1))

/-- The bits of a register that keep their values in an FBR; STATE.LINK_UP follows the link (R26). -/
def fbrKeep (a : Nat) : Word :=
  match describe a with
  | none => 0
  | some fs =>
    let m := fs.foldl (fun m f => if f.surv.keepsFbr then setBits m f.lo f.w (2 ^ f.w - 1) else m) (0 : Word)
    if a / 0x10000 = 4 ∧ a % 0x400 = 4 then setBit m 9 true else m

namespace State

/-- A command bit of a register written by a seat: the RW fields beside it keep their values. -/
def seatCommand (s : State) (x : Seat) (a : Nat) (w : Word) (q : Fin 40) : State :=
  s.seatWrite x a ((s.word (seatKey x a) &&& rwMask a) ||| w) q

/-- A cell's event of the running fabric cycle triggers the injected entries that wait for it (R128). -/
def eventIf (s : State) (n : Chan) (trig : Nat) (happened : Bool) : State :=
  if happened then s.armTriggers (bankOf n) trig (some (posOf n)) else s

/-- The switch of a cell, on in an earlier state or driven by a generator that ran, is off, with its generator stopped. -/
def wentOff (s t : State) (n : Chan) : Bool :=
  ((s.cell n).on || (s.cell n).wickRun) && ! (t.cell n).on && ! (t.cell n).wickRun

/-- A protection trip that switched a cell off triggers injected entries (R128). -/
def tripEvent (s t : State) (n : Chan) : State := t.eventIf n 7 (State.wentOff s t n)

/-- WICK_EDGE (R66, R68, R128). -/
def wickEdgeWhole (s : State) (n : Chan) (rising : Bool) : State :=
  let t := s.wickEdge n rising
  t.eventIf n (if rising then 3 else 4) ((s.cell n).on != (t.cell n).on)

/-- ILIM_ENTRY (R50, R51, R128). -/
def ilimEntryWhole (s : State) (n : Chan) (ma : Nat) : State :=
  let t := s.ilimEntry n ma
  t.eventIf n 6 (! (s.cell n).inLimit && (t.cell n).inLimit)

/-- LIMIT_TIMEOUT (R51, R128). -/
def limitTimeoutWhole (s : State) (n : Chan) : State := s.tripEvent (s.limitTimeout n) n

/-- TSD_TRIP (R51, R52, R128). -/
def tsdTripWhole (s : State) (n : Chan) : State := s.tripEvent (s.tsdTrip n) n

/-- HOLD_CURRENT_TRIP (R34, R128). -/
def holdCurrentTripWhole (s : State) (n : Chan) (ma : Nat) : State := s.tripEvent (s.holdCurrentTrip n ma) n

/-- FUSE_STEP (R57, R128, R365). -/
def fuseStepWhole (s : State) (m : FuseMeas) : State :=
  let t := s.fuseStepAll m
  t.forEach allChans (fun u n => u.eventIf n 7 (State.wentOff s t n))

/-- A downward frame that the field die takes carries a fuse-step marker (R35, R128). -/
def markerComes (s : State) (b : Bank) (crcOk : Bool) : Bool :=
  crcOk && (s.bank b).running && (s.lbank b).down.head?.any (fun f => f.words.toList.any (fun w => w.marker))

/-- DOWNWARD_FRAME_RECEIVED (R25, R128, R132, R159, R346): with the POR marker the converters start anew and calibrate; once the
bank configuration is complete a restore that waits for it starts; a fuse-step marker triggers injected entries. -/
def downwardWhole (s : State) (b : Bank) (crcOk : Bool) : State :=
  let t := s.downwardFrameReceived b crcOk
  let t := if s.markerComes b crcOk then t.armTriggers b 5 none else t
  let t1 := if (t.bank b).porActed ∧ ! (s.bank b).porActed then (t.modMeas b (fun _ => { calAt := s.now })).startupCal b else t
  if (s.bank b).configuring ∧ ! (t1.bank b).configuring then t1.startRestore b else t1

/-- UPWARD_FRAME_RECEIVED (R24, R25, R132, R365): Candle takes what it counts, the logic side takes the frame, and an abort
of a calibration by an FBR is shown. -/
def upwardWhole (s : State) (b : Bank) (crcOk : Bool) : State :=
  match (s.lbank b).up with
  | [] => s
  | f :: _ =>
    if crcOk ∧ ! s.inReset then (((s.candleReport b f).upwardFrameReceived b crcOk).reportCalAbort b)
    else s.upwardFrameReceived b crcOk

/-- TXN_T0 (R201 to R203) with what follows from the image words outside the cells and banks: the table words of an applied image
(R196, R266), a RING.CTRL.RUN that ends (R260), a PAIR.CFG.EN that changes (R299). -/
def txnT0Whole (s : State) (w : Fin 5) : State :=
  let nodes := match s.txns[w] with
    | some r => if r.phase = .waiting then (r.load.map (·.rnt)).getD [] else []
    | none => []
  let t := (s.txnT0 w).postNodes nodes
  let t1 := if s.isSet RING_CTRL_RUN ∧ ! t.isSet RING_CTRL_RUN then t.ringStop else t
  t1.pairConfigured (s.isSet PAIR_CFG_EN)

/-- LOGIC_SIDE_LOSS (R26, R205, R436): the steps of a staged transaction in the bank end with it. -/
def lossWhole (s : State) (b : Bank) : State :=
  if (s.bank b).running ∧ ! (s.bank b).lost ∧ 3 ≤ (s.bank b).missed then (s.logicSideLoss b).txnDropBank b else s

/-- What the bank's registers show of the field die is lost with it: the fields whose Survives column does not name an FBR
return to their Reset values (R11), but for those that follow the link (R26). -/
def fbrClear (s : State) (b : Bank) : State :=
  { s with regs := s.regs.foldl (fun m (e : Nat × Word) =>
      if ofBankDie b e.1 then sparseSet resetWord m e.1 ((resetWord e.1 &&& ~~~ fbrKeep e.1) ||| (e.2 &&& fbrKeep e.1)) else m) s.regs }

/-- FIELD_BANK_RESET (R162, R205): the field die, its converters and its part of a staged transaction. -/
def fieldResetWhole (s : State) (b : Bank) : State := (((s.fieldReset b).fbrClear b).fieldResetMeas b).txnDropBank b

/-- FIELD_DIE_RELEASE (R132, R155): the die starts, and calibrates before its first pass. -/
def fieldReleaseWhole (s : State) (b : Bank) (mv : Nat) : State :=
  if (s.bank b).running then s else (s.fieldDieRelease b mv).startupCal b

/-- MARKHOR acts on the MPU fault of an engine's DMA beat (R242, R243). -/
def endMpu (s : State) : State :=
  match s.dma.mpuHit with
  | none => s
  | some (e, a) => (s.modDma (fun d => { d with mpuHit := none })).mpuFault e 3 (Config.enginePriv e) (BitVec.ofNat 32 a)

/-- WDG_KEY_A (R335, R337): by a seat as a write of its register, by MARKHOR (4) from inside. -/
def wdgKeyAWhole (s : State) (agent : WdgAgent) (key : BitVec 16) (q : Fin 40) : State :=
  match agent with
  | .seat x => s.seatWrite x WDG_KEY_A_KEY.addr (key.setWidth 32) q
  | .markhor progress => s.wdgKeyACmd progress key q

/-- WDG_KEY_B (R335, R337). -/
def wdgKeyBWhole (s : State) (agent : WdgAgent) (key : BitVec 16) (q : Fin 40) : State :=
  match agent with
  | .seat x => s.seatWrite x WDG_KEY_B_KEY.addr (key.setWidth 32) q
  | .markhor progress => s.wdgKeyBCmd progress key q

end State

end Sys2Proof.Machine
end

