-- ==== Sys2Proof/Machine/CandleCommands.lean ====
section
/-!
DEFINITION. What the commands do, one definition each: Candle, the calendar, firmware and security (R365 to R390, R429 to R432).
-/

namespace Sys2Proof.Machine

/-- CANDLE_SECOND (R365). -/
def execCandleSecond (temps : Vector Int 5) (s : State) : Host.Outcome State Fault Refusal :=
  .next (s.candleSecond temps)

/-- FOLD (R368). -/
def execFold (m : FoldMeas) (s : State) : Host.Outcome State Fault Refusal :=
  .next (s.fold m)

/-- FOLD_CMD (R368). -/
def execFoldCmd (x : Seat) (q : Fin 40) (s : State) : Host.Outcome State Fault Refusal :=
  .next (s.seatCommand x 0xA0000 1 q)

/-- CALENDAR_SET (R379). -/
def execCalendarSet (x : Seat) (lo : Word) (q : Fin 40) (s : State) : Host.Outcome State Fault Refusal :=
  .next (s.seatWrite x 0xA0800 lo q)

/-- CALENDAR_AUTO_TRIM (R379). -/
def execCalendarAutoTrim (trim : Int) (s : State) : Host.Outcome State Fault Refusal :=
  .next (s.calendarAutoTrim trim)

/-- FW_LOAD_START (R382). -/
def execFwLoadStart (x : Seat) (q : Fin 40) (s : State) : Host.Outcome State Fault Refusal :=
  .next (s.seatWrite x 0xB0010 1 q)

/-- FW_LOAD_DATA (R382). -/
def execFwLoadData (x : Seat) (w : Word) (q : Fin 40) (s : State) : Host.Outcome State Fault Refusal :=
  .next (s.seatWrite x 0xB0100 w q)

/-- FW_LOAD_END (R382). -/
def execFwLoadEnd (x : Seat) (q : Fin 40) (s : State) : Host.Outcome State Fault Refusal :=
  .next (s.seatWrite x 0xB0010 2 q)

/-- FW_LOAD_CANCEL (R382). -/
def execFwLoadCancel (x : Seat) (q : Fin 40) (s : State) : Host.Outcome State Fault Refusal :=
  .next (s.seatWrite x 0xB0010 4 q)

/-- FW_INSTALL_DONE (R382). -/
def execFwInstallDone (err : BitVec 4) (s : State) : Host.Outcome State Fault Refusal :=
  .next (s.fwInstallDone err.toNat)

/-- NV_READ (R430). -/
def execNvRead (x : Seat) (region : BitVec 3) (q : Fin 40) (s : State) : Host.Outcome State Fault Refusal :=
  .next (s.seatWrite x 0xB0030 (region.setWidth 32 <<< 1 ||| 1) q)

/-- SEC_PROGRAM_SLOT (R386). -/
def execSecProgramSlot (x : Seat) (k : Fin 4) (q : Fin 40) (s : State) : Host.Outcome State Fault Refusal :=
  .next (s.seatWrite x 0xD0018 (secWord 1 k.val) q)

/-- SEC_STORE_KEY (R386). -/
def execSecStoreKey (x : Seat) (k : Fin 4) (q : Fin 40) (s : State) : Host.Outcome State Fault Refusal :=
  .next (s.seatWrite x 0xD0018 (secWord 2 k.val) q)

/-- SEC_REVOKE (R386). -/
def execSecRevoke (x : Seat) (k : Fin 4) (q : Fin 40) (s : State) : Host.Outcome State Fault Refusal :=
  .next (s.seatWrite x 0xD0018 (secWord 3 k.val) q)

/-- SEC_RAISE_FW_LEVEL (R386). -/
def execSecRaiseFwLevel (x : Seat) (q : Fin 40) (s : State) : Host.Outcome State Fault Refusal :=
  .next (s.seatWrite x 0xD0018 (secWord 4 0) q)

/-- SEC_RAISE_FAB_LEVEL (R386). -/
def execSecRaiseFabLevel (x : Seat) (q : Fin 40) (s : State) : Host.Outcome State Fault Refusal :=
  .next (s.seatWrite x 0xD0018 (secWord 5 0) q)

/-- SEC_RAISE_DEBUG_LEVEL (R386). -/
def execSecRaiseDebugLevel (x : Seat) (l : Fin 3) (q : Fin 40) (s : State) : Host.Outcome State Fault Refusal :=
  .next (s.seatWrite x 0xD0018 (secWord 6 l.val) q)

/-- SEC_CMD_DONE (R386). -/
def execSecCmdDone (err : BitVec 4) (s : State) : Host.Outcome State Fault Refusal :=
  .next (s.secCmdDone err.toNat)

/-- NV_READ_DONE (R430). -/
def execNvReadDone (err : BitVec 4) (s : State) : Host.Outcome State Fault Refusal :=
  .next (s.nvReadDone err.toNat)

/-- FOLD_DONE (R368). -/
def execFoldDone (err : BitVec 4) (s : State) : Host.Outcome State Fault Refusal :=
  .next (s.foldDone err.toNat)

end Sys2Proof.Machine
end

