-- ==== Sys2Proof/Machine/FabricCommands.lean ====
section
/-!
DEFINITION. What the commands do, one definition each: the fabric cycle, the barrier links and the cell states (R15 to R43, R165 to R176).
-/

namespace Sys2Proof.Machine

/-- FABRIC_CYCLE_BOUNDARY (R18). -/
def execFabricCycleBoundary (ovrn : BitVec 8) (xtalOk : Bool) (dev : BitVec 8) (s : State) : Host.Outcome State Fault Refusal :=
  .next (s.fabricCycleBoundary ovrn xtalOk dev)

/-- FUSE_STEP (R57). -/
def execFuseStep (m : FuseMeas) (s : State) : Host.Outcome State Fault Refusal :=
  .next (s.fuseStepWhole m)

/-- DOWNWARD_FRAME_RECEIVED (R25). -/
def execDownwardFrameReceived (b : Bank) (crcOk : Bool) (s : State) : Host.Outcome State Fault Refusal :=
  .next (s.downwardWhole b crcOk)

/-- UPWARD_FRAME (R24). -/
def execUpwardFrame (b : Bank) (m : FrameMeas) (s : State) : Host.Outcome State Fault Refusal :=
  .next (s.upwardFrame b m)

/-- UPWARD_FRAME_RECEIVED (R24). -/
def execUpwardFrameReceived (b : Bank) (crcOk : Bool) (s : State) : Host.Outcome State Fault Refusal :=
  .next (s.upwardWhole b crcOk)

/-- LOGIC_SIDE_LOSS (R26). -/
def execLogicSideLoss (b : Bank) (s : State) : Host.Outcome State Fault Refusal :=
  .next (s.lossWhole b)

/-- FIELD_DIE_LOSS (R26). -/
def execFieldDieLoss (b : Bank) (s : State) : Host.Outcome State Fault Refusal :=
  .next (s.fieldDieLoss b)

/-- LOGIC_SIDE_RETURN (R436). -/
def execLogicSideReturn (b : Bank) (s : State) : Host.Outcome State Fault Refusal :=
  .next (s.logicSideReturn b)

/-- FUSE_STALL (R35). -/
def execFuseStall (n : Chan) (s : State) : Host.Outcome State Fault Refusal :=
  .next (s.fuseStall n)

/-- HOLD_CURRENT_TRIP (R34). -/
def execHoldCurrentTrip (n : Chan) (ma : Nat) (s : State) : Host.Outcome State Fault Refusal :=
  .next (s.holdCurrentTripWhole n ma)

/-- CELL_OUT_WRITE (R33). -/
def execCellOutWrite (x : Seat) (n : Chan) (v : BitVec 16) (q : Fin 40) (s : State) : Host.Outcome State Fault Refusal :=
  .next (s.seatWrite x (CELL_OUT_VALUE n).addr (v.setWidth 32) q)

/-- CELL_ADOPT (R174). -/
def execCellAdopt (x : Seat) (n : Chan) (token : BitVec 16) (q : Fin 40) (s : State) : Host.Outcome State Fault Refusal :=
  .next (s.seatWrite x (CELL_ADOPT_TOKEN n).addr (token.setWidth 32) q)

/-- FAULT_CLR (R31). -/
def execFaultClr (x : Seat) (n : Chan) (q : Fin 40) (s : State) : Host.Outcome State Fault Refusal :=
  .next (s.seatWrite x (CELL_CTRL_FAULT_CLR n).addr 1 q)

/-- SEAT_TIMEOUT (R170). -/
def execSeatTimeout (x : Seat) (s : State) : Host.Outcome State Fault Refusal :=
  .next (s.seatTimeout x)

/-- RECOVERY_TIMEOUT_END (R173). -/
def execRecoveryTimeoutEnd (b : Bank) (s : State) : Host.Outcome State Fault Refusal :=
  .next (s.recoveryTimeoutEnd b)

/-- PAIR_HOLD_END (R309). -/
def execPairHoldEnd (b : Bank) (s : State) : Host.Outcome State Fault Refusal :=
  .next (s.pairHoldEnd b)

end Sys2Proof.Machine
end

