-- ==== Sys2Proof/Machine/HostCommands.lean ====
section
/-!
DEFINITION. What the commands do, one definition each: host frames and register writes (R211 to R223).
-/

namespace Sys2Proof.Machine

/-- HOST_FRAME (R215). -/
def execHostFrame (x : Seat) (bytes : List Byte) (q : Fin 40) (s : State) : Host.Outcome State Fault Refusal :=
  .next (s.hostFrame x bytes q)

/-- FRAME_ABORT (R214). -/
def execFrameAbort (x : Seat) (s : State) : Host.Outcome State Fault Refusal :=
  .next (s.frameAbort x)

/-- REGISTER_WRITE (R216). -/
def execRegisterWrite (x : Seat) (a : Word) (w : Word) (q : Fin 40) (s : State) : Host.Outcome State Fault Refusal :=
  .next (s.seatWrite x a.toNat w q)

end Sys2Proof.Machine
end

