-- ==== Sys2Proof/Machine/ImageCommands.lean ====
section
/-!
DEFINITION. What the commands do, one definition each: loads and transactions (R177 to R207).
-/

namespace Sys2Proof.Machine

/-- LOAD_START_INSTALL (R193). -/
def execLoadStartInstall (x : Seat) (q : Fin 40) (s : State) : Host.Outcome State Fault Refusal :=
  .next (s.seatWrite x FABRIC_LOAD_CTRL_START.addr 0x11 q)

/-- LOAD_START_APPLY (R193). -/
def execLoadStartApply (x : Seat) (q : Fin 40) (s : State) : Host.Outcome State Fault Refusal :=
  .next (s.seatWrite x FABRIC_LOAD_CTRL_START.addr 0x21 q)

/-- LOAD_START_INSTALL_APPLY (R193). -/
def execLoadStartInstallApply (x : Seat) (q : Fin 40) (s : State) : Host.Outcome State Fault Refusal :=
  .next (s.seatWrite x FABRIC_LOAD_CTRL_START.addr 0x31 q)

/-- LOAD_START_RECONCILE (R193). -/
def execLoadStartReconcile (x : Seat) (q : Fin 40) (s : State) : Host.Outcome State Fault Refusal :=
  .next (s.seatWrite x FABRIC_LOAD_CTRL_START.addr 0x41 q)

/-- LOAD_DATA (R194). -/
def execLoadData (x : Seat) (w : Word) (q : Fin 40) (s : State) : Host.Outcome State Fault Refusal :=
  .next (s.seatWrite x 0xE0100 w q)

/-- LOAD_END (R194). -/
def execLoadEnd (x : Seat) (q : Fin 40) (s : State) : Host.Outcome State Fault Refusal :=
  .next (s.seatCommand x FABRIC_LOAD_CTRL_START.addr 2 q)

/-- LOAD_CANCEL (R194). -/
def execLoadCancel (x : Seat) (q : Fin 40) (s : State) : Host.Outcome State Fault Refusal :=
  .next (s.seatCommand x FABRIC_LOAD_CTRL_START.addr 4 q)

/-- VALIDATION_DONE (R187). -/
def execValidationDone (s : State) : Host.Outcome State Fault Refusal :=
  .next (s.validationDone)

/-- INSTALL_DONE (R192). -/
def execInstallDone (err : BitVec 4) (s : State) : Host.Outcome State Fault Refusal :=
  .next (s.installDone err.toNat)

/-- TXN_OPEN (R197). -/
def execTxnOpen (x : Seat) (q : Fin 40) (s : State) : Host.Outcome State Fault Refusal :=
  .next (s.seatCommand x 0xE0080 1 q)

/-- TXN_COMMIT (R198). -/
def execTxnCommit (x : Seat) (q : Fin 40) (s : State) : Host.Outcome State Fault Refusal :=
  .next (s.seatCommand x 0xE0080 2 q)

/-- TXN_CHECK (R198). -/
def execTxnCheck (x : Seat) (q : Fin 40) (s : State) : Host.Outcome State Fault Refusal :=
  .next (s.seatCommand x 0xE0080 16 q)

/-- TXN_ABORT (R198). -/
def execTxnAbort (x : Seat) (q : Fin 40) (s : State) : Host.Outcome State Fault Refusal :=
  .next (s.seatCommand x 0xE0080 4 q)

/-- TXN_CHECK_DONE (R201). -/
def execTxnCheckDone (t : Fin 5) (s : State) : Host.Outcome State Fault Refusal :=
  .next (s.txnCheckDone t)

/-- TXN_T0 (R202). -/
def execTxnT0 (t : Fin 5) (s : State) : Host.Outcome State Fault Refusal :=
  .next (s.txnT0Whole t)

/-- TXN_RAIL_UP_END (R202). -/
def execTxnRailUpEnd (t : Fin 5) (b : Bank) (r : Fin 2) (q : Fin 40) (s : State) : Host.Outcome State Fault Refusal :=
  .next (s.txnRailUpEnd t b r q.val)

/-- TXN_RAIL_UP_TIMEOUT (R202). -/
def execTxnRailUpTimeout (t : Fin 5) (b : Bank) (r : Fin 2) (s : State) : Host.Outcome State Fault Refusal :=
  .next (s.txnRailUpTimeout t b r)

/-- TXN_RAIL_SWAP (R202). -/
def execTxnRailSwap (t : Fin 5) (b : Bank) (s : State) : Host.Outcome State Fault Refusal :=
  .next (s.txnRailSwap t b)

/-- TXN_CONNECT (R202). -/
def execTxnConnect (t : Fin 5) (n : Chan) (q : Fin 40) (s : State) : Host.Outcome State Fault Refusal :=
  .next (s.txnConnect t n q.val)

/-- TXN_RELEASE (R202). -/
def execTxnRelease (t : Fin 5) (s : State) : Host.Outcome State Fault Refusal :=
  .next (s.txnRelease t)

/-- TXN_SEQ (R202). -/
def execTxnSeq (t : Fin 5) (b : Bank) (q : Fin 40) (s : State) : Host.Outcome State Fault Refusal :=
  .next (s.txnSeq t b q.val)

/-- TXN_RAIL_DOWN (R202). -/
def execTxnRailDown (t : Fin 5) (b : Bank) (r : Fin 2) (q : Fin 40) (s : State) : Host.Outcome State Fault Refusal :=
  .next (s.txnRailDown t b r q.val)

end Sys2Proof.Machine
end

