-- ==== Sys2Proof/Machine/InputCommands.lean ====
section
/-!
DEFINITION. What the commands do, one definition each: digital inputs, loops, rails and trims (R81 to R116).
-/

namespace Sys2Proof.Machine

/-- COMPARATOR_CHANGE (R81). -/
def execComparatorChange (n : Chan) (level : Bool) (s : State) : Host.Outcome State Fault Refusal :=
  .next (s.comparatorChange n level)

/-- DEBOUNCE_ACCEPT (R82). -/
def execDebounceAccept (n : Chan) (s : State) : Host.Outcome State Fault Refusal :=
  .next (s.debounceAccept n)

/-- WIRE_BREAK_TIMER (R83). -/
def execWireBreakTimer (n : Chan) (below : Bool) (s : State) : Host.Outcome State Fault Refusal :=
  .next (s.wireBreakTimer n below)

/-- COUNTER_CLEAR (R86). -/
def execCounterClear (x : Seat) (n : Chan) (q : Fin 40) (s : State) : Host.Outcome State Fault Refusal :=
  .next (s.seatWrite x (CELL_CTR_CTRL_CLR n).addr 1 q)

/-- FREQ_GATE_END (R87). -/
def execFreqGateEnd (n : Chan) (s : State) : Host.Outcome State Fault Refusal :=
  .next (s.freqGateEnd n)

/-- NAMUR_BAND_TIMER (R90). -/
def execNamurBandTimer (n : Chan) (band : Option Bool) (s : State) : Host.Outcome State Fault Refusal :=
  .next (s.namurBandTimer n band)

/-- READBACK_CHECK (R105). -/
def execReadbackCheck (b : Bank) (m : BankRb) (s : State) : Host.Outcome State Fault Refusal :=
  .next (s.readbackCheck b m)

/-- RAIL_SETPOINT_FALL (R100). -/
def execRailSetpointFall (b : Bank) (r : Fin 2) (s : State) : Host.Outcome State Fault Refusal :=
  .next (s.railSetpointFall b r)

/-- RAIL_DROPOUT (R102). -/
def execRailDropout (b : Bank) (r : Fin 2) (s : State) : Host.Outcome State Fault Refusal :=
  .next (s.railDropout b r)

/-- ALARM_STRAP_CHANGE (R108). -/
def execAlarmStrapChange (b : Bank) (r : Fin 3) (s : State) : Host.Outcome State Fault Refusal :=
  .next (s.alarmStrapChange b r)

/-- THERMAL_CLAMP_STEP (R111). -/
def execThermalClampStep (n : Chan) (temp : Int) (s : State) : Host.Outcome State Fault Refusal :=
  .next (s.thermalClampStep n temp)

/-- TRIM_PRESS (R113). -/
def execTrimPress (p : Fin 2) (s : State) : Host.Outcome State Fault Refusal :=
  .next (s.trimPress p)

/-- TRIM_REPEAT (R113). -/
def execTrimRepeat (p : Fin 2) (s : State) : Host.Outcome State Fault Refusal :=
  .next (s.trimRepeat p)

/-- TRIM_SEL_WRITE (R114). -/
def execTrimSelWrite (x : Seat) (w : Word) (q : Fin 40) (s : State) : Host.Outcome State Fault Refusal :=
  .next (s.seatWrite x TRIM_SEL_SEL.addr w q)

/-- TRIM_STORE (R116). -/
def execTrimStore (x : Seat) (key : BitVec 16) (q : Fin 40) (s : State) : Host.Outcome State Fault Refusal :=
  .next (s.seatWrite x TRIM_STORE_KEY.addr (key.setWidth 32) q)

/-- TRIM_STORE_DONE (R116). -/
def execTrimStoreDone (err : BitVec 4) (s : State) : Host.Outcome State Fault Refusal :=
  .next (s.trimStoreDone err.toNat)

/-- RAIL_DROPOUT_END (R102). -/
def execRailDropoutEnd (b : Bank) (r : Fin 2) (s : State) : Host.Outcome State Fault Refusal :=
  .next (s.railDropoutEnd b r)

/-- TRIM_PIN_RELEASE (R113). -/
def execTrimPinRelease (p : Fin 2) (s : State) : Host.Outcome State Fault Refusal :=
  .next (s.trimPinRelease p)

end Sys2Proof.Machine
end

