-- ==== Sys2Proof/Machine/MeasureCommands.lean ====
section
/-!
DEFINITION. What the commands do, one definition each: converters and statistics (R117 to R153).
-/

namespace Sys2Proof.Machine

/-- SEQUENCE_PASS_START (R125). -/
def execSequencePassStart (b : Bank) (q : Fin 40) (s : State) : Host.Outcome State Fault Refusal :=
  .next (s.sequencePassStart b q.val)

/-- CONVERSION_END (R144). -/
def execConversionEnd (b : Bank) (m : ConvMeas) (s : State) : Host.Outcome State Fault Refusal :=
  .next (s.conversionEnd b m)

/-- TIME_WINDOW_CLOSE (R145). -/
def execTimeWindowClose (u : Unit96) (s : State) : Host.Outcome State Fault Refusal :=
  .next (s.timeWindowClose u)

/-- STAT_CLOSE (R145). -/
def execStatClose (x : Seat) (u : Unit96) (q : Fin 40) (s : State) : Host.Outcome State Fault Refusal :=
  .next (s.seatWrite x (STAT_CTRL_CLOSE u).addr 1 q)

/-- DIRTY_WINDOW_END (R137). -/
def execDirtyWindowEnd (b : Bank) (s : State) : Host.Outcome State Fault Refusal :=
  .next (s.dirtyWindowEnd b)

/-- INJ_TRIGGER (R129). -/
def execInjTrigger (b : Bank) (k : Fin 8) (q : Fin 40) (s : State) : Host.Outcome State Fault Refusal :=
  .next (s.injTrigger b k q.val)

/-- INJ_TRIG_WRITE (R152). -/
def execInjTrigWrite (x : Seat) (b : Bank) (mask : BitVec 8) (q : Fin 40) (s : State) : Host.Outcome State Fault Refusal :=
  .next (s.seatWrite x (BANK_INJ_TRIG_TRIG b).addr (mask.setWidth 32) q)

/-- INJ_TIMER_TICK (R128). -/
def execInjTimerTick (b : Bank) (q : Fin 40) (s : State) : Host.Outcome State Fault Refusal :=
  .next (s.injTimerTick b q.val)

/-- CAL_START (R132). -/
def execCalStart (x : Seat) (b : Bank) (q : Fin 40) (s : State) : Host.Outcome State Fault Refusal :=
  .next (s.seatWrite x (BANK_CAL_CTRL_START b).addr 1 q)

/-- CAL_AUTO_CHECK (R132). -/
def execCalAutoCheck (b : Bank) (temp : Int) (s : State) : Host.Outcome State Fault Refusal :=
  .next (s.calAutoCheck b temp)

/-- CAL_BEGIN (R133). -/
def execCalBegin (b : Bank) (s : State) : Host.Outcome State Fault Refusal :=
  .next (s.calBegin b)

/-- CAL_END (R131). -/
def execCalEnd (b : Bank) (m : CalMeas) (q : Fin 40) (s : State) : Host.Outcome State Fault Refusal :=
  .next (s.calEnd b m q.val)

/-- READBACK_GROUP (R143). -/
def execReadbackGroup (b : Bank) (rb : Vector Nat 8) (q : Fin 40) (s : State) : Host.Outcome State Fault Refusal :=
  .next (s.readbackGroup b rb q.val)

end Sys2Proof.Machine
end

