-- ==== Sys2Proof/Machine/MemoryCommands.lean ====
section
/-!
DEFINITION. What the commands do, one definition each: ECC, DMA and MPU (R224 to R243).
-/

namespace Sys2Proof.Machine

/-- FAULT_ECC_CLEAR (R234). -/
def execFaultEccClear (x : Seat) (q : Fin 40) (s : State) : Host.Outcome State Fault Refusal :=
  .next (s.seatWrite x 0x3080C 0x10 q)

/-- ECC_UNCORRECTABLE (R234). -/
def execEccUncorrectable (markhor : Bool) (s : State) : Host.Outcome State Fault Refusal :=
  .next (s.eccUncorrectable markhor)

/-- DMA_START (R241). -/
def execDmaStart (x : DmaBy) (c : DmaCh) (q : Fin 40) (s : State) : Host.Outcome State Fault Refusal :=
  match x with
  | .seat x => .next (s.seatCommand x (DMA_CTRL_START c).addr 1 q)
  | .firmware ctrl desc => .next (s.engineStart c ctrl desc)

/-- DMA_STOP (R240). -/
def execDmaStop (x : Option Seat) (c : DmaCh) (q : Fin 40) (s : State) : Host.Outcome State Fault Refusal :=
  match x with
  | some x => .next (s.seatCommand x (DMA_CTRL_STOP c).addr 2 q)
  | none => .next (s.engineStop c)

/-- DMA_TRIGGER (R241). -/
def execDmaTrigger (c : DmaCh) (s : State) : Host.Outcome State Fault Refusal :=
  .next (s.dmaTrigger c)

/-- DMA_BEAT (R238). -/
def execDmaBeat (ecc : Bool) (q : Fin 40) (s : State) : Host.Outcome State Fault Refusal :=
  .next (s.dmaBeat ecc q).endMpu

/-- DMA_DESCRIPTOR_END (R239). -/
def execDmaDescriptorEnd (c : DmaCh) (q : Fin 40) (s : State) : Host.Outcome State Fault Refusal :=
  .next (s.dmaDescriptorEnd c q).endMpu

/-- MPU_FAULT (R243). -/
def execMpuFault (e : Fin 11) (kind : BitVec 2) (priv : Bool) (addr : Word) (s : State) : Host.Outcome State Fault Refusal :=
  .next (s.mpuFault e kind priv addr)

/-- LOCKSTEP_DISAGREE (R342). -/
def execLockstepDisagree (s : State) : Host.Outcome State Fault Refusal :=
  .next (s.lockstepDisagree)

end Sys2Proof.Machine
end

