-- ==== Sys2Proof/Machine/ModeCommands.lean ====
section
/-!
DEFINITION. What the commands do, one definition each: device and bank modes (R165 to R172).
-/

namespace Sys2Proof.Machine

/-- MODE_CMD_RUN (R165). -/
def execModeCmdRun (x : Seat) (q : Fin 40) (s : State) : Host.Outcome State Fault Refusal :=
  .next (s.seatWrite x SYS_MODE_CMD_CMD.addr 2 q)

/-- MODE_CMD_TEST (R165). -/
def execModeCmdTest (x : Seat) (q : Fin 40) (s : State) : Host.Outcome State Fault Refusal :=
  .next (s.seatWrite x SYS_MODE_CMD_CMD.addr 3 q)

/-- RESET_INTENT (R172). -/
def execResetIntent (x : Seat) (key : BitVec 16) (q : Fin 40) (s : State) : Host.Outcome State Fault Refusal :=
  .next (s.seatWrite x SYS_RESET_INTENT_KEY.addr (key.setWidth 32) q)

/-- REC_REQ (R165). -/
def execRecReq (x : Seat) (b : Bank) (q : Fin 40) (s : State) : Host.Outcome State Fault Refusal :=
  .next (s.seatWrite x (BANK_MODE_MODE b).addr 0x100 q)

/-- REC_END (R165). -/
def execRecEnd (x : Seat) (b : Bank) (q : Fin 40) (s : State) : Host.Outcome State Fault Refusal :=
  .next (s.seatWrite x (BANK_MODE_MODE b).addr 0x200 q)

end Sys2Proof.Machine
end

