-- ==== Sys2Proof/Machine/OutputCommands.lean ====
section
/-!
DEFINITION. What the commands do, one definition each: switching outputs (R45 to R80).
-/

namespace Sys2Proof.Machine

/-- ILIM_ENTRY (R51). -/
def execIlimEntry (m : LimitMeas) (s : State) : Host.Outcome State Fault Refusal :=
  .next (s.ilimEntryWhole m.n m.ma)

/-- ILIM_EXIT (R51). -/
def execIlimExit (n : Chan) (s : State) : Host.Outcome State Fault Refusal :=
  .next (s.ilimExit n)

/-- LIMIT_TIMEOUT (R51). -/
def execLimitTimeout (n : Chan) (s : State) : Host.Outcome State Fault Refusal :=
  .next (s.limitTimeoutWhole n)

/-- TSD_TRIP (R52). -/
def execTsdTrip (n : Chan) (s : State) : Host.Outcome State Fault Refusal :=
  .next (s.tsdTripWhole n)

/-- TSD_OFF_HOLD (R52). -/
def execTsdOffHold (n : Chan) (s : State) : Host.Outcome State Fault Refusal :=
  .next (s.tsdOffHold n)

/-- TSD_RELEASE (R52). -/
def execTsdRelease (n : Chan) (s : State) : Host.Outcome State Fault Refusal :=
  .next (s.tsdRelease n)

/-- RESTART_WAIT_END (R51). -/
def execRestartWaitEnd (n : Chan) (s : State) : Host.Outcome State Fault Refusal :=
  .next (s.restartWaitEnd n)

/-- RETRY_COUNT_RESET (R51). -/
def execRetryCountReset (n : Chan) (s : State) : Host.Outcome State Fault Refusal :=
  .next (s.retryCountReset n)

/-- TWARN (R53). -/
def execTwarn (n : Chan) (s : State) : Host.Outcome State Fault Refusal :=
  .next (s.twarn n)

/-- INRUSH_WINDOW_END (R62). -/
def execInrushWindowEnd (n : Chan) (s : State) : Host.Outcome State Fault Refusal :=
  .next (s.inrushWindowEnd n)

/-- ARBITER_TBWARN (R64). -/
def execArbiterTbwarn (b : Bank) (s : State) : Host.Outcome State Fault Refusal :=
  .next (s.arbiterTbwarn b)

/-- ARBITER_COOLED (R64). -/
def execArbiterCooled (b : Bank) (s : State) : Host.Outcome State Fault Refusal :=
  .next (s.arbiterCooled b)

/-- PHASE_POINT_TURN_ON (R63). -/
def execPhasePointTurnOn (n : Chan) (s : State) : Host.Outcome State Fault Refusal :=
  .next (s.phasePointTurnOn n)

/-- WICK_PERIOD_START (R69). -/
def execWickPeriodStart (n : Chan) (s : State) : Host.Outcome State Fault Refusal :=
  .next (s.wickPeriodStart n)

/-- WICK_EDGE (R68). -/
def execWickEdge (n : Chan) (rising : Bool) (s : State) : Host.Outcome State Fault Refusal :=
  .next (s.wickEdgeWhole n rising)

/-- BLANKING_END (R72). -/
def execBlankingEnd (n : Chan) (s : State) : Host.Outcome State Fault Refusal :=
  .next (s.blankingEnd n)

/-- OFF_STATE_SLOT (R72). -/
def execOffStateSlot (n : Chan) (starts : Bool) (vterm : Int) (s : State) : Host.Outcome State Fault Refusal :=
  .next (s.offStateSlot n starts vterm)

/-- OFF_STATE_FLAG_TIMER (R73). -/
def execOffStateFlagTimer (n : Chan) (high : Bool) (near : List Chan) (vterm : Int) (s : State) : Host.Outcome State Fault Refusal :=
  .next (s.offStateFlagTimer n high near vterm)

/-- OPEN_LOAD_ON_TIMER (R74). -/
def execOpenLoadOnTimer (n : Chan) (ma : Nat) (s : State) : Host.Outcome State Fault Refusal :=
  .next (s.openLoadOnTimer n ma)

/-- LIMP_PIN_EDGE (R77). -/
def execLimpPinEdge (b : Bank) (pin : Fin 2) (level : Bool) (s : State) : Host.Outcome State Fault Refusal :=
  .next (s.limpPinEdge b pin level)

/-- ISEL_CHANGE (R75). -/
def execIselChange (b : Bank) (k : Fin 8) (s : State) : Host.Outcome State Fault Refusal :=
  .next (s.iselChange b k)

/-- TWARN_CLEAR (R53). -/
def execTwarnClear (n : Chan) (s : State) : Host.Outcome State Fault Refusal :=
  .next (s.twarnClear n)

end Sys2Proof.Machine
end

