-- ==== Sys2Proof/Machine/PairCommands.lean ====
section
/-!
DEFINITION. What the commands do, one definition each: pairing (R299 to R326).
-/

namespace Sys2Proof.Machine

/-- OWN_RELEASE (R305). -/
def execOwnRelease (b : Bank) (takeReq : Bool) (s : State) : Host.Outcome State Fault Refusal :=
  .next (s.ownRelease b takeReq)

/-- OWN_TAKE (R305). -/
def execOwnTake (b : Bank) (how : Release) (q : Fin 40) (s : State) : Host.Outcome State Fault Refusal :=
  .next (s.ownTake b how q)

/-- PARTNER_TAKEN (R305). -/
def execPartnerTaken (b : Bank) (s : State) : Host.Outcome State Fault Refusal :=
  .next (s.partnerTaken b)

/-- OUTGOING_SWITCH_OPEN (R305). -/
def execOutgoingSwitchOpen (b : Bank) (s : State) : Host.Outcome State Fault Refusal :=
  .next (s.outgoingSwitchOpen b)

/-- GRACE_END (R305). -/
def execGraceEnd (b : Bank) (s : State) : Host.Outcome State Fault Refusal :=
  .next (s.graceEnd b)

/-- CLAMP_REMOVE (R305). -/
def execClampRemove (b : Bank) (s : State) : Host.Outcome State Fault Refusal :=
  .next (s.clampRemove b)

/-- COLD_TAKE (R308). -/
def execColdTake (b : Bank) (q : Fin 40) (s : State) : Host.Outcome State Fault Refusal :=
  .next (s.coldTake b q)

/-- COLD_TAKE_TIMEOUT (R308). -/
def execColdTakeTimeout (b : Bank) (s : State) : Host.Outcome State Fault Refusal :=
  .next (s.coldTakeTimeout b)

/-- PAIR_HEARTBEAT_SEND (R312). -/
def execPairHeartbeatSend (ns : Fin 10000) (s : State) : Host.Outcome State Fault Refusal :=
  .next (s.pairHeartbeatSend ns)

/-- PAIR_HEARTBEAT_RECEIVED (R312). -/
def execPairHeartbeatReceived (codesOk : Bool) (f : List Byte) (ns : Fin 10000) (late : Bool) (s : State) : Host.Outcome State Fault Refusal :=
  .next (s.pairHeartbeatReceived codesOk f ns late)

/-- PAIR_HEARTBEAT_LOST (R316). -/
def execPairHeartbeatLost (s : State) : Host.Outcome State Fault Refusal :=
  .next (s.pairHeartbeatLost)

/-- PAIR_LINK_DOWN (R310). -/
def execPairLinkDown (s : State) : Host.Outcome State Fault Refusal :=
  .next (s.pairLinkDown)

/-- SNAPSHOT_CLOSE (R314). -/
def execSnapshotClose (s : State) : Host.Outcome State Fault Refusal :=
  .next (s.snapshotClose)

/-- SNAP_RECORD_RECEIVED (R316). -/
def execSnapRecordReceived (codesOk : Bool) (f : List Byte) (s : State) : Host.Outcome State Fault Refusal :=
  .next (s.snapRecordReceived codesOk f)

/-- SNAPSHOT_APPLY (R316). -/
def execSnapshotApply (s : State) : Host.Outcome State Fault Refusal :=
  .next (s.snapshotApply)

/-- BASELINE_REQ (R314). -/
def execBaselineReq (s : State) : Host.Outcome State Fault Refusal :=
  .next (s.baselineReq)

/-- HANDOVER_START (R323). -/
def execHandoverStart (x : Seat) (key : BitVec 16) (q : Fin 40) (s : State) : Host.Outcome State Fault Refusal :=
  .next (s.seatWrite x 0x90024 (key.setWidth 32) q)

/-- HANDOVER_READY (R323). -/
def execHandoverReady (seq : BitVec 32) (s : State) : Host.Outcome State Fault Refusal :=
  .next (s.handoverReady seq)

/-- HANDOVER_BOUNDARY (R323). -/
def execHandoverBoundary (s : State) : Host.Outcome State Fault Refusal :=
  .next (s.handoverBoundary)

/-- HANDOVER_END (R323). -/
def execHandoverEnd (s : State) : Host.Outcome State Fault Refusal :=
  .next (s.handoverEnd)

/-- HANDOVER_TIMEOUT (R323). -/
def execHandoverTimeout (s : State) : Host.Outcome State Fault Refusal :=
  .next (s.handoverTimeout)

/-- AUTO_MERGE (R321). -/
def execAutoMerge (s : State) : Host.Outcome State Fault Refusal :=
  .next (s.autoMerge)

/-- BEACON_SEND (R325). -/
def execBeaconSend (ns : Fin 10000) (s : State) : Host.Outcome State Fault Refusal :=
  .next (s.beaconSend ns)

/-- BEACON_RECEIVED (R325). -/
def execBeaconReceived (codesOk : Bool) (f : List Byte) (s : State) : Host.Outcome State Fault Refusal :=
  .next (s.beaconReceived codesOk f)

/-- SELF_TEST (R324). -/
def execSelfTest (ran : BitVec 7) (fail : BitVec 7) (s : State) : Host.Outcome State Fault Refusal :=
  .next (s.selfTest ran fail)

/-- PAIR_LINK_LOCK (R310). -/
def execPairLinkLock (s : State) : Host.Outcome State Fault Refusal :=
  .next (s.pairLinkLock)

/-- HANDOVER_REQ_RECEIVED (R323). -/
def execHandoverReqReceived (s : State) : Host.Outcome State Fault Refusal :=
  .next (s.handoverReqReceived)

/-- HANDOVER_GO_RECEIVED (R323). -/
def execHandoverGoReceived (ns : BitVec 64) (s : State) : Host.Outcome State Fault Refusal :=
  .next (s.handoverGoReceived ns)

/-- PARTNER_SEEN_CHANGE (R302). -/
def execPartnerSeenChange (b : Bank) (x : OwnSense) (s : State) : Host.Outcome State Fault Refusal :=
  .next (s.partnerSeenChange b x)

end Sys2Proof.Machine
end

