-- ==== Sys2Proof/Machine/RingCommands.lean ====
section
/-!
DEFINITION. What the commands do, one definition each: the Nymver ring (R244 to R298).
-/

namespace Sys2Proof.Machine

/-- CYCLE_START (R260). -/
def execCycleStart (loopNs : BitVec 32) (s : State) : Host.Outcome State Fault Refusal :=
  .next (s.cycleStart loopNs.toNat)

/-- NODE_SECTOR_PROCESS (R262). -/
def execNodeSectorProcess (f : NodeFrame) (s : State) : Host.Outcome State Fault Refusal :=
  .next (s.nodeSectorProcess f)

/-- NODE_OUT_APPLY (R275). -/
def execNodeOutApply (s : State) : Host.Outcome State Fault Refusal :=
  .next (s.nodeOutApply)

/-- SECTOR_PUBLISH (R263). -/
def execSectorPublish (k : Fin 2048) (sec : SectorIn) (s : State) : Host.Outcome State Fault Refusal :=
  .next (s.sectorPublish k.val sec)

/-- SECTOR_LATE (R263). -/
def execSectorLate (k : Fin 2048) (s : State) : Host.Outcome State Fault Refusal :=
  .next (s.sectorLate k.val)

/-- PORT_LOCK (R250). -/
def execPortLock (p : Port) (adapt : Int) (eye : BitVec 8) (inv : Bool) (s : State) : Host.Outcome State Fault Refusal :=
  .next (s.portLock p adapt eye.toNat inv)

/-- PORT_DOWN (R250). -/
def execPortDown (e : PortErrs) (s : State) : Host.Outcome State Fault Refusal :=
  .next (s.portDown e)

/-- PORT_REDRIVE (R250). -/
def execPortRedrive (p : Port) (s : State) : Host.Outcome State Fault Refusal :=
  .next (s.portRedrive p)

/-- UNWRAP_FORWARD (R283). -/
def execUnwrapForward (s : State) : Host.Outcome State Fault Refusal :=
  .next (s.unwrapForward)

/-- BYPASS_OPEN (R251). -/
def execBypassOpen (s : State) : Host.Outcome State Fault Refusal :=
  .next (s.bypassOpen)

/-- JOIN_SEND (R270). -/
def execJoinSend (s : State) : Host.Outcome State Fault Refusal :=
  .next (s.joinSend)

/-- JOIN_RETRY (R270). -/
def execJoinRetry (s : State) : Host.Outcome State Fault Refusal :=
  .next (s.joinRetry)

/-- JOIN_ANSWER (R270). -/
def execJoinAnswer (uid : BitVec 64) (s : State) : Host.Outcome State Fault Refusal :=
  .next (s.joinAnswer uid.toNat)

/-- ASSIGN_RECEIVED (R270). -/
def execAssignReceived (uid : BitVec 64) (addr : BitVec 16) (s : State) : Host.Outcome State Fault Refusal :=
  .next (s.assignReceived uid.toNat addr.toNat)

/-- REJECT_RECEIVED (R270). -/
def execRejectReceived (uid : BitVec 64) (s : State) : Host.Outcome State Fault Refusal :=
  .next (s.rejectReceived uid.toNat)

/-- REJECT_RETRY (R270). -/
def execRejectRetry (s : State) : Host.Outcome State Fault Refusal :=
  .next (s.rejectRetry)

/-- LEAVE_RECEIVED (R270). -/
def execLeaveReceived (s : State) : Host.Outcome State Fault Refusal :=
  .next (s.leaveReceived)

/-- NODE_TABLE_WRITE (R266). -/
def execNodeTableWrite (x : Seat) (k : Fin 2048) (j : Fin 8) (w : Word) (q : Fin 40) (s : State) : Host.Outcome State Fault Refusal :=
  .next (s.seatWrite x (0x100000 + 32 * k.val + 4 * j.val) w q)

/-- HOLDOVER_UNSYNC (R288). -/
def execHoldoverUnsync (s : State) : Host.Outcome State Fault Refusal :=
  .next (s.holdoverUnsync)

/-- TIME_SET (R286). -/
def execTimeSet (x : Seat) (lo : Word) (q : Fin 40) (s : State) : Host.Outcome State Fault Refusal :=
  .next (s.seatWrite x 0x8002C lo q)

/-- SCHED_ARM (R291). -/
def execSchedArm (x : Seat) (k : Fin 8) (n : Chan) (q : Fin 40) (s : State) : Host.Outcome State Fault Refusal :=
  .next (s.seatWrite x (RING_SCHED_CTRL_ARM k).addr (BitVec.ofNat 32 (n.val + 0x20)) q)

/-- SCHED_CANCEL (R291). -/
def execSchedCancel (x : Seat) (k : Fin 8) (q : Fin 40) (s : State) : Host.Outcome State Fault Refusal :=
  .next (s.seatCommand x (RING_SCHED_CTRL_ARM k).addr 0x40 q)

/-- SCHED_APPLY (R291). -/
def execSchedApply (k : Fin 8) (s : State) : Host.Outcome State Fault Refusal :=
  .next (s.schedApply k)

/-- CMD_START (R292). -/
def execCmdStart (x : Seat) (q : Fin 40) (s : State) : Host.Outcome State Fault Refusal :=
  .next (s.seatCommand x 0x80100 1 q)

/-- CMD_ABORT (R292). -/
def execCmdAbort (x : Seat) (q : Fin 40) (s : State) : Host.Outcome State Fault Refusal :=
  .next (s.seatCommand x 0x80100 2 q)

/-- CMD_TIMEOUT (R292). -/
def execCmdTimeout (x : Seat) (s : State) : Host.Outcome State Fault Refusal :=
  .next (s.cmdTimeout x)

/-- CMD_DONE (R292). -/
def execCmdDone (x : Seat) (frags : List SvcMsg) (s : State) : Host.Outcome State Fault Refusal :=
  .next (s.cmdDone x frags)

/-- NODE_CMD_RUN (R293). -/
def execNodeCmdRun (q : Fin 40) (s : State) : Host.Outcome State Fault Refusal :=
  .next (s.nodeCmdRun q)

/-- CLAIM_CLEAR (R279). -/
def execClaimClear (x : Seat) (key : BitVec 16) (q : Fin 40) (s : State) : Host.Outcome State Fault Refusal :=
  .next (s.seatWrite x 0x80048 (key.setWidth 32) q)

/-- PORT_LOCK_LOST (R250). -/
def execPortLockLost (e : PortErrs) (s : State) : Host.Outcome State Fault Refusal :=
  .next (s.portLockLost e)

/-- SECOND_COPY_START (R296). -/
def execSecondCopyStart (c : BitVec 32) (s : State) : Host.Outcome State Fault Refusal :=
  .next (s.secondCopyStart c.toNat)

end Sys2Proof.Machine
end

