-- ==== Sys2Proof/Machine/SuperviseCommands.lean ====
section
/-!
DEFINITION. What the commands do, one definition each: clocks, watchdog, resets, boot, power and debug (R327 to R364, R388, R424 to R428).
-/

namespace Sys2Proof.Machine

/-- CRYSTAL_STOPPED (R331). -/
def execCrystalStopped (s : State) : Host.Outcome State Fault Refusal :=
  .next (s.crystalStopped)

/-- CRYSTAL_OFF_FREQUENCY (R331). -/
def execCrystalOffFrequency (s : State) : Host.Outcome State Fault Refusal :=
  .next (s.crystalOffFrequency)

/-- MAIN_CLOCK_STOPPED (R331). -/
def execMainClockStopped (s : State) : Host.Outcome State Fault Refusal :=
  .next (s.mainClockStopped)

/-- PLL_UNLOCK (R331). -/
def execPllUnlock (s : State) : Host.Outcome State Fault Refusal :=
  .next (s.pllUnlock)

/-- MONITOR_RC_STOPPED (R331). -/
def execMonitorRcStopped (s : State) : Host.Outcome State Fault Refusal :=
  .next (s.monitorRcStopped)

/-- CLOCK_RESTORE (R332). -/
def execClockRestore (x : Seat) (q : Fin 40) (s : State) : Host.Outcome State Fault Refusal :=
  .next (s.seatWrite x 0x10104 1 q)

/-- CLOCK_RESTORE_SWITCH (R332). -/
def execClockRestoreSwitch (s : State) : Host.Outcome State Fault Refusal :=
  .next (s.clockRestoreSwitch)

/-- XTAL_SWITCH (R328). -/
def execXtalSwitch (s : State) : Host.Outcome State Fault Refusal :=
  .next (s.xtalSwitch)

/-- WDG_KEY_A (R337). -/
def execWdgKeyA (agent : WdgAgent) (key : BitVec 16) (q : Fin 40) (s : State) : Host.Outcome State Fault Refusal :=
  .next (s.wdgKeyAWhole agent key q)

/-- WDG_KEY_B (R337). -/
def execWdgKeyB (agent : WdgAgent) (key : BitVec 16) (q : Fin 40) (s : State) : Host.Outcome State Fault Refusal :=
  .next (s.wdgKeyBWhole agent key q)

/-- WDG_WINDOW_OPEN (R334). -/
def execWdgWindowOpen (s : State) : Host.Outcome State Fault Refusal :=
  .next (s.wdgWindowOpen)

/-- WDG_EXPIRED (R337). -/
def execWdgExpired (s : State) : Host.Outcome State Fault Refusal :=
  .next (s.wdgExpired)

/-- WDG_ARM_DISCARD (R337). -/
def execWdgArmDiscard (s : State) : Host.Outcome State Fault Refusal :=
  .next (s.wdgArmDiscard)

/-- POWER_ON_RESET (R343). -/
def execPowerOnReset (aonLost : Bool) (s : State) : Host.Outcome State Fault Refusal :=
  .next (s.powerOnReset aonLost)

/-- BROWN_OUT_RESET (R343). -/
def execBrownOutReset (s : State) : Host.Outcome State Fault Refusal :=
  .next (s.brownOutReset)

/-- RESET_CMD (R343). -/
def execResetCmd (x : Seat) (key : BitVec 16) (q : Fin 40) (s : State) : Host.Outcome State Fault Refusal :=
  .next (s.seatWrite x SYS_RESET_CMD_KEY.addr (key.setWidth 32) q)

/-- PIN_RESET (R343). -/
def execPinReset (s : State) : Host.Outcome State Fault Refusal :=
  .next (s.pinReset)

/-- NV_GRACE_END (R347). -/
def execNvGraceEnd (us : Nat) (s : State) : Host.Outcome State Fault Refusal :=
  .next (s.nvGraceEnd us)

/-- RESET_RELEASE (R349). -/
def execResetRelease (bootSel : Bool) (memBad : Option (BitVec 8)) (prio : Fin 8) (s : State) : Host.Outcome State Fault Refusal :=
  .next (s.resetRelease bootSel memBad prio)

/-- BOOT_OK (R350). -/
def execBootOk (ms : Nat) (s : State) : Host.Outcome State Fault Refusal :=
  .next (s.bootOk ms)

/-- BOOT_DEADLINE (R350). -/
def execBootDeadline (s : State) : Host.Outcome State Fault Refusal :=
  .next (s.bootDeadline)

/-- BOOT_RETRY (R355). -/
def execBootRetry (x : Seat) (key : BitVec 16) (q : Fin 40) (s : State) : Host.Outcome State Fault Refusal :=
  .next (s.seatWrite x SYS_BOOT_RETRY_KEY.addr (key.setWidth 32) q)

/-- PWR_ACTIVE (R360). -/
def execPwrActive (x : Seat) (q : Fin 40) (s : State) : Host.Outcome State Fault Refusal :=
  .next (s.seatWrite x SYS_PWR_CMD_CMD.addr 0 q)

/-- PWR_IDLE (R360). -/
def execPwrIdle (x : Seat) (q : Fin 40) (s : State) : Host.Outcome State Fault Refusal :=
  .next (s.seatWrite x SYS_PWR_CMD_CMD.addr 1 q)

/-- PWR_STANDBY (R360). -/
def execPwrStandby (x : Seat) (q : Fin 40) (s : State) : Host.Outcome State Fault Refusal :=
  .next (s.seatWrite x SYS_PWR_CMD_CMD.addr 2 q)

/-- PWR_SLEEP (R360). -/
def execPwrSleep (x : Seat) (q : Fin 40) (s : State) : Host.Outcome State Fault Refusal :=
  .next (s.seatWrite x SYS_PWR_CMD_CMD.addr 3 q)

/-- WAKE (R362). -/
def execWake (src : WakeSrc) (s : State) : Host.Outcome State Fault Refusal :=
  .next (s.wake src)

/-- LOCK_KEY (R424). -/
def execLockKey (x : Seat) (key : BitVec 16) (q : Fin 40) (s : State) : Host.Outcome State Fault Refusal :=
  .next (s.seatWrite x 0x14 (key.setWidth 32) q)

/-- CW_STORE (R427). -/
def execCwStore (x : Seat) (key : BitVec 16) (q : Fin 40) (s : State) : Host.Outcome State Fault Refusal :=
  .next (s.seatWrite x 0x408 (key.setWidth 32) q)

/-- CW_STORE_DONE (R427). -/
def execCwStoreDone (err : BitVec 4) (s : State) : Host.Outcome State Fault Refusal :=
  .next (s.cwStoreDone err.toNat)

/-- DEBUG_NONCE (R388). -/
def execDebugNonce (s : State) : Host.Outcome State Fault Refusal :=
  .next (s.debugNonce)

/-- DEBUG_AUTHENTICATE (R388). -/
def execDebugAuthenticate (r : BitVec 256) (t : BitVec 256) (s : State) : Host.Outcome State Fault Refusal :=
  .next (s.debugAuthenticate r t)

/-- VDDIO_CHANGE (R359). -/
def execVddioChange (valid : Bool) (s : State) : Host.Outcome State Fault Refusal :=
  .next (s.vddioChange valid)

/-- JTAG_RESET (R343). -/
def execJtagReset (s : State) : Host.Outcome State Fault Refusal :=
  .next (s.jtagReset)

/-- DEBUG_REGISTER_ACCESS (R388, R417): a register access, or a boundary scan, which is the JTAG port's own. -/
def execDebugRegisterAccess (a : JtagAccess) (w : Option Word) (q : Fin 40) (s : State) : Host.Outcome State Fault Refusal :=
  match a with
  | .reg a => .next (s.debugAccess a.toNat w q)
  | .priv g i => .next (if i < g.count then s.debugPrivate w else s)
  | .scan i pins shift => .next (s.jtagScan i pins shift)
  | .tapReset => .next s.tapReset

end Sys2Proof.Machine
end

