-- ==== Sys2Proof/Machine/SupplyCommands.lean ====
section
/-!
DEFINITION. What the commands do, one definition each: the field supplies (R154 to R164).
-/

namespace Sys2Proof.Machine

/-- VF_LOW_SET (R155). -/
def execVfLowSet (b : Bank) (mv : Nat) (s : State) : Host.Outcome State Fault Refusal :=
  .next (s.vfLowSet b mv)

/-- VF_LOW_CLEAR (R155). -/
def execVfLowClear (b : Bank) (mv : Nat) (s : State) : Host.Outcome State Fault Refusal :=
  .next (s.vfLowClear b mv)

/-- UV_OFF_TRIP (R158). -/
def execUvOffTrip (b : Bank) (mv : Nat) (s : State) : Host.Outcome State Fault Refusal :=
  .next (s.uvOffTrip b mv)

/-- RESTORE_START (R159). -/
def execRestoreStart (b : Bank) (mv : Nat) (s : State) : Host.Outcome State Fault Refusal :=
  .next (s.restoreStart b mv)

/-- STAGGER_RELEASE (R160). -/
def execStaggerRelease (b : Bank) (s : State) : Host.Outcome State Fault Refusal :=
  .next (s.staggerRelease b)

/-- FIELD_BANK_RESET (R162). -/
def execFieldBankReset (b : Bank) (s : State) : Host.Outcome State Fault Refusal :=
  .next (s.fieldResetWhole b)

/-- FIELD_DIE_RELEASE (R155). -/
def execFieldDieRelease (b : Bank) (mv : Nat) (s : State) : Host.Outcome State Fault Refusal :=
  .next (s.fieldReleaseWhole b mv)

end Sys2Proof.Machine
end

