-- ==== Sys2Proof/Machine/Dispatch.lean ====
section
/-!
DEFINITION. The meaning of each command: one arm per constructor of Instr.
-/

namespace Sys2Proof.Machine

def exec (i : Instr) (s : State) : Host.Outcome State Fault Refusal :=
  match i with
  | .hostFrame x bytes q => Sys2Proof.Machine.execHostFrame x bytes q s
  | .frameAbort x => Sys2Proof.Machine.execFrameAbort x s
  | .registerWrite x a w q => Sys2Proof.Machine.execRegisterWrite x a w q s
  | .fabricCycleBoundary ovrn xtalOk dev => Sys2Proof.Machine.execFabricCycleBoundary ovrn xtalOk dev s
  | .fuseStep m => Sys2Proof.Machine.execFuseStep m s
  | .downwardFrameReceived b crcOk => Sys2Proof.Machine.execDownwardFrameReceived b crcOk s
  | .upwardFrame b m => Sys2Proof.Machine.execUpwardFrame b m s
  | .upwardFrameReceived b crcOk => Sys2Proof.Machine.execUpwardFrameReceived b crcOk s
  | .logicSideLoss b => Sys2Proof.Machine.execLogicSideLoss b s
  | .fieldDieLoss b => Sys2Proof.Machine.execFieldDieLoss b s
  | .logicSideReturn b => Sys2Proof.Machine.execLogicSideReturn b s
  | .fuseStall n => Sys2Proof.Machine.execFuseStall n s
  | .holdCurrentTrip n ma => Sys2Proof.Machine.execHoldCurrentTrip n ma s
  | .cellOutWrite x n v q => Sys2Proof.Machine.execCellOutWrite x n v q s
  | .cellAdopt x n token q => Sys2Proof.Machine.execCellAdopt x n token q s
  | .faultClr x n q => Sys2Proof.Machine.execFaultClr x n q s
  | .seatTimeout x => Sys2Proof.Machine.execSeatTimeout x s
  | .recoveryTimeoutEnd b => Sys2Proof.Machine.execRecoveryTimeoutEnd b s
  | .pairHoldEnd b => Sys2Proof.Machine.execPairHoldEnd b s
  | .ilimEntry m => Sys2Proof.Machine.execIlimEntry m s
  | .ilimExit n => Sys2Proof.Machine.execIlimExit n s
  | .limitTimeout n => Sys2Proof.Machine.execLimitTimeout n s
  | .tsdTrip n => Sys2Proof.Machine.execTsdTrip n s
  | .tsdOffHold n => Sys2Proof.Machine.execTsdOffHold n s
  | .tsdRelease n => Sys2Proof.Machine.execTsdRelease n s
  | .restartWaitEnd n => Sys2Proof.Machine.execRestartWaitEnd n s
  | .retryCountReset n => Sys2Proof.Machine.execRetryCountReset n s
  | .twarn n => Sys2Proof.Machine.execTwarn n s
  | .inrushWindowEnd n => Sys2Proof.Machine.execInrushWindowEnd n s
  | .arbiterTbwarn b => Sys2Proof.Machine.execArbiterTbwarn b s
  | .arbiterCooled b => Sys2Proof.Machine.execArbiterCooled b s
  | .phasePointTurnOn n => Sys2Proof.Machine.execPhasePointTurnOn n s
  | .wickPeriodStart n => Sys2Proof.Machine.execWickPeriodStart n s
  | .wickEdge n rising => Sys2Proof.Machine.execWickEdge n rising s
  | .blankingEnd n => Sys2Proof.Machine.execBlankingEnd n s
  | .offStateSlot n starts vterm => Sys2Proof.Machine.execOffStateSlot n starts vterm s
  | .offStateFlagTimer n high near vterm => Sys2Proof.Machine.execOffStateFlagTimer n high near vterm s
  | .openLoadOnTimer n ma => Sys2Proof.Machine.execOpenLoadOnTimer n ma s
  | .limpPinEdge b pin level => Sys2Proof.Machine.execLimpPinEdge b pin level s
  | .iselChange b k => Sys2Proof.Machine.execIselChange b k s
  | .comparatorChange n level => Sys2Proof.Machine.execComparatorChange n level s
  | .debounceAccept n => Sys2Proof.Machine.execDebounceAccept n s
  | .wireBreakTimer n below => Sys2Proof.Machine.execWireBreakTimer n below s
  | .counterClear x n q => Sys2Proof.Machine.execCounterClear x n q s
  | .freqGateEnd n => Sys2Proof.Machine.execFreqGateEnd n s
  | .namurBandTimer n band => Sys2Proof.Machine.execNamurBandTimer n band s
  | .readbackCheck b m => Sys2Proof.Machine.execReadbackCheck b m s
  | .railSetpointFall b r => Sys2Proof.Machine.execRailSetpointFall b r s
  | .railDropout b r => Sys2Proof.Machine.execRailDropout b r s
  | .alarmStrapChange b r => Sys2Proof.Machine.execAlarmStrapChange b r s
  | .thermalClampStep n temp => Sys2Proof.Machine.execThermalClampStep n temp s
  | .trimPress p => Sys2Proof.Machine.execTrimPress p s
  | .trimRepeat p => Sys2Proof.Machine.execTrimRepeat p s
  | .trimSelWrite x w q => Sys2Proof.Machine.execTrimSelWrite x w q s
  | .trimStore x key q => Sys2Proof.Machine.execTrimStore x key q s
  | .trimStoreDone err => Sys2Proof.Machine.execTrimStoreDone err s
  | .sequencePassStart b q => Sys2Proof.Machine.execSequencePassStart b q s
  | .conversionEnd b m => Sys2Proof.Machine.execConversionEnd b m s
  | .timeWindowClose u => Sys2Proof.Machine.execTimeWindowClose u s
  | .statClose x u q => Sys2Proof.Machine.execStatClose x u q s
  | .dirtyWindowEnd b => Sys2Proof.Machine.execDirtyWindowEnd b s
  | .injTrigger b k q => Sys2Proof.Machine.execInjTrigger b k q s
  | .injTrigWrite x b mask q => Sys2Proof.Machine.execInjTrigWrite x b mask q s
  | .injTimerTick b q => Sys2Proof.Machine.execInjTimerTick b q s
  | .calStart x b q => Sys2Proof.Machine.execCalStart x b q s
  | .calAutoCheck b temp => Sys2Proof.Machine.execCalAutoCheck b temp s
  | .calBegin b => Sys2Proof.Machine.execCalBegin b s
  | .calEnd b m q => Sys2Proof.Machine.execCalEnd b m q s
  | .readbackGroup b rb q => Sys2Proof.Machine.execReadbackGroup b rb q s
  | .vfLowSet b mv => Sys2Proof.Machine.execVfLowSet b mv s
  | .vfLowClear b mv => Sys2Proof.Machine.execVfLowClear b mv s
  | .uvOffTrip b mv => Sys2Proof.Machine.execUvOffTrip b mv s
  | .restoreStart b mv => Sys2Proof.Machine.execRestoreStart b mv s
  | .staggerRelease b => Sys2Proof.Machine.execStaggerRelease b s
  | .fieldBankReset b => Sys2Proof.Machine.execFieldBankReset b s
  | .fieldDieRelease b mv => Sys2Proof.Machine.execFieldDieRelease b mv s
  | .modeCmdRun x q => Sys2Proof.Machine.execModeCmdRun x q s
  | .modeCmdTest x q => Sys2Proof.Machine.execModeCmdTest x q s
  | .resetIntent x key q => Sys2Proof.Machine.execResetIntent x key q s
  | .recReq x b q => Sys2Proof.Machine.execRecReq x b q s
  | .recEnd x b q => Sys2Proof.Machine.execRecEnd x b q s
  | .loadStartInstall x q => Sys2Proof.Machine.execLoadStartInstall x q s
  | .loadStartApply x q => Sys2Proof.Machine.execLoadStartApply x q s
  | .loadStartInstallApply x q => Sys2Proof.Machine.execLoadStartInstallApply x q s
  | .loadStartReconcile x q => Sys2Proof.Machine.execLoadStartReconcile x q s
  | .loadData x w q => Sys2Proof.Machine.execLoadData x w q s
  | .loadEnd x q => Sys2Proof.Machine.execLoadEnd x q s
  | .loadCancel x q => Sys2Proof.Machine.execLoadCancel x q s
  | .validationDone => Sys2Proof.Machine.execValidationDone s
  | .installDone err => Sys2Proof.Machine.execInstallDone err s
  | .txnOpen x q => Sys2Proof.Machine.execTxnOpen x q s
  | .txnCommit x q => Sys2Proof.Machine.execTxnCommit x q s
  | .txnCheck x q => Sys2Proof.Machine.execTxnCheck x q s
  | .txnAbort x q => Sys2Proof.Machine.execTxnAbort x q s
  | .txnCheckDone t => Sys2Proof.Machine.execTxnCheckDone t s
  | .txnT0 t => Sys2Proof.Machine.execTxnT0 t s
  | .txnRailUpEnd t b r q => Sys2Proof.Machine.execTxnRailUpEnd t b r q s
  | .txnRailUpTimeout t b r => Sys2Proof.Machine.execTxnRailUpTimeout t b r s
  | .txnRailSwap t b => Sys2Proof.Machine.execTxnRailSwap t b s
  | .txnConnect t n q => Sys2Proof.Machine.execTxnConnect t n q s
  | .txnRelease t => Sys2Proof.Machine.execTxnRelease t s
  | .txnSeq t b q => Sys2Proof.Machine.execTxnSeq t b q s
  | .txnRailDown t b r q => Sys2Proof.Machine.execTxnRailDown t b r q s
  | .faultEccClear x q => Sys2Proof.Machine.execFaultEccClear x q s
  | .eccUncorrectable markhor => Sys2Proof.Machine.execEccUncorrectable markhor s
  | .dmaStart x c q => Sys2Proof.Machine.execDmaStart x c q s
  | .dmaStop x c q => Sys2Proof.Machine.execDmaStop x c q s
  | .dmaTrigger c => Sys2Proof.Machine.execDmaTrigger c s
  | .dmaBeat ecc q => Sys2Proof.Machine.execDmaBeat ecc q s
  | .dmaDescriptorEnd c q => Sys2Proof.Machine.execDmaDescriptorEnd c q s
  | .mpuFault e kind priv addr => Sys2Proof.Machine.execMpuFault e kind priv addr s
  | .lockstepDisagree => Sys2Proof.Machine.execLockstepDisagree s
  | .cycleStart loopNs => Sys2Proof.Machine.execCycleStart loopNs s
  | .nodeSectorProcess f => Sys2Proof.Machine.execNodeSectorProcess f s
  | .nodeOutApply => Sys2Proof.Machine.execNodeOutApply s
  | .sectorPublish k sec => Sys2Proof.Machine.execSectorPublish k sec s
  | .sectorLate k => Sys2Proof.Machine.execSectorLate k s
  | .portLock p adapt eye inv => Sys2Proof.Machine.execPortLock p adapt eye inv s
  | .portDown p => Sys2Proof.Machine.execPortDown p s
  | .portRedrive p => Sys2Proof.Machine.execPortRedrive p s
  | .unwrapForward => Sys2Proof.Machine.execUnwrapForward s
  | .bypassOpen => Sys2Proof.Machine.execBypassOpen s
  | .joinSend => Sys2Proof.Machine.execJoinSend s
  | .joinRetry => Sys2Proof.Machine.execJoinRetry s
  | .joinAnswer uid => Sys2Proof.Machine.execJoinAnswer uid s
  | .assignReceived uid addr => Sys2Proof.Machine.execAssignReceived uid addr s
  | .rejectReceived uid => Sys2Proof.Machine.execRejectReceived uid s
  | .rejectRetry => Sys2Proof.Machine.execRejectRetry s
  | .leaveReceived => Sys2Proof.Machine.execLeaveReceived s
  | .nodeTableWrite x k j w q => Sys2Proof.Machine.execNodeTableWrite x k j w q s
  | .holdoverUnsync => Sys2Proof.Machine.execHoldoverUnsync s
  | .timeSet x lo q => Sys2Proof.Machine.execTimeSet x lo q s
  | .schedArm x k n q => Sys2Proof.Machine.execSchedArm x k n q s
  | .schedCancel x k q => Sys2Proof.Machine.execSchedCancel x k q s
  | .schedApply k => Sys2Proof.Machine.execSchedApply k s
  | .cmdStart x q => Sys2Proof.Machine.execCmdStart x q s
  | .cmdAbort x q => Sys2Proof.Machine.execCmdAbort x q s
  | .cmdTimeout x => Sys2Proof.Machine.execCmdTimeout x s
  | .cmdDone x rsp => Sys2Proof.Machine.execCmdDone x rsp s
  | .nodeCmdRun q => Sys2Proof.Machine.execNodeCmdRun q s
  | .claimClear x key q => Sys2Proof.Machine.execClaimClear x key q s
  | .ownRelease b takeReq => Sys2Proof.Machine.execOwnRelease b takeReq s
  | .ownTake b how q => Sys2Proof.Machine.execOwnTake b how q s
  | .partnerTaken b => Sys2Proof.Machine.execPartnerTaken b s
  | .outgoingSwitchOpen b => Sys2Proof.Machine.execOutgoingSwitchOpen b s
  | .graceEnd b => Sys2Proof.Machine.execGraceEnd b s
  | .clampRemove b => Sys2Proof.Machine.execClampRemove b s
  | .coldTake b q => Sys2Proof.Machine.execColdTake b q s
  | .coldTakeTimeout b => Sys2Proof.Machine.execColdTakeTimeout b s
  | .pairHeartbeatSend ns => Sys2Proof.Machine.execPairHeartbeatSend ns s
  | .pairHeartbeatReceived codesOk f ns late => Sys2Proof.Machine.execPairHeartbeatReceived codesOk f ns late s
  | .pairHeartbeatLost => Sys2Proof.Machine.execPairHeartbeatLost s
  | .pairLinkDown => Sys2Proof.Machine.execPairLinkDown s
  | .snapshotClose => Sys2Proof.Machine.execSnapshotClose s
  | .snapRecordReceived codesOk f => Sys2Proof.Machine.execSnapRecordReceived codesOk f s
  | .snapshotApply => Sys2Proof.Machine.execSnapshotApply s
  | .baselineReq => Sys2Proof.Machine.execBaselineReq s
  | .handoverStart x key q => Sys2Proof.Machine.execHandoverStart x key q s
  | .handoverReady seq => Sys2Proof.Machine.execHandoverReady seq s
  | .handoverBoundary => Sys2Proof.Machine.execHandoverBoundary s
  | .handoverEnd => Sys2Proof.Machine.execHandoverEnd s
  | .handoverTimeout => Sys2Proof.Machine.execHandoverTimeout s
  | .autoMerge => Sys2Proof.Machine.execAutoMerge s
  | .beaconSend ns => Sys2Proof.Machine.execBeaconSend ns s
  | .beaconReceived codesOk f => Sys2Proof.Machine.execBeaconReceived codesOk f s
  | .selfTest ran fail => Sys2Proof.Machine.execSelfTest ran fail s
  | .crystalStopped => Sys2Proof.Machine.execCrystalStopped s
  | .crystalOffFrequency => Sys2Proof.Machine.execCrystalOffFrequency s
  | .mainClockStopped => Sys2Proof.Machine.execMainClockStopped s
  | .pllUnlock => Sys2Proof.Machine.execPllUnlock s
  | .monitorRcStopped => Sys2Proof.Machine.execMonitorRcStopped s
  | .clockRestore x q => Sys2Proof.Machine.execClockRestore x q s
  | .clockRestoreSwitch => Sys2Proof.Machine.execClockRestoreSwitch s
  | .xtalSwitch => Sys2Proof.Machine.execXtalSwitch s
  | .wdgKeyA agent key q => Sys2Proof.Machine.execWdgKeyA agent key q s
  | .wdgKeyB agent key q => Sys2Proof.Machine.execWdgKeyB agent key q s
  | .wdgWindowOpen => Sys2Proof.Machine.execWdgWindowOpen s
  | .wdgExpired => Sys2Proof.Machine.execWdgExpired s
  | .wdgArmDiscard => Sys2Proof.Machine.execWdgArmDiscard s
  | .powerOnReset aonLost => Sys2Proof.Machine.execPowerOnReset aonLost s
  | .brownOutReset => Sys2Proof.Machine.execBrownOutReset s
  | .resetCmd x key q => Sys2Proof.Machine.execResetCmd x key q s
  | .pinReset => Sys2Proof.Machine.execPinReset s
  | .nvGraceEnd us => Sys2Proof.Machine.execNvGraceEnd us s
  | .resetRelease bootSel memBad prio => Sys2Proof.Machine.execResetRelease bootSel memBad prio s
  | .bootOk ms => Sys2Proof.Machine.execBootOk ms s
  | .bootDeadline => Sys2Proof.Machine.execBootDeadline s
  | .bootRetry x key q => Sys2Proof.Machine.execBootRetry x key q s
  | .pwrActive x q => Sys2Proof.Machine.execPwrActive x q s
  | .pwrIdle x q => Sys2Proof.Machine.execPwrIdle x q s
  | .pwrStandby x q => Sys2Proof.Machine.execPwrStandby x q s
  | .pwrSleep x q => Sys2Proof.Machine.execPwrSleep x q s
  | .wake src => Sys2Proof.Machine.execWake src s
  | .lockKey x key q => Sys2Proof.Machine.execLockKey x key q s
  | .cwStore x key q => Sys2Proof.Machine.execCwStore x key q s
  | .cwStoreDone err => Sys2Proof.Machine.execCwStoreDone err s
  | .candleSecond temps => Sys2Proof.Machine.execCandleSecond temps s
  | .fold m => Sys2Proof.Machine.execFold m s
  | .foldCmd x q => Sys2Proof.Machine.execFoldCmd x q s
  | .calendarSet x lo q => Sys2Proof.Machine.execCalendarSet x lo q s
  | .calendarAutoTrim trim => Sys2Proof.Machine.execCalendarAutoTrim trim s
  | .fwLoadStart x q => Sys2Proof.Machine.execFwLoadStart x q s
  | .fwLoadData x w q => Sys2Proof.Machine.execFwLoadData x w q s
  | .fwLoadEnd x q => Sys2Proof.Machine.execFwLoadEnd x q s
  | .fwLoadCancel x q => Sys2Proof.Machine.execFwLoadCancel x q s
  | .fwInstallDone err => Sys2Proof.Machine.execFwInstallDone err s
  | .nvRead x region q => Sys2Proof.Machine.execNvRead x region q s
  | .secProgramSlot x k q => Sys2Proof.Machine.execSecProgramSlot x k q s
  | .secStoreKey x k q => Sys2Proof.Machine.execSecStoreKey x k q s
  | .secRevoke x k q => Sys2Proof.Machine.execSecRevoke x k q s
  | .secRaiseFwLevel x q => Sys2Proof.Machine.execSecRaiseFwLevel x q s
  | .secRaiseFabLevel x q => Sys2Proof.Machine.execSecRaiseFabLevel x q s
  | .secRaiseDebugLevel x l q => Sys2Proof.Machine.execSecRaiseDebugLevel x l q s
  | .debugNonce => Sys2Proof.Machine.execDebugNonce s
  | .debugAuthenticate r t => Sys2Proof.Machine.execDebugAuthenticate r t s
  | .portLockLost p => Sys2Proof.Machine.execPortLockLost p s
  | .pairLinkLock => Sys2Proof.Machine.execPairLinkLock s
  | .secondCopyStart c => Sys2Proof.Machine.execSecondCopyStart c s
  | .vddioChange valid => Sys2Proof.Machine.execVddioChange valid s
  | .railDropoutEnd b r => Sys2Proof.Machine.execRailDropoutEnd b r s
  | .trimPinRelease p => Sys2Proof.Machine.execTrimPinRelease p s
  | .secCmdDone err => Sys2Proof.Machine.execSecCmdDone err s
  | .nvReadDone err => Sys2Proof.Machine.execNvReadDone err s
  | .foldDone err => Sys2Proof.Machine.execFoldDone err s
  | .jtagReset => Sys2Proof.Machine.execJtagReset s
  | .debugRegisterAccess a w q => Sys2Proof.Machine.execDebugRegisterAccess a w q s
  | .handoverReqReceived => Sys2Proof.Machine.execHandoverReqReceived s
  | .handoverGoReceived ns => Sys2Proof.Machine.execHandoverGoReceived ns s
  | .twarnClear n => Sys2Proof.Machine.execTwarnClear n s
  | .partnerSeenChange b x => Sys2Proof.Machine.execPartnerSeenChange b x s

end Sys2Proof.Machine
end

