-- ==== Sys2Proof/Safety.lean ====
section
/-!
DEFINITION. What counts as a safe run of the block: no step of it ends in a fault or a refusal, and the state keeps the form
of its tables.
-/

namespace Sys2Proof.Safety

open Sys2Proof.Machine

/-- A step goes on to a next state. -/
def GoesOn (s : State) : Prop := ∃ t, step s = .next t

/-- The tables of a state are in canonical form (log entry 7): registers, memory, and the bits set in the running cycle. -/
def TablesWf (s : State) : Prop :=
  SparseWf resetWord s.regs ∧ Memory.wf s.mem ∧ SparseWf (fun _ => (0 : Word)) s.fresh

end Sys2Proof.Safety
end

