-- ==== Sys2Proof/Certificates/Slice0/Obligations.lean ====
section
/-!
DEFINITION. What is claimed of the LJ3240: the statements for the provers, and the words they are said in. Each command that
has an effect is said to complete, with what its next state holds and what it leaves as it was.
-/

section Statements

open Sys2Proof Sys2Proof.Machine

/-- The command completes in a state of which P holds. -/
def Sys2Proof.Claims.CompletesWith (i : Instr) (s : State) (P : State → Prop) : Prop := ∃ t, exec i s = .next t ∧ P t

/-- What a command leaves as it was: every register but those of A, every cell of the field dies but those of C, every bank
of the field dies but those of B, and all else the state holds (memory, the queues of frames, NV memory, the commands that
wait, ...); `fresh` notes the flags that occurred, `dmaDue` the triggers that event lines gave to DMA channels, `dueLines` the
lines that wait in SLEEP. -/
structure Sys2Proof.Claims.Frame (s t : State) (A : Nat → Prop) (C : Chan → Prop) (B : Bank → Prop) : Prop where
  rest : t = { s with regs := t.regs, fresh := t.fresh, dmaDue := t.dmaDue, dueLines := t.dueLines, cells := t.cells, banks := t.banks }
  regs : ∀ a, ¬ A a → t.word a = s.word a
  cells : ∀ n, ¬ C n → t.cell n = s.cell n
  banks : ∀ b, ¬ B b → t.bank b = s.bank b

/-- From s to t an event line has risen in a seat (R231); in SLEEP it waits for the exit (R362). -/
def Sys2Proof.Claims.Raised (s t : State) (x : Seat) (k : Nat) : Prop :=
  if s.sleeping = true then (k, x) ∈ t.dueLines else t.linePending x k = true

/-- No register. -/
def Sys2Proof.Claims.noReg : Nat → Prop := fun _ => False

/-- No cell. -/
def Sys2Proof.Claims.noCell : Chan → Prop := fun _ => False

/-- No bank. -/
def Sys2Proof.Claims.noBank : Bank → Prop := fun _ => False

open Sys2Proof.Claims

/-- A step runs the command at the front of the queue on the state with the queue's rest; on an empty queue the block
idles (00_scope.md). The model's own: The idling step is the model's choice (log entry 1); no rule of the spec is
cited for it. -/
def Obligations.StepTakesTheFrontCommand : Prop :=
  ∀ s : State,
    (∀ i rest, step { s with pending := i :: rest } = exec i { s with pending := rest }) ∧
    step { s with pending := [] } = .next { s with pending := [] }

/-- Every command answers a next state, whose queue of waiting commands is the one it was given (00_scope.md). -/
def Obligations.EveryCommandLeavesTheQueue : Prop :=
  ∀ (i : Instr) (s : State), CompletesWith i s fun t => t.pending = s.pending

/-- Right after a power-on reset the logic side is in BOOT, held in reset, with the Reset values of its registers
(R12, R349, R350, R423). The model's own: That State.reset is the instant before the reset is released, and the part
is of revision A, is the model's choice (log entry 15). -/
def Obligations.ResetValuesOfRegisters : Prop :=
  State.reset.mode = .boot ∧ State.reset.inReset = true ∧ State.reset.pending = [] ∧
    State.reset.wdgOpen = 100 ∧ State.reset.wdgTimeout = 100000 ∧ State.reset.wdgServicer = 4 ∧
    State.reset.isSet WDG_STAT_BOOT_VALUES = true ∧
    State.reset.get SYS_RESET_CAUSE_CLASS = 0 ∧ State.reset.get SYS_BOOT_OK_OK = 0 ∧ State.reset.get SYS_LOCK_LOCKED = 0 ∧
    State.reset.get SYS_PWR_STAT_STATE = 0 ∧ State.reset.get RING_STAT_ROLE = 0 ∧ State.reset.word 0x10 = 0x132405CF ∧
    (∀ x : Seat, State.reset.get (SEAT_CFG_REFRESH_MODE x) = 0 ∧ State.reset.attn x = false) ∧
    (∀ n : Chan, (State.reset.cell n).state = .config ∧ (State.reset.cell n).cause = .bootConfig ∧
      (State.reset.cell n).adopted = false)

/-- At reset the register file, memory and the table of fresh flags are in canonical form (00_scope.md). The model's
own: The form is the model's own (log entry 7). -/
def Obligations.TablesInCanonicalFormAtReset : Prop :=
  Safety.TablesWf State.reset

/-- Every step goes on, and keeps the canonical form of the register file, of memory and of the table of fresh flags
(00_scope.md). The model's own: The form is the model's own (log entry 7). -/
def Obligations.StepKeepsTables : Prop :=
  ∀ s : State, Safety.TablesWf s → ∃ t, step s = .next t ∧ Safety.TablesWf t

/-- What OTP holds in one state it holds in the other: thermometer bits stay set, a revoked slot stays revoked, a programmed slot
keeps its hash and its USE row, and a row that fails its ECC stays one. -/
structure Sys2Proof.Claims.OtpKept (s t : State) : Prop where
  fw : s.nv.fwBits &&& t.nv.fwBits = s.nv.fwBits
  fab : s.nv.fabBits &&& t.nv.fabBits = s.nv.fabBits
  dbg : s.nv.dbgBits &&& t.nv.dbgBits = s.nv.dbgBits
  revoked : ∀ k : Fin 4, s.nv.revoked[k] = true → t.nv.revoked[k] = true
  slots : ∀ k : Fin 4, s.keyProgrammed k = true → t.nv.hash[k] = s.nv.hash[k] ∧ t.nv.use[k] = s.nv.use[k]
  bad : (s.nv.identBad = true → t.nv.identBad = true) ∧ ∀ k : Fin 4, (s.nv.hashBad[k] = true → t.nv.hashBad[k] = true) ∧
    (s.nv.useBad[k] = true → t.nv.useBad[k] = true) ∧ (s.nv.revBad[k] = true → t.nv.revBad[k] = true)

/-- A PROGRAM_SLOT that runs programs a slot that is not programmed yet (R386). -/
def Sys2Proof.Claims.ProgramsOnce (s : State) : Prop :=
  ∀ k h u, s.secRun = some (.program k h u) → s.keyProgrammed k = false


/-- No step clears an OTP bit: levels never fall, a revoked slot stays so, and a programmed slot keeps its hash and
its USE (R385, R386, R387, R388, R431, R432). -/
def Obligations.OtpNeverClears : Prop :=
  ProgramsOnce State.reset ∧
  ∀ s t : State, step s = .next t → ProgramsOnce s → OtpKept s t ∧ ProgramsOnce t

/-- The seat that a command is given by on its port; none for events and for what MARKHOR or a debugger does. -/
def Sys2Proof.Claims.seatOf : Instr → Option Seat
  | .hostFrame x _ _ | .frameAbort x | .registerWrite x _ _ _ | .cellOutWrite x _ _ _ | .cellAdopt x _ _ _ | .faultClr x _ _
  | .counterClear x _ _ | .trimSelWrite x _ _ | .trimStore x _ _ | .statClose x _ _ | .injTrigWrite x _ _ _ | .calStart x _ _
  | .modeCmdRun x _ | .modeCmdTest x _ | .resetIntent x _ _ | .recReq x _ _ | .recEnd x _ _ | .loadStartInstall x _
  | .loadStartApply x _ | .loadStartInstallApply x _ | .loadStartReconcile x _ | .loadData x _ _ | .loadEnd x _
  | .loadCancel x _ | .txnOpen x _ | .txnCommit x _ | .txnCheck x _ | .txnAbort x _ | .faultEccClear x _
  | .dmaStart (.seat x) _ _ | .dmaStop (some x) _ _ | .nodeTableWrite x _ _ _ _ | .timeSet x _ _ | .schedArm x _ _ _ | .schedCancel x _ _ | .cmdStart x _
  | .cmdAbort x _ | .claimClear x _ _ | .handoverStart x _ _ | .clockRestore x _ | .resetCmd x _ _ | .bootRetry x _ _
  | .pwrActive x _ | .pwrIdle x _ | .pwrStandby x _ | .pwrSleep x _ | .lockKey x _ _ | .cwStore x _ _ | .foldCmd x _
  | .calendarSet x _ _ | .fwLoadStart x _ | .fwLoadData x _ _ | .fwLoadEnd x _ | .fwLoadCancel x _ | .nvRead x _ _
  | .secProgramSlot x _ _ | .secStoreKey x _ _ | .secRevoke x _ _ | .secRaiseFwLevel x _ | .secRaiseFabLevel x _
  | .secRaiseDebugLevel x _ _ | .wdgKeyA (.seat x) _ _ | .wdgKeyB (.seat x) _ _ => some x
  | _ => none

/-- A write by a seat reaches a register: the port is up, the logic side is awake, and firewall and device mode allow it
(checks 5 and 6 of R215). -/
structure Sys2Proof.Claims.Reaches (s : State) (x : Seat) (a : Nat) : Prop where
  up : s.portUp x = true
  awake : s.sleeping = false
  window : s.firewallOk x true a = true
  mode : s.modeAllows x true a = true

/-- What an accepted write frame leaves beside its effect m: it is counted in FRAMES_OK, refreshes its seat, and STATUS OK
waits to be collected (R213, R217, R221). -/
def Sys2Proof.Claims.accepted (x : Seat) (m : State) : State :=
  ((m.addWrap (SEAT_FRAMES_OK x) 1).refreshSeat x).respond x [] 0

/-- A refused write: counted in REFUSED, recorded in LAST_REF with its code and the address of the first failing word, the
status waits to be collected; no refresh, and nothing else changes (R215, R217, R221). -/
structure Sys2Proof.Claims.Refused (s t : State) (x : Seat) (code a : Nat) : Prop where
  code : t.get (SEAT_LAST_REF_CODE x) = code
  write : t.get (SEAT_LAST_REF_WRITE x) = 1
  addr : t.get (SEAT_LAST_REF_ADDR_ADDR x) = a
  count : t.get (SEAT_ERRS_REFUSED x) = satAdd (SEAT_ERRS_REFUSED x).w (s.get (SEAT_ERRS_REFUSED x)) 1
  rest : t = { s with regs := t.regs, resp := t.resp }
  regs : ∀ k, k ≠ (SEAT_ERRS_REFUSED x).addr → k ≠ (SEAT_LAST_REF_CODE x).addr → k ≠ (SEAT_LAST_REF_ADDR_ADDR x).addr →
    t.word k = s.word k
  resp : ∀ y : Seat, y ≠ x → t.resp[y] = s.resp[y]


/-- While a port is down a frame or command on it changes nothing: in reset, without VDDIO, or seat 3 on a device that
is no ring node (R222, R223, R359). -/
def Obligations.SilentPortTakesNothing : Prop :=
  ∀ (i : Instr) (s : State) (x : Seat), seatOf i = some x →
    s.inReset = true ∨ (x ≠ 3 ∧ s.vddio = false) ∨ (x = 3 ∧ s.get RING_STAT_ROLE ≠ 1) → exec i s = .next s

/-- In SLEEP a frame on a host port wakes the logic side, is counted in WAKE_FRAMES, raises what was due, and discards
an unread response (R210, R231, R362, R363). -/
def Obligations.FrameInSleepWakes : Prop :=
  ∀ (i : Instr) (s : State) (x : Seat), seatOf i = some x → x ≠ 3 → s.portUp x = true → s.get SYS_PWR_STAT_STATE = 3 →
    CompletesWith i s fun t =>
      t.get SYS_PWR_STAT_STATE = 0 ∧ t.get SYS_PWR_STAT_CHANGING = 0 ∧
      t.get SYS_PWR_STAT_WAKE_SRC = (if x = 2 then 4 else 2) + 64 * s.get SYS_PWR_STAT_CHANGING ∧
      t.get SYS_PWR_STAT_WAKE_FRAMES = (s.get SYS_PWR_STAT_WAKE_FRAMES + 1) % 2 ^ SYS_PWR_STAT_WAKE_FRAMES.w ∧
      t.resp[x] = [] ∧ (∀ y : Seat, y ≠ x → t.resp[y] = s.resp[y]) ∧
      (∀ e ∈ s.dueLines, t.linePending e.2 e.1 = true) ∧
      t = { s with
        regs := t.regs, resp := t.resp, resleep := false, wokeBy := some (if x = 2 then .mgmt else .spi), dueLines := []
        fresh := t.fresh, dmaDue := t.dmaDue } ∧
      (s.dueLines = [] → t.fresh = s.fresh ∧ t.dmaDue = s.dmaDue) ∧
      ∀ a, a ≠ SYS_PWR_STAT_STATE.addr → a ≠ SYS_PWR_STAT_WAKE_FRAMES.addr →
        (s.dueLines = [] ∨ ∀ y : Seat, a ≠ (EVT_PEND_LO_LINE y).addr ∧ a ≠ (EVT_PEND_HI_LINE y).addr) → t.word a = s.word a

/-- The bytes of a single-mode write frame of one word (R211): OPC, ADDR, LEN, DATA, HCRC. -/
def Sys2Proof.Claims.writeFrame (a w : Word) : List Byte :=
  let body := (0x02 : Byte) :: (beBytes 4 a.toNat ++ beBytes 2 4 ++ wordBytes w)
  body ++ beBytes 2 (crc16 body).toNat


/-- A write frame of one word does what the register write does; a node runs a ring command as a frame of seat 3 and
sends the response (R211, R213, R215, R223, R293). -/
def Obligations.WriteFrameIsRegisterWrite : Prop :=
  (∀ (s : State) (x : Seat) (a w : Word) (q : Fin 40),
    ∃ t, exec (.hostFrame x (writeFrame a w) q) s = .next t ∧ exec (.registerWrite x a w q) s = .next t) ∧
  ∀ (s : State) (q : Fin 40) (tag : Nat) (req : List Byte), s.portUp 3 = true → s.ring.cmdReady = some (tag, req) →
    ∃ u, exec (.hostFrame 3 req q) { s with ring := { s.ring with cmdReady := none } } = .next u ∧
      (u.inReset = true ∨ u.resp[(3 : Seat)] = [] → exec (.nodeCmdRun q) s = .next u) ∧
      (u.inReset = false → 0 < u.get RING_CFG_SVC_PAY → CompletesWith (.nodeCmdRun q) s fun t => ∃ l,
        t = { u with ring := { u.ring with upQ := u.ring.upQ ++ l } } ∧ l.flatMap (·.payload) = u.resp[(3 : Seat)] ∧
        (∀ m ∈ l, m.stype = 6 ∧ m.tag = tag ∧ m.addr = u.get RING_NODE_ADDR ∧ m.payload.length ≤ u.get RING_CFG_SVC_PAY) ∧
        l.map (·.frag) = List.range l.length)

/-- A frame whose HCRC is wrong is refused with CRC and counted; one that ends before its HCRC is counted in FRAME_ERR
alone (R210, R211, R214, R217). The model's own: That a wrong HCRC counts in REFUSED and in LAST_REF too, and that a
frame cut short counts as an abort, is the model's reading (log entry 19). -/
def Obligations.BadFramesDoNothing : Prop :=
  ∀ (s : State) (x : Seat) (q : Fin 40), s.portUp x = true → s.sleeping = false →
    (∀ (a w : Word) (e : Byte), e ≠ 0 →
      CompletesWith (.hostFrame x ((writeFrame a w).take 12 ++ ((writeFrame a w).drop 12).map (· ^^^ e)) q) s fun t =>
        t.get (SEAT_LAST_REF_CODE x) = 1 ∧ t.get (SEAT_LAST_REF_ADDR_ADDR x) = a.toNat ∧
        t.get (SEAT_ERRS_CRC_ERR x) = satAdd (SEAT_ERRS_CRC_ERR x).w (s.get (SEAT_ERRS_CRC_ERR x)) 1 ∧
        t = { s with regs := t.regs, resp := t.resp } ∧
        ∀ k, k / 0x100 ≠ (SEAT_ERRS_CRC_ERR x).addr / 0x100 → t.word k = s.word k) ∧
    (∀ (a w : Word) (k : Nat), k < 13 →
      exec (.hostFrame x ((writeFrame a w).take k) q) s = exec (.frameAbort x) s) ∧
    exec (.frameAbort x) s = .next ({ s with resp := s.resp.set x [] }.put (SEAT_ERRS_FRAME_ERR x)
      (satAdd (SEAT_ERRS_FRAME_ERR x).w (s.get (SEAT_ERRS_FRAME_ERR x)) 1))

/-- A register write is refused by the first check of R215 that fails, with its code, and has no other effect (R33,
R215, R216, R217, R220, R222, R224). The model's own: The order of READ_ONLY, NOT_OWNER and VALUE within check 7 is
the model's reading (log entry 18). -/
def Obligations.WritesRefusedInOrder : Prop :=
  ∀ (s : State) (x : Seat) (a w : Word) (q : Fin 40), s.portUp x = true → s.sleeping = false →
    (a.toNat % 4 ≠ 0 → CompletesWith (.registerWrite x a w q) s fun t => Refused s t x 3 a.toNat) ∧
    (a.toNat % 4 = 0 → mapped a.toNat = false → CompletesWith (.registerWrite x a w q) s fun t => Refused s t x 4 a.toNat) ∧
    (a.toNat % 4 = 0 → mapped a.toNat = true → s.firewallOk x true a.toNat = false →
      CompletesWith (.registerWrite x a w q) s fun t => Refused s t x 5 a.toNat) ∧
    (a.toNat % 4 = 0 → mapped a.toNat = true → s.firewallOk x true a.toNat = true → s.modeAllows x true a.toNat = false →
      a ≠ 0x300 → CompletesWith (.registerWrite x a w q) s fun t => Refused s t x 8 a.toNat) ∧
    (a.toNat % 4 = 0 → mapped a.toNat = true → Reaches s x a.toNat → a.toNat < 0x100000 →
      (writableMask a.toNat = 0 ∨ (0xC0000 ≤ a.toNat ∧ a.toNat < 0xC0100) →
        CompletesWith (.registerWrite x a w q) s fun t => Refused s t x 6 a.toNat) ∧
      (writableMask a.toNat ≠ 0 → (a.toNat < 0xC0000 ∨ 0xC0100 ≤ a.toNat) →
        (s.mayWrite x a.toNat w = false → CompletesWith (.registerWrite x a w q) s fun t => Refused s t x 7 a.toNat) ∧
        (s.mayWrite x a.toNat w = true → w &&& ~~~ writableMask a.toNat ≠ 0 →
          ((∀ n : Chan, a.toNat ≠ (CELL_OUT_VALUE n).addr) →
            CompletesWith (.registerWrite x a w q) s fun t => Refused s t x 10 a.toNat) ∧
          ∀ n : Chan, a.toNat = (CELL_OUT_VALUE n).addr → CompletesWith (.registerWrite x a w q) s fun t =>
            Refused s t x (if s.inStagedStep n then 12 else if s.outBarred n then 8
              else if s.get (CELL_STATE_ADOPTED n) = 0 then 9 else 10) a.toNat))) ∧
    (a.toNat % 4 = 0 → mapped a.toNat = true → Reaches s x a.toNat → 0x1200000 ≤ a.toNat → mailboxOf a.toNat ≠ some x →
      CompletesWith (.registerWrite x a w q) s fun t => Refused s t x (if a.toNat < 0x1400000 then 6 else 7) a.toNat)

/-- The bytes of a single-mode read frame of one word (R211): OPC, ADDR, LEN, HCRC. -/
def Sys2Proof.Claims.readFrame (a : Word) : List Byte :=
  let body := (0x03 : Byte) :: (beBytes 4 a.toNat ++ beBytes 2 4)
  body ++ beBytes 2 (crc16 body).toNat


/-- A read frame of one word is answered with the word, its WO bits 0, and STATUS OK with ATTN; it changes nothing but
counters (R211, R213, R215, R216, R217, R218, R221, R224, R225). -/
def Obligations.ReadFrameReturnsTheWord : Prop :=
  ∀ (s : State) (x : Seat) (a : Word) (q : Fin 40), s.portUp x = true → s.sleeping = false → a.toNat % 4 = 0 →
    mapped a.toNat = true → a.toNat < 0x100000 ∨ 0x1000000 ≤ a.toNat → a ≠ 0x80024 → a ≠ 0xA0800 →
    s.firewallOk x false a.toNat = true → s.modeAllows x false a.toNat = true →
    s.readWord x a.toNat q &&& accMask (· == .wo) a.toNat = 0 ∧
    (0x1200000 ≤ a.toNat → s.readWord x a.toNat q = s.memWord a.toNat) ∧
    (∀ k p r, pointOf a.toNat = some (k, p, r) → k ≠ 0 →
      s.readWord x a.toNat q = if s.isSet (RNT_CTRL_IN_USE k) then s.memWord a.toNat else 0) ∧
    (∀ y, mailboxOf a.toNat = some y → y ≠ x → CompletesWith (.hostFrame x (readFrame a) q) s fun t =>
      t.get (SEAT_LAST_REF_CODE x) = 7 ∧ t.get (SEAT_LAST_REF_ADDR_ADDR x) = a.toNat ∧
      t.resp[x] = State.responseBytes [0, 0, 0, 0] (7 + 128 * (s.attn x).toNat) ∧ t.mem = s.mem) ∧
    (mailboxOf a.toNat = none ∨ mailboxOf a.toNat = some x → CompletesWith (.hostFrame x (readFrame a) q) s fun t =>
      t.resp[x] = State.responseBytes (wordBytes (s.readWord x a.toNat q)) (128 * (s.attn x).toNat) ∧
      t.get (SEAT_FRAMES_OK x) = (s.get (SEAT_FRAMES_OK x) + 1) % 2 ^ 32 ∧
      t.seatFresh[x] = (s.seatFresh[x] || s.get (SEAT_CFG_REFRESH_MODE x) == 1) ∧
      (∀ y : Seat, y ≠ x → t.resp[y] = s.resp[y] ∧ t.seatFresh[y] = s.seatFresh[y]) ∧
      t = { s with regs := t.regs, resp := t.resp, seatFresh := t.seatFresh } ∧
      ∀ k, k ≠ (SEAT_FRAMES_OK x).addr → t.word k = s.word k)

/-- A write of EVT_EN by its seat, or of its own mailbox, stores the word, is counted and refreshes the seat, and
changes nothing else (R216, R218, R224, R231, R428). -/
def Obligations.EventEnableStoresWhatIsWritten : Prop :=
  (∀ (s : State) (x : Seat) (w : Word) (q : Fin 40), Reaches s x (EVT_EN_LO_EN x).addr →
    exec (.registerWrite x (BitVec.ofNat 32 (EVT_EN_LO_EN x).addr) w q) s =
      .next (accepted x (if s.word (EVT_EN_LO_EN x).addr = (if s.fabLoaded then w else 0) then s
        else s.setWord (EVT_EN_LO_EN x).addr (if s.fabLoaded then w else 0)))) ∧
  ∀ (s : State) (x : Seat) (a w : Word) (q : Fin 40), a.toNat % 4 = 0 → mailboxOf a.toNat = some x → Reaches s x a.toNat →
    exec (.registerWrite x a w q) s = .next (accepted x (s.setMemWord a.toNat w))

/-- The registers that hold a seat's pending bits (R231). -/
def Sys2Proof.Claims.pendRegs (x : Seat) : List Nat :=
  [(EVT_PEND_LO_LINE x).addr, (EVT_PEND_HI_LINE x).addr, (EVT_SNAP_UNIT x 0).addr, (EVT_SNAP_UNIT x 1).addr,
    (EVT_SNAP_UNIT x 2).addr]

/-- The W1C registers in which the sources of events hold their own flags: FLAGS of the cells, MEAS_FLAGS of the banks, and
those of trims, clock monitor, ring, pair, Candle and the DMA's host channels. -/
def Sys2Proof.Claims.sourceRegs : List Nat :=
  allChans.map (fun (n : Chan) => (CELL_FLAGS_OPEN_LOAD n).addr) ++ allBanks.map (fun (b : Bank) => 0x50018 + 0x1000 * b.val) ++
    [0x610, 0x10100, 0x80050, 0x90028, 0xA0014] ++ (List.range 8).map (fun c => 0xC0108 + 0x20 * c)


/-- A W1C write to a pending bit and a new occurrence of its line in the same cycle leave it set; flag and pending bit
clear apart (R232). -/
def Obligations.NewOccurrenceOutlivesItsClear : Prop :=
  (∀ (s : State) (x : Seat) (w : Word) (q : Fin 40), ∀ a ∈ pendRegs x, Reaches s x a → w &&& ~~~ writableMask a = 0 →
    CompletesWith (.registerWrite x (BitVec.ofNat 32 a) w q) s fun t =>
      (∀ i, i < 32 → (t.word a).getLsbD i =
        ((s.word a).getLsbD i && (! w.getLsbD i || (sparseGet (fun _ => (0 : Word)) s.fresh a).getLsbD i))) ∧
      ∀ k, k ≠ a → k ≠ (SEAT_FRAMES_OK x).addr → t.word k = s.word k) ∧
  (∀ (s : State) (x : Seat) (w : Word) (q : Fin 40), ∀ a ∈ sourceRegs, Reaches s x a → s.mayWrite x a w = true →
    w &&& ~~~ w1cMask a = 0 → (∀ n : Chan, a = (CELL_FLAGS_OPEN_LOAD n).addr → s.handingOver (bankOf n) = false) →
    CompletesWith (.registerWrite x (BitVec.ofNat 32 a) w q) s fun t =>
      t.get (SEAT_FRAMES_OK x) = (s.get (SEAT_FRAMES_OK x) + 1) % 2 ^ 32 ∧
      ∀ (y : Seat), ∀ p ∈ pendRegs y, t.word p = s.word p)

/-- A W1C write to a flag and a new occurrence of the same flag in the same fabric cycle leave the flag set (R38). -/
def Obligations.FlagRaisedInTheCycleStays : Prop :=
  ∀ (s : State) (x : Seat) (n : Chan) (i : Fin 18) (w : Word) (q : Fin 40),
    Reaches (s.setFlags n (1#18 <<< i.val)) x (CELL_FLAGS_OPEN_LOAD n).addr → s.owner n = x → s.handingOver (bankOf n) = false →
    w &&& ~~~ writableMask (CELL_FLAGS_OPEN_LOAD n).addr = 0 → w.getLsbD i.val = true →
    CompletesWith (.registerWrite x (BitVec.ofNat 32 (CELL_FLAGS_OPEN_LOAD n).addr) w q) (s.setFlags n (1#18 <<< i.val))
      (fun t => (t.word (CELL_FLAGS_OPEN_LOAD n).addr).getLsbD i.val = true) ∧
    (s.setFlags n (1#18 <<< i.val)).get ⟨(CELL_FLAGS_OPEN_LOAD n).addr, i.val, 1⟩ = 1

/-- Mode commands of a seat with its MODE_SEATS bit are accepted in the modes R165 allows, and wait for the next
commit (R165, R172, R218, R368). -/
def Obligations.ModeCommandsWaitForTheCommit : Prop :=
  ∀ (s : State) (x : Seat) (q : Fin 40), s.modeSeat x = true →
    (Reaches s x SYS_MODE_CMD_CMD.addr →
      (s.mode = .startup ∨ s.mode = .test ∨ s.mode = .recovery ∨ s.mode = .run →
        exec (.modeCmdRun x q) s = .next (accepted x { s with commits := s.commits ++ [.mode .run] })) ∧
      (s.mode = .startup ∨ s.mode = .run ∨ s.mode = .recovery →
        exec (.modeCmdTest x q) s = .next (accepted x { s with commits := s.commits ++ [.mode .test] }))) ∧
    (∀ b : Bank, Reaches s x (BANK_MODE_MODE b).addr → s.mode = .run ∨ s.mode = .test →
      exec (.recReq x b q) s = .next (accepted x { s with commits := s.commits ++ [.recReq b] }) ∧
      ((s.lbank b).recovery = true →
        exec (.recEnd x b q) s = .next (accepted x { s with commits := s.commits ++ [.recEnd b] }))) ∧
    (Reaches s x SYS_RESET_INTENT_KEY.addr → s.mode = .startup ∨ s.mode = .run ∨ s.mode = .test →
      CompletesWith (.resetIntent x 0x7E1A q) s fun t =>
        t.commits = s.commits ++ [.resetIntent] ∧ t.get SYS_RESET_INTENT_DONE = 0 ∧ t.get CANDLE_STAT_FOLDING = 1 ∧
        t.candle = { s.candle with fold := some (s.candle.fold.getD false) } ∧
        t = { s with regs := t.regs, commits := t.commits, candle := t.candle, seatFresh := t.seatFresh, resp := t.resp } ∧
        ∀ a, a ≠ SYS_RESET_INTENT_DONE.addr → a ≠ CANDLE_STAT_FOLDING.addr → a ≠ (SEAT_FRAMES_OK x).addr →
          t.word a = s.word a)

/-- The keys of RESET_CMD, BOOT_RETRY, LOCK and CW_STORE act as their rules say, for a seat with its MODE_SEATS bit
(R343, R355, R424, R425, R427, R217). The model's own: That LOCKED and BUSY come before a wrong key is the model's
reading (log entry 18), and that a reset waits for the commit (log entry 28). -/
def Obligations.KeysOfResetLockAndStore : Prop :=
  ∀ (s : State) (x : Seat) (q : Fin 40) (key : BitVec 16), s.modeSeat x = true →
    (Reaches s x SYS_RESET_CMD_KEY.addr →
      exec (.resetCmd x 0x3C96 q) s = .next (accepted x { s with commits := s.commits ++ [.hfr] }) ∧
      (key ≠ 0x3C96 → CompletesWith (.resetCmd x key q) s fun t => Refused s t x 10 SYS_RESET_CMD_KEY.addr)) ∧
    (Reaches s x SYS_BOOT_RETRY_KEY.addr →
      (s.mode = .votive →
        exec (.bootRetry x 0x7B11 q) s = .next (accepted x { s with commits := s.commits ++ [.bootRetry] })) ∧
      (s.mode ≠ .votive → CompletesWith (.bootRetry x 0x7B11 q) s fun t => Refused s t x 8 SYS_BOOT_RETRY_KEY.addr) ∧
      (key ≠ 0x7B11 → CompletesWith (.bootRetry x key q) s fun t => Refused s t x 10 SYS_BOOT_RETRY_KEY.addr)) ∧
    (Reaches s x SYS_LOCK_KEY.addr →
      exec (.lockKey x 0x4C4B q) s = .next (accepted x (s.put SYS_LOCK_LOCKED 1)) ∧
      (key ≠ 0x4C4B → CompletesWith (.lockKey x key q) s fun t => Refused s t x 10 SYS_LOCK_KEY.addr)) ∧
    (Reaches s x SYS_CW_STORE_KEY.addr →
      (s.get SYS_LOCK_LOCKED = 0 → s.get SYS_CW_STORE_BUSY = 0 →
        exec (.cwStore x 0x57C1 q) s = .next (accepted x { s with commits := s.commits ++ [.cwStore] })) ∧
      (s.get SYS_LOCK_LOCKED = 0 → s.get SYS_CW_STORE_BUSY = 1 →
        CompletesWith (.cwStore x key q) s fun t => Refused s t x 12 SYS_CW_STORE_KEY.addr) ∧
      (s.get SYS_LOCK_LOCKED = 1 →
        CompletesWith (.cwStore x key q) s fun t => Refused s t x 13 SYS_CW_STORE_KEY.addr) ∧
      (s.get SYS_LOCK_LOCKED = 0 → s.get SYS_CW_STORE_BUSY = 0 → key ≠ 0x57C1 → CompletesWith (.cwStore x key q) s fun t => Refused s t x 10 SYS_CW_STORE_KEY.addr))

/-- A write of CELL[n].OUT waits for its commit, or is refused by the first of R33's five cases that applies (R21,
R33, R37, R217). -/
def Obligations.OutWritesInTheOrderOfR33 : Prop :=
  ∀ (s : State) (x : Seat) (n : Chan) (v : BitVec 16) (q : Fin 40), Reaches s x (CELL_OUT_VALUE n).addr →
    let refusedWith (code : Nat) : Prop :=
      CompletesWith (.cellOutWrite x n v q) s fun t => Refused s t x code (CELL_OUT_VALUE n).addr
    let stateOk : Prop := family (s.get (CELL_CFG_FUNC n)) = 2 ∧
      (s.get (CELL_STATE_STATE n) = 2 ∨
        (s.get (CELL_STATE_STATE n) = 4 ∧ (s.get (CELL_STATE_CAUSE n) = 3 ∨ s.get (CELL_STATE_CAUSE n) = 4))) ∧
      s.holdsBank (bankOf n) = true ∧ s.handingOver (bankOf n) = false
    (s.owner n ≠ x → refusedWith 7) ∧
    (s.owner n = x → s.inStagedStep n = true → refusedWith 12) ∧
    (s.owner n = x → s.inStagedStep n = false → ¬ stateOk → refusedWith 8) ∧
    (s.owner n = x → s.inStagedStep n = false → stateOk → s.get (CELL_STATE_ADOPTED n) = 0 → refusedWith 9) ∧
    (s.owner n = x → s.inStagedStep n = false → stateOk → s.get (CELL_STATE_ADOPTED n) = 1 →
      (outOk (s.get (CELL_CFG_FUNC n)) v.toNat = false → refusedWith 10) ∧
      (outOk (s.get (CELL_CFG_FUNC n)) v.toNat = true →
        exec (.cellOutWrite x n v q) s = .next (accepted x (
          if 32 < q.val then { s with shadowLate := assocInsert s.shadowLate (CELL_OUT_VALUE n).addr (v.setWidth 32) }
          else { s with shadow := assocInsert s.shadow (CELL_OUT_VALUE n).addr (v.setWidth 32) }))))

/-- ADOPT, FAULT_CLR, a counter clear and a window close by the owner are accepted and leave just what their rules say
(R21, R31, R86, R145, R174, R217, R218, R323). The model's own: STAT.CTRL.CLOSE by the unit's owner waits for the
commit of the boundary to come (log entry 65: R21 speaks of output values). -/
def Obligations.OwnerCommandsOfCellsAndUnits : Prop :=
  ∀ (s : State) (x : Seat) (q : Fin 40),
    (∀ n : Chan, s.owner n = x → s.handingOver (bankOf n) = true →
      (∀ token, Reaches s x (CELL_ADOPT_TOKEN n).addr →
        CompletesWith (.cellAdopt x n token q) s fun t => Refused s t x 8 (CELL_ADOPT_TOKEN n).addr) ∧
      (Reaches s x (CELL_CTRL_FAULT_CLR n).addr →
        CompletesWith (.faultClr x n q) s fun t => Refused s t x 8 (CELL_CTRL_FAULT_CLR n).addr) ∧
      (Reaches s x (CELL_CTR_CTRL_CLR n).addr →
        CompletesWith (.counterClear x n q) s fun t => Refused s t x 8 (CELL_CTR_CTRL_CLR n).addr)) ∧
    (∀ (n : Chan) (token : BitVec 16), s.owner n = x → s.handingOver (bankOf n) = false → Reaches s x (CELL_ADOPT_TOKEN n).addr →
      (token.toNat = s.get (CELL_STATE_TOKEN n) →
        exec (.cellAdopt x n token q) s = .next (accepted x { s with commits := s.commits ++ [.adopt n] })) ∧
      (token.toNat ≠ s.get (CELL_STATE_TOKEN n) →
        CompletesWith (.cellAdopt x n token q) s fun t => Refused s t x 10 (CELL_ADOPT_TOKEN n).addr)) ∧
    (∀ n : Chan, s.owner n = x → s.handingOver (bankOf n) = false → Reaches s x (CELL_CTRL_FAULT_CLR n).addr →
      let clear : Prop := s.get (CELL_STATE_STATE n) = 6 ∧
        (s.get (CELL_STATE_CAUSE n) = 14 → 10 ≤ (s.cell n).markers) ∧
        (s.get (CELL_STATE_CAUSE n) ≠ 14 → s.get (CELL_LIVE_ILIM n) = 0 ∧ s.get (CELL_LIVE_TSD n) = 0 ∧
          s.get (CELL_LIVE_FUSE_TRIP n) = 0 ∧ (s.cell n).live.getLsbD FL_FUSE_TRIP = false)
      (clear → exec (.faultClr x n q) s =
        .next (accepted x ((s.put (CELL_OUT_VALUE n) 0).modLcell n (fun c => { c with faultClr := true })))) ∧
      (¬ clear → CompletesWith (.faultClr x n q) s fun t => Refused s t x 8 (CELL_CTRL_FAULT_CLR n).addr)) ∧
    (∀ n : Chan, s.owner n = x → s.handingOver (bankOf n) = false → Reaches s x (CELL_CTR_CTRL_CLR n).addr →
      exec (.counterClear x n q) s = .next (accepted x (s.modLcell n (fun c =>
        if 32 < q.val then { c with ctrLate := true } else { c with ctrClr := true })))) ∧
    (∀ u : Unit96, s.get (STAT_OWN_SEAT u) = x.val → Reaches s x (STAT_CTRL_CLOSE u).addr →
      exec (.statClose x u q) s = .next (accepted x { s with commits := s.commits ++ [.statClose u] }))

/-- INJ_TRIG makes a host-triggered entry pending while a conversion runs; CAL_CTRL.START queues a calibration (R128,
R129, R132, R133, R152). -/
def Obligations.CommandsToTheConverter : Prop :=
  ∀ (s : State) (x : Seat) (b : Bank) (q : Fin 40), (s.bank b).running = true → (s.meas[b]).cur.isSome = true →
    (∀ k : Fin 8, Reaches s x (BANK_INJ_TRIG_TRIG b).addr → s.ownsUnitJ x b (16 + s.get (BANK_INJ_UNIT b k)) = true →
      bits (s.injWord b k) 20 4 = 1 → s.meas[b].cal ≠ .draining → s.meas[b].cal ≠ .busy →
      (k ∉ s.meas[b].pending.map (·.1) → exec (.injTrigWrite x b (1#8 <<< k.val) q) s =
        .next (accepted x ((s.modMeas b (fun m => { m with pending := insertTrig (k, s.now + q.val) m.pending })).notePending b))) ∧
      (k ∈ s.meas[b].pending.map (·.1) → exec (.injTrigWrite x b (1#8 <<< k.val) q) s =
        .next (accepted x (s.addWrap (BANK_INJ_STAT_LOST b) 1)))) ∧
    (Reaches s x (BANK_CAL_CTRL_START b).addr → s.ownsUnit x b = true →
      (s.meas[b].cal = .none → exec (.calStart x b q) s =
        .next (accepted x ((s.modMeas b (fun m => { m with cal := .queued })).put (BANK_CAL_CTRL_QUEUED b) 1))) ∧
      (s.meas[b].cal ≠ .none → exec (.calStart x b q) s = .next (accepted x s)))

/-- The state in which a load of a seat starts in a mode (R193, R194): LOAD_STAT shows the seat, STATE, no code and no failing
frame or address; nothing has been received. -/
def Sys2Proof.Claims.loadStarted (s : State) (x : Seat) (mode : LoadMode) (phase : LoadPhase) (st : Nat) : State :=
  let l : Load := { seat := x, mode := mode, phase := phase }
  ((((({ s with load := some l }.put FABRIC_LOAD_STAT_STATE st).put FABRIC_LOAD_STAT_SEAT x.val).put
    FABRIC_LOAD_STAT_CODE 0).put FABRIC_LOAD_STAT_FAIL_FRAME 0xFFFF).put FABRIC_LOAD_FAIL_ADDR 0xFFFFFFFF).put
    FABRIC_LOAD_BYTES_BYTES 0

/-- The state after a load of seat x has ended as cancelled (R194): FAILED with code CANCELLED, line 45 in the seat. -/
def Sys2Proof.Claims.loadCancelled (s : State) (x : Seat) : State :=
  ((((({ s with load := none }.put FABRIC_LOAD_STAT_STATE 6).put FABRIC_LOAD_STAT_CODE 0x21).put
    FABRIC_LOAD_STAT_FAIL_FRAME 0xFFFF).put FABRIC_LOAD_FAIL_ADDR 0xFFFFFFFF)).raiseLine 45 [x]


/-- LOAD_START begins a load, LOAD_DATA appends bytes, LOAD_END starts validation, LOAD_CANCEL ends it; others are
refused (R193, R194, R204, R217). The model's own: That CANCEL ends a load in each of these phases, and the codes
where no rule gives one, are the model's reading (log entry 22). -/
def Obligations.FabricLoadCommands : Prop :=
  ∀ (s : State) (x : Seat) (q : Fin 40) (w : Word), s.modeSeat x = true → Reaches s x FABRIC_LOAD_CTRL_START.addr →
    (s.load = none →
      exec (.loadStartInstall x q) s = .next (accepted x (loadStarted s x .install .receiving 1)) ∧
      exec (.loadStartInstallApply x q) s = .next (accepted x (loadStarted s x .installApply .receiving 1)) ∧
      (s.txnOpen[x] = false → s.txns[x.castLE (by decide : 4 ≤ 5)] = none →
        exec (.loadStartApply x q) s = .next (accepted x (loadStarted s x .apply .receiving 1)) ∧
        exec (.loadStartReconcile x q) s = .next (accepted x (loadStarted s x .reconcile .validating 2))) ∧
      (s.txnOpen[x] = true → CompletesWith (.loadStartApply x q) s fun t => Refused s t x 12 FABRIC_LOAD_CTRL_START.addr)) ∧
    (s.load ≠ none → CompletesWith (.loadStartInstall x q) s fun t => Refused s t x 12 FABRIC_LOAD_CTRL_START.addr) ∧
    (∀ l : Load, s.load = some l → l.seat = x →
      (l.phase = .receiving →
        (Reaches s x (FABRIC_LOAD_DATA_DATA 0).addr → exec (.loadData x w q) s =
          .next (accepted x ({ s with load := some { l with bytes := l.bytes ++ wordBytes w } }.put
            FABRIC_LOAD_BYTES_BYTES (min (l.bytes.length + 4) 0x7FFFF)))) ∧
        exec (.loadEnd x q) s =
          .next (accepted x ({ s with load := some { l with phase := .validating } }.put FABRIC_LOAD_STAT_STATE 2))) ∧
      (l.phase = .receiving ∨ l.phase = .validating → exec (.loadCancel x q) s = .next (accepted x (loadCancelled s x)))) ∧
    (∀ l : Load, s.load = some l → l.seat ≠ x →
      (Reaches s x (FABRIC_LOAD_DATA_DATA 0).addr →
        CompletesWith (.loadData x w q) s fun t => Refused s t x 7 (FABRIC_LOAD_DATA_DATA 0).addr) ∧
      CompletesWith (.loadEnd x q) s (fun t => Refused s t x 7 FABRIC_LOAD_CTRL_START.addr) ∧
      CompletesWith (.loadCancel x q) s fun t => Refused s t x 7 FABRIC_LOAD_CTRL_START.addr)

/-- A seat opens, commits, checks and aborts its own transaction; each command leaves just what R197 and R198 say
(R197, R198, R217, R421). The model's own: That OPEN is accepted while an earlier transaction of the seat runs, and
that COMMIT closes the open one, is the model's reading (log entry 29). -/
def Obligations.TransactionCommands : Prop :=
  ∀ (s : State) (x : Seat) (q : Fin 40), Reaches s x FABRIC_TXN_OPEN.addr →
    let slot : Fin 5 := x.castLE (by decide : 4 ≤ 5)
    let run (phase : TxnPhase) : TxnRun :=
      { seat := x, opened := s.txnOpen[x], phase := phase, recs :=
          (List.range (s.get ⟨bankedKey x FABRIC_TXN_COUNT_N.addr, 0, 10⟩)).map fun i =>
            ((s.word (bankedKey x (0xE1000 + 8 * i))).toNat, s.word (bankedKey x (0xE1004 + 8 * i))) }
    CompletesWith (.txnOpen x q) s (fun t =>
      t.txnOpen = s.txnOpen.set x true ∧ t.get (FABRIC_TXN_STAT_STATE.ofSeat x) = 1 ∧
      t.get (FABRIC_TXN_COUNT_N.ofSeat x) = 0 ∧ (∀ i, i < 1024 → t.word (bankedKey x (0xE1000 + 4 * i)) = 0) ∧
      t = { s with regs := t.regs, txnOpen := t.txnOpen, seatFresh := t.seatFresh, resp := t.resp } ∧
      ∀ a, a ≠ (SEAT_FRAMES_OK x).addr → a ≠ bankedKey x 0xE0084 → a ≠ bankedKey x 0xE0088 →
        (∀ i, i < 1024 → a ≠ bankedKey x (0xE1000 + 4 * i)) → t.word a = s.word a) ∧
    (s.txns[slot] = none →
      exec (.txnCommit x q) s = .next (accepted x
        ({ s with txns := s.txns.set slot (some (run .checking)), txnOpen := s.txnOpen.set x false }.put
          (FABRIC_TXN_STAT_STATE.ofSeat x) 2)) ∧
      exec (.txnCheck x q) s = .next (accepted x
        ({ s with txns := s.txns.set slot (some (run .checkOnly)) }.put (FABRIC_TXN_STAT_STATE.ofSeat x) 2))) ∧
    (s.txns[slot] ≠ none →
      CompletesWith (.txnCommit x q) s (fun t => Refused s t x 12 FABRIC_TXN_OPEN.addr) ∧
      CompletesWith (.txnCheck x q) s fun t => Refused s t x 12 FABRIC_TXN_OPEN.addr) ∧
    (s.txnOpen[x] = true → exec (.txnAbort x q) s = .next (accepted x
      (({ s with txnOpen := s.txnOpen.set x false }.put (FABRIC_TXN_STAT_STATE.ofSeat x) 7).raiseLine 46 [x]))) ∧
    (s.txnOpen[x] = false → CompletesWith (.txnAbort x q) s fun t => Refused s t x 8 FABRIC_TXN_OPEN.addr)

/-- A write of TRIM.SEL sets bits only for cells of the seat, and is else refused whole; the store key starts a trim
store (R114, R116, R217). The model's own: That a bit for a cell of another seat is NOT_OWNER is the model's reading
(log entry 23). -/
def Obligations.TrimSelectionAndStore : Prop :=
  ∀ (s : State) (x : Seat) (w : Word) (q : Fin 40),
    (Reaches s x TRIM_SEL_SEL.addr →
      ((∀ n : Chan, w.getLsbD n.val = true → s.owner n = x) →
        CompletesWith (.trimSelWrite x w q) s fun t =>
          (∀ n : Chan, (t.word 0x604).getLsbD n.val = if s.owner n = x then w.getLsbD n.val else (s.word 0x604).getLsbD n.val) ∧
          t = { s with regs := t.regs, seatFresh := t.seatFresh, resp := t.resp } ∧
          ∀ a, a ≠ 0x604 → a ≠ (SEAT_FRAMES_OK x).addr → t.word a = s.word a) ∧
      ((∃ n : Chan, w.getLsbD n.val = true ∧ s.owner n ≠ x) →
        CompletesWith (.trimSelWrite x w q) s fun t => Refused s t x 7 TRIM_SEL_SEL.addr)) ∧
    (Reaches s x TRIM_STORE_KEY.addr →
      (s.get TRIM_STORE_BUSY = 0 → exec (.trimStore x 0xA5C3 q) s =
        .next (accepted x ((({ s with trimStore := some (x, none) }.put TRIM_STORE_BUSY 1).put TRIM_STORE_DONE 0).put
          TRIM_STORE_ERR 0))) ∧
      (s.get TRIM_STORE_BUSY = 1 →
        CompletesWith (.trimStore x 0xA5C3 q) s fun t => Refused s t x 12 TRIM_STORE_KEY.addr) ∧
      ∀ key : BitVec 16, key ≠ 0xA5C3 →
        CompletesWith (.trimStore x key q) s fun t => Refused s t x 10 TRIM_STORE_KEY.addr)

/-- A power request is accepted where R361 finds no reason against it, and else refused with STATE and the reason in
REFUSE (R151, R297, R301, R356, R360, R361, R363, R364). -/
def Obligations.PowerRequests : Prop :=
  ∀ (s : State) (x : Seat) (q : Fin 40), s.modeSeat x = true → Reaches s x SYS_PWR_CMD_CMD.addr →
    let was := s.get SYS_PWR_STAT_STATE
    let low : Nat := if s.mode ≠ .run then 1 else if s.get RING_STAT_ROLE ≠ 0 then 2 else if s.get PAIR_CFG_EN = 1 then 3 else 0
    let deep : Nat := if low ≠ 0 then low else if s.anyOutput = true then 4 else if s.wdgTimeout - s.wdgOpen < 1000 then 5
      else if s.workRuns = true then 6 else 0
    let becomes (k : Nat) : State :=
      accepted x ((s.put SYS_PWR_STAT_STATE k).put SYS_PWR_STAT_CHANGING (decide (was ≠ k)).toNat)
    let enter (i : Instr) (k : Nat) : Prop := CompletesWith i s fun t =>
      t.get SYS_PWR_STAT_STATE = k ∧ t.get SYS_PWR_STAT_CHANGING = (decide (was ≠ k)).toNat ∧ t.ring = s.ring ∧ t.cells = s.cells ∧
      (was ≠ k → ∀ u : Unit96, let a := s.units[u]; let b := t.units[u]
        (a.isOpen = false → a.closing = none → b = a) ∧
        (a.isOpen = true → a.closing = none →
          b.w = (if a.w = 2147483647 then 1 else a.w + 1) ∧ b.isOpen = false ∧ b.openedAt = s.now + q.val ∧ b.count = 0 ∧
          t.get (if a.newest1 then STAT_SLOT0_INFO_CAUSE u else STAT_SLOT1_INFO_CAUSE u) = 5))
    let refusedFor (i : Instr) (reason : Nat) : Prop := CompletesWith i s fun t =>
      t.get (SEAT_LAST_REF_CODE x) = 8 ∧ t.get (SEAT_LAST_REF_ADDR_ADDR x) = 0x300 ∧ t.get SYS_PWR_STAT_REFUSE = reason ∧
      t.get SYS_PWR_STAT_STATE = was ∧ t = { s with regs := t.regs, resp := t.resp }
    exec (.pwrActive x q) s = .next (becomes 0) ∧
    (s.mode = .run → exec (.pwrIdle x q) s = .next (becomes 1)) ∧
    (s.mode ≠ .run → refusedFor (.pwrIdle x q) 1) ∧
    (low = 0 → was = 2 → exec (.pwrStandby x q) s = .next (becomes 2)) ∧
    (low = 0 → enter (.pwrStandby x q) 2) ∧ (low ≠ 0 → refusedFor (.pwrStandby x q) low) ∧
    (deep = 0 → s.wokeBy = none → enter (.pwrSleep x q) 3) ∧
    (∀ src, deep = 0 → s.wokeBy = some src → CompletesWith (.pwrSleep x q) s fun t =>
      t.get SYS_PWR_STAT_STATE = 0 ∧ t.get SYS_PWR_STAT_CHANGING = 0 ∧ t.get SYS_PWR_STAT_WAKE_SRC = 2 ^ src.bit + 64 ∧
      t.units = s.units ∧ t.cells = s.cells) ∧ (deep ≠ 0 → refusedFor (.pwrSleep x q) deep)

/-- A channel has taken up the descriptor at an address (R236, R241): its words from memory are the running transfer. -/
def Sys2Proof.Claims.takenUp (s t : State) (c : DmaCh) (a : Nat) : Prop :=
  t.get (DMA_STAT_BUSY c) = 1 ∧ t.get (DMA_CUR_ADDR c) = a ∧ t.get (DMA_BYTES_DONE c) = 0 ∧
  t.dma.run[c] = some {
    desc := a, src := (s.memWord a).toNat, dst := (s.memWord (a + 4)).toNat, len := (s.memWord (a + 8)).toNat,
    ctrl := (s.memWord (a + 12)).setWidth 6, next := (s.memWord (a + 16)).toNat,
    srcGen := (s.memWord (a + 20)).toNat, dstGen := (s.memWord (a + 24)).toNat }

/-- A channel's chain has been stopped (R240): it ends as a fault with cause STOP, and the channel is disabled. -/
def Sys2Proof.Claims.stopped (s t : State) (c : DmaCh) : Prop :=
  t.dma.run[c] = none ∧ t.get (DMA_STAT_BUSY c) = 0 ∧ t.get (DMA_STAT_ENABLED c) = 0 ∧ t.dmaDue[c] = 0 ∧
  t.get (DMA_STAT_FAULT c) = 1 ∧ t.get (DMA_STAT_CAUSE c) = DmaCause.stop.code ∧
  ∀ k : DmaCh, k ≠ c → t.dma.run[k] = s.dma.run[k]


/-- DMA_START enables a channel and, with TRIG 0, starts its chain; DMA_STOP disables it; FAULT_CLR.ECC clears the ECC
source (R234, R235, R236, R238, R240, R241). The model's own: A channel 0 to 7 is started and stopped by vendor
firmware in the same way, with the TRIG and DESC that it writes (that these are operands of the command is the
model's, log entry 36). That STOP disables the channel and drops its triggers is the model's reading (log entry 35).
-/
def Obligations.DmaCommandsOfASeat : Prop :=
  ∀ (s : State) (x : Seat) (q : Fin 40),
    (∀ c : DmaCh, seatOfCh c = some x → Reaches s x (DMA_CTRL_START c).addr → s.get (DMA_CTRL_TRIG c) ≤ 3 →
      (s.get (DMA_CTRL_TRIG c) ≠ 0 →
        exec (.dmaStart (.seat x) c q) s = .next (accepted x (s.put (DMA_STAT_ENABLED c) 1))) ∧
      (s.get (DMA_CTRL_TRIG c) = 0 → s.get (DMA_STAT_BUSY c) = 0 →
        s.descOk (.seat x) (s.get (DMA_DESC_ADDR c)) = true →
        CompletesWith (.dmaStart (.seat x) c q) s fun t =>
          t.get (DMA_STAT_ENABLED c) = 1 ∧ takenUp s t c (s.get (DMA_DESC_ADDR c)) ∧
          (∀ k : DmaCh, k ≠ c → t.dma.run[k] = s.dma.run[k]) ∧ t.mem = s.mem ∧ t.cells = s.cells) ∧
      (s.dma.run[c] = none →
        exec (.dmaStop (some x) c q) s =
          .next (accepted x { s.put (DMA_STAT_ENABLED c) 0 with dmaDue := s.dmaDue.set c 0 })) ∧
      (s.dma.run[c] ≠ none → CompletesWith (.dmaStop (some x) c q) s fun t => stopped s t c)) ∧
    (∀ c : DmaCh, seatOfCh c = none → s.inReset = false → ∀ (trig : Fin 4) (desc : Word), desc.toNat % 32 = 0 →
      CompletesWith (.dmaStart (.firmware (BitVec.ofNat 16 (16 * trig.val)) desc) c q) s (fun t =>
        t.get (DMA_DESC_ADDR c) = desc.toNat ∧ t.get (DMA_CTRL_TRIG c) = trig.val ∧ t.get (DMA_CTRL_REARM c) = 0 ∧
        (trig.val ≠ 0 → t.get (DMA_STAT_ENABLED c) = 1 ∧ t = { s with regs := t.regs }) ∧
        (trig.val = 0 → s.get (DMA_STAT_BUSY c) = 0 → s.descOk (agentOf c) desc.toNat = true →
          t.get (DMA_STAT_ENABLED c) = 1 ∧ takenUp s t c desc.toNat)) ∧
      (s.dma.run[c] ≠ none → CompletesWith (.dmaStop none c q) s fun t => stopped s t c)) ∧
    (s.modeSeat x = true → Reaches s x 0x3080C →
      exec (.faultEccClear x q) s = .next (accepted x { s with eccLatch := false }))

/-- A register of the ring (chapter 08), a seat's copy of one, or a word in which an event line is pending. -/
def Sys2Proof.Claims.RingReg (a : Nat) : Prop :=
  0x80000 ≤ a ∧ a < 0x90000 ∨ 0x100000 ≤ a ∨ ∃ x : Seat, a = (EVT_PEND_HI_LINE x).addr


/-- Table and remote OUT writes, TIME_SET, scheduled outputs, node commands and CLAIM_CLEAR by a seat leave what their
rules say (R225, R230, R257, R266, R267, R279, R286, R291, R292, R320). The model's own: SCHED_ARM of an entry that is
free or the seat's own, for a cell the seat owns, arms it for the cell with DONE and ERR 0 and LATE set exactly where
its time has passed; SCHED_CANCEL clears ARM (LATE at arming and the table word's wait for T_c are the model's
reading, log entry 38); SCHED_APPLY at the boundary at or after T disarms with DONE and the value posted as a write of
that seat, or with ERR. -/
def Obligations.RingCommandsOfASeat : Prop :=
  ∀ (s : State) (x : Seat) (q : Fin 40),
    (∀ (k : Fin 2048) (j : Fin 8) (w : Word), let a := 0x100000 + 32 * k.val + 4 * j.val
      s.modeSeat x = true → Reaches s x a → s.entryCheck a w = 0 →
        exec (.nodeTableWrite x k j w q) s =
          .next (accepted x (s.modRing (fun r => { r with pend := r.pend ++ [(a, w)] })))) ∧
    (∀ (a w : Word) (k p : Nat), pointOf a.toNat = some (k, p, 0) → k ≠ 0 → a.toNat % 4 = 0 → Reaches s x a.toNat →
      let code := if s.get (RNT_CTRL_IN_USE k) = 0 ∨ s.get (RNT_CTRL_NPTS k) ≤ p then 4 else if s.get (RNT_CTRL_OWNER k) ≠ x.val then 7
        else if s.pair.demoted = true then 8 else if w.toNat < 65536 then 0 else 10
      (code = 0 → exec (.registerWrite x a w q) s = .next (accepted x ((s.setMemWord a.toNat w).modRing (fun r => { r with
        outValid := k :: r.outValid.erase k
        outNew := r.outNew ++ [(a.toNat, s.memWord a.toNat, r.outValid.contains k, s.devTime (s.now + q.val))] })))) ∧
      (code ≠ 0 → CompletesWith (.registerWrite x a w q) s fun t => Refused s t x code a.toNat)) ∧
    (∀ lo : Word, s.modeSeat x = true → Reaches s x 0x8002C → s.get RING_STAT_ROLE ≠ 1 →
      (∀ k, k < 8 → s.get (RING_SCHED_CTRL_ARM k) = 0) →
      exec (.timeSet x lo q) s = .next (accepted x (s.modRing (fun r => { r with
        step := some (true, ((lo.toNat + 4294967296 * s.get RING_TIME_SET_HI_T : Nat) : Int)) })))) ∧
    (∀ (k : Fin 8) (n : Chan), Reaches s x (RING_SCHED_CTRL_ARM k).addr →
      (s.get (RING_SCHED_CTRL_ARM k) = 0 ∨ s.get (RING_SCHED_CTRL_SEAT k) = x.val) →
      (s.owner n = x → CompletesWith (.schedArm x k n q) s fun t =>
        t.get (RING_SCHED_CTRL_ARM k) = 1 ∧ t.get (RING_SCHED_CTRL_CH k) = n.val ∧ t.get (RING_SCHED_CTRL_SEAT k) = x.val ∧
        t.get (RING_SCHED_CTRL_DONE k) = 0 ∧ t.get (RING_SCHED_CTRL_ERR k) = 0 ∧
        t.get (RING_SCHED_CTRL_LATE k) = (decide (s.get (RING_SCHED_T_LO_T k) + 4294967296 * s.get (RING_SCHED_T_HI_T k) ≤
          s.devTime (s.now + q.val))).toNat ∧
        t = { s with regs := t.regs, seatFresh := t.seatFresh, resp := t.resp } ∧
        ∀ a, a ≠ (RING_SCHED_CTRL_ARM k).addr → a ≠ (SEAT_FRAMES_OK x).addr → t.word a = s.word a) ∧
      (s.owner n ≠ x → CompletesWith (.schedArm x k n q) s fun t => Refused s t x 7 (RING_SCHED_CTRL_ARM k).addr) ∧
      exec (.schedCancel x k q) s = .next (accepted x (s.put (RING_SCHED_CTRL_ARM k) 0))) ∧
    (∀ (k : Fin 8) (n : Chan), s.inReset = false → s.get (RING_SCHED_CTRL_ARM k) = 1 → s.get (RING_SCHED_CTRL_CH k) = n.val →
      s.get (RING_SCHED_CTRL_SEAT k) = x.val →
      let due := s.get (RING_SCHED_T_LO_T k) + 4294967296 * s.get (RING_SCHED_T_HI_T k)
      let v := BitVec.ofNat 32 (s.get (RING_SCHED_VAL_VALUE k))
      (s.devTime s.boundaryTime < due → exec (.schedApply k) s = .next s) ∧
      (due ≤ s.devTime s.boundaryTime → CompletesWith (.schedApply k) s fun t =>
        t.get (RING_SCHED_CTRL_ARM k) = 0 ∧ (t.word RING_EVT_EVT.addr).getLsbD 12 = true ∧
        (if s.outCheck x n v = 0 then
            t.get (RING_SCHED_CTRL_DONE k) = 1 ∧ t.shadow = assocInsert s.shadow (CELL_OUT_VALUE n).addr v
          else t.get (RING_SCHED_CTRL_ERR k) = 1 ∧ t.shadow = s.shadow) ∧
        t = { s with regs := t.regs, fresh := t.fresh, dmaDue := t.dmaDue, dueLines := t.dueLines, shadow := t.shadow } ∧
        ∀ a, ¬ RingReg a → t.word a = s.word a)) ∧
    (Reaches s x RING_CMD_CTRL_START.addr → s.get RING_STAT_ROLE = 2 →
      (s.ring.cmds[x] = none →
        (s.get (RNT_STATUS_NSTATE (s.get (RING_CMD_NODE_ADDR.ofSeat x))) = 3 ∨
          s.get (RNT_STATUS_NSTATE (s.get (RING_CMD_NODE_ADDR.ofSeat x))) = 4) →
        9 ≤ s.get (RING_CMD_REQ_LEN.ofSeat x) → s.get (RING_CMD_REQ_LEN.ofSeat x) ≤ 1033 →
        CompletesWith (.cmdStart x q) s fun t =>
          t.ring = { s.ring with
            tag := (s.ring.tag + 1) % 65536
            cmds := s.ring.cmds.set x (some {
              tag := (s.ring.tag + 1) % 65536, node := s.get (RING_CMD_NODE_ADDR.ofSeat x)
              req := (List.range (s.get (RING_CMD_REQ_LEN.ofSeat x))).map fun i =>
                s.byteAt (0x1400000 + 0x10000 * x.val + s.get (RING_CMD_REQ_OFS.ofSeat x) + i) }) } ∧
          t.get (RING_CMD_STAT_STATE.ofSeat x) = 1 ∧ t.get (RING_CMD_STAT_CODE.ofSeat x) = 0 ∧
          t.get (RING_CMD_STAT_TAG.ofSeat x) = (s.ring.tag + 1) % 65536 ∧ t.mem = s.mem) ∧
      (s.ring.cmds[x] ≠ none →
        exec (.cmdStart x q) s = .next (accepted x (s.put (RING_CMD_STAT_CODE.ofSeat x) 5)) ∧
        CompletesWith (.cmdAbort x q) s fun t =>
          t.ring.cmds[x] = none ∧ t.get (RING_CMD_STAT_STATE.ofSeat x) = 4 ∧ t.get (RING_CMD_STAT_CODE.ofSeat x) = 3 ∧
          ∀ y : Seat, y ≠ x → t.ring.cmds[y] = s.ring.cmds[y])) ∧
    (s.modeSeat x = true → Reaches s x 0x80048 → s.get RING_STAT_ROLE ≠ 2 →
      exec (.claimClear x 0x5C1A q) s = .next (accepted x (s.put RING_CLAIM_CLAIM 0)))

/-- HANDOVER.KEY starts a planned handover of a healthy active unit; RESTORE of a steady crystal waits for the
boundary (R323, R332, R364). The model's own: The order of the handover's checks is the model's reading (log entry
42). -/
def Obligations.HandoverAndClockCommands : Prop :=
  ∀ (s : State) (x : Seat) (q : Fin 40), s.modeSeat x = true →
    (Reaches s x PAIR_HANDOVER_KEY.addr →
      let runs : Prop := s.get PAIR_HANDOVER_STATE = 1 ∨ s.get PAIR_HANDOVER_STATE = 2
      (¬ runs → s.get PAIR_STAT_ROLE = 1 → s.pairUp = true → (s.pairedBanks.any s.lineFault) = false →
        s.get PAIR_STAT_READY = 1 → exec (.handoverStart x 0x4D2B q) s = .next (accepted x
          (((s.put PAIR_HANDOVER_STATE 1).put PAIR_HANDOVER_CODE 0).modPair
            (fun p => { p with ctl := some .handoverReq, passed := false, reqAt := s.now })))) ∧
      (¬ runs → s.get PAIR_STAT_ROLE ≠ 1 → CompletesWith (.handoverStart x 0x4D2B q) s fun t =>
        t.get PAIR_HANDOVER_STATE = 4 ∧ t.get PAIR_HANDOVER_CODE = 1 ∧ t.pair = s.pair) ∧
      (runs → CompletesWith (.handoverStart x 0x4D2B q) s fun t => Refused s t x 12 PAIR_HANDOVER_KEY.addr) ∧
      ∀ key : BitVec 16, key ≠ 0x4D2B →
        CompletesWith (.handoverStart x key q) s fun t => Refused s t x 10 PAIR_HANDOVER_KEY.addr) ∧
    (Reaches s x 0x10104 →
      (∀ since, s.xtalSince = some since → since + 400000 ≤ s.now →
        exec (.clockRestore x q) s = .next (accepted x { s with restoreReq := true })) ∧
      (s.xtalSince = none → CompletesWith (.clockRestore x q) s fun t => Refused s t x 8 0x10104))

/-- FOLD, the calendar, firmware loads and NV reads by a seat with its MODE_SEATS bit leave just what their rules say
(R368, R379, R382, R430). The model's own: That a fold that runs is one record, and the subsecond of the calendar, are
the model's (log entry 43). -/
def Obligations.CandleFirmwareAndNvCommands : Prop :=
  ∀ (s : State) (x : Seat) (q : Fin 40), s.modeSeat x = true →
    (Reaches s x CANDLE_CTRL_FOLD.addr → s.get CANDLE_CTRL_ALARM_PCT ≤ 50 →
      exec (.foldCmd x q) s = .next (accepted x
        ({ s with candle := { s.candle with fold := some (s.candle.fold.getD false) } }.put CANDLE_STAT_FOLDING 1))) ∧
    (∀ lo : Word, Reaches s x CAL_SEC_LO_S.addr → CompletesWith (.calendarSet x lo q) s fun t =>
      t.get CAL_CTRL_VALID = 1 ∧
      t.candle = { s.candle with calSec := 4294967296 * s.candle.calHi + lo.toNat, calPart := 0, calAt := s.now } ∧
      ∀ a, a ≠ CAL_CTRL_VALID.addr → a ≠ CAL_SEC_LO_S.addr → a ≠ (SEAT_FRAMES_OK x).addr → t.word a = s.word a) ∧
    (Reaches s x NVM_FW_LOAD_CTRL_START.addr →
      (s.fwLoad = none → exec (.fwLoadStart x q) s = .next (accepted x
        (({ s with fwLoad := some { seat := x, mode := .install, phase := .receiving } }.put NVM_FW_LOAD_STAT_STATE 1).put
          NVM_FW_LOAD_STAT_CODE 0))) ∧
      (s.fwLoad ≠ none → CompletesWith (.fwLoadStart x q) s fun t => Refused s t x 12 NVM_FW_LOAD_CTRL_START.addr) ∧
      (∀ l : Load, s.fwLoad = some l → l.seat = x → l.phase = .receiving →
        (∀ w : Word, Reaches s x (NVM_FW_LOAD_DATA_DATA 0).addr → exec (.fwLoadData x w q) s =
          .next (accepted x { s with fwLoad := some { l with bytes := l.bytes ++ wordBytes w } })) ∧
        exec (.fwLoadEnd x q) s = .next (accepted x
          ({ s with fwLoad := some { l with phase := .validating } }.put NVM_FW_LOAD_STAT_STATE 2))) ∧
      (∀ l : Load, s.fwLoad = some l → l.seat = x → l.phase = .receiving ∨ l.phase = .validating →
        exec (.fwLoadCancel x q) s = .next (accepted x
          (({ s with fwLoad := none }.put NVM_FW_LOAD_STAT_STATE 6).put NVM_FW_LOAD_STAT_CODE 0x21)))) ∧
    (∀ r : BitVec 3, Reaches s x NVM_RD_CTRL_START.addr → s.nvReadOk r.toNat = true →
      (s.nvRead = none → CompletesWith (.nvRead x r q) s fun t =>
        t.nvRead = some { seat := x, region := r.toNat, ofs := s.get NVM_RD_OFS_OFS, len := s.get NVM_RD_LEN_LEN
                          mbOfs := s.get NVM_RD_LEN_MB_OFS } ∧
        t.get NVM_RD_CTRL_REGION = r.toNat ∧ t.mem = s.mem ∧
        ∀ a, a ≠ NVM_RD_CTRL_REGION.addr → a ≠ (SEAT_FRAMES_OK x).addr → t.word a = s.word a) ∧
      (s.nvRead ≠ none → CompletesWith (.nvRead x r q) s fun t => Refused s t x 12 NVM_RD_CTRL_START.addr))

/-- SEC commands start an OTP write or key store where R386 allows it; each other case leaves its code in CMD_STAT
alone (R385, R386, R387, R388, R431). The model's own: The order of these checks is the model's (log entry 46). -/
def Obligations.SecurityCommands : Prop :=
  ∀ (s : State) (x : Seat) (q : Fin 40) (k : Fin 4), s.modeSeat x = true → Reaches s x SEC_CMD_KEY.addr → s.secRun = none →
    let starts (i : Instr) (r : SecRun) : Prop :=
      exec i s = .next (accepted x ({ s with secRun := some r }.put SEC_CMD_STAT_BUSY 1))
    let ends (i : Instr) (c : Nat) : Prop :=
      exec i s = .next (accepted x ((s.put SEC_CMD_STAT_BUSY 0).put SEC_CMD_STAT_CODE c))
    (s.get SEC_HASH_USE_USE ≠ 0 →
      (s.keyProgrammed k = false → s.get SYS_LOCK_LOCKED = 0 →
        starts (.secProgramSlot x k q) (.program k (s.stagedBytes 0xD0040 8) (BitVec.ofNat 3 (s.get SEC_HASH_USE_USE)))) ∧
      (s.keyProgrammed k = true → ends (.secProgramSlot x k q) 2) ∧
      (s.keyProgrammed k = false → s.get SYS_LOCK_LOCKED = 1 → ends (.secProgramSlot x k q) 3)) ∧
    (s.keyProgrammed k = true → sha256 (s.stagedBytes 0xD0080 16) = s.nv.hash[k] →
      starts (.secStoreKey x k q) (.store k (s.stagedBytes 0xD0080 16))) ∧
    (s.keyProgrammed k = false ∨ sha256 (s.stagedBytes 0xD0080 16) ≠ s.nv.hash[k] → ends (.secStoreKey x k q) 6) ∧
    (s.keyInUse k = false → starts (.secRevoke x k q) (.revoke k)) ∧
    (s.keyInUse k = true → ends (.secRevoke x k q) 4) ∧
    (let fw := imgU (s.nv.fw[s.get NVM_FW_ACTIVE_SLOT]?.getD []) 0x14 1
     (s.get SYS_BOOT_OK_OK = 1 → levelOf s.nv.fwBits < fw → starts (.secRaiseFwLevel x q) (.fwLevel fw)) ∧
     (s.get SYS_BOOT_OK_OK = 1 → fw ≤ levelOf s.nv.fwBits → ends (.secRaiseFwLevel x q) 0) ∧
     (s.get SYS_BOOT_OK_OK = 0 → ends (.secRaiseFwLevel x q) 5)) ∧
    (let fab := imgU (s.nv.fab[s.get FABRIC_STAT_ACTIVE_SLOT]?.getD []) 0x14 1
     (s.get SYS_BOOT_OK_OK = 1 → s.fabLoaded = true → levelOf s.nv.fabBits < fab →
       starts (.secRaiseFabLevel x q) (.fabLevel fab)) ∧
     (s.get SYS_BOOT_OK_OK = 1 → s.fabLoaded = true → fab ≤ levelOf s.nv.fabBits → ends (.secRaiseFabLevel x q) 0) ∧
     (s.get SYS_BOOT_OK_OK = 0 ∨ s.fabLoaded = false → ends (.secRaiseFabLevel x q) 5)) ∧
    (∀ l : Fin 3,
      (s.otpDebugLevel < l.val → starts (.secRaiseDebugLevel x l q) (.debugLevel l.val)) ∧
      (s.otpDebugLevel = l.val → ends (.secRaiseDebugLevel x l q) 0) ∧
      (l.val < s.otpDebugLevel → ends (.secRaiseDebugLevel x l q) 8))

/-- The bank of a cell is the unit's to drive (R304), or its switches are still on in the 10 us after its partner took (R305). -/
def Sys2Proof.Claims.Drives (s : State) (n : Chan) : Prop :=
  (s.bank (bankOf n)).paired = false ∨ (s.bank (bankOf n)).holds = true ∨ (s.bank (bankOf n)).opening = true

/-- A cell has gone to FAULT with a cause, its switch and generator off, and keeps its adoption, TOKEN, commanded value and
inputs (R27, R28, R31). -/
def Sys2Proof.Claims.InFault (c c' : FCell) (ca : Cause) : Prop :=
  c'.state = .fault ∧ c'.cause = ca ∧ c'.applied = 0 ∧ c'.on = false ∧ c'.wickRun = false ∧
  c'.adopted = c.adopted ∧ c'.token = c.token ∧ c'.commanded = c.commanded ∧ c'.count = c.count ∧ c'.level = c.level


/-- A boundary ends the cycle: time and number advance, the commit is taken, one downward frame goes to each bank
(R18, R21, R24, R25, R170, R331, R360, R343, R355). The model's own: That the frames are queued as data is the model's
(log entry 26), and so are the number of the boundary to come, that only time passes in reset and that a frame goes
out at every other boundary (log entry 33). -/
def Obligations.BoundaryEndsTheCycle : Prop :=
  ∀ (s : State) (ovrn : BitVec 8) (ok : Bool) (dev : BitVec 8),
    (s.inReset = true → CompletesWith (.fabricCycleBoundary ovrn ok dev) s fun t =>
      (∀ b : Bank, t.bank b = if (s.bank b).running then
        { s.bank b with
          missed := (s.bank b).missed + (s.bank b).hbNext.toNat, present := if (s.bank b).hbNext then 0 else (s.bank b).present
          hbNext := ! (s.bank b).hbNext } else s.bank b) ∧
      (∀ n : Chan, t.cell n = { s.cell n with markers := (t.cell n).markers, sinceMarker := (t.cell n).sinceMarker }) ∧
      t = { s with now := s.now + 40, banks := t.banks, cells := t.cells }) ∧
    (s.inReset = false → .hfr ∈ s.commits ∨ .bootRetry ∈ s.commits →
      CompletesWith (.fabricCycleBoundary ovrn ok dev) s fun t =>
        t.inReset = true ∧ t.now = s.now + 40 ∧ t.cycle = 0 ∧ t.get SYS_RESET_CAUSE_CLASS = ResetClass.hfr.code ∧ t.commits = []) ∧
    (s.inReset = false → .hfr ∉ s.commits → .bootRetry ∉ s.commits →
      CompletesWith (.fabricCycleBoundary ovrn ok dev) s fun t =>
        t.inReset = false ∧ t.now = s.now + 40 ∧ t.cycle = s.cycle + 1 ∧ t.fuseDone = false ∧
        t.commits = [] ∧ t.shadow = s.shadowLate ∧ t.shadowLate = [] ∧ t.pending = s.pending ∧
        (∀ b : Bank, ∃ f, (t.lbank b).down = (s.lbank b).down ++ [f] ∧ (f.heartbeat = true ↔ (s.cycle + 1) % 2 = 0)) ∧
        t.get CLKMON_STAT_XTAL_OK = ok.toNat ∧ t.get CLKMON_STAT_DEV = dev.toNat ∧ t.get SYS_PWR_STAT_CHANGING = 0 ∧
        (s.get SYS_PWR_STAT_STATE ≠ 3 → ∀ x : Seat, t.seatAge[x] = if s.seatFresh[x] then 0 else s.seatAge[x] + 10) ∧
        (s.get SYS_PWR_STAT_STATE = 3 → t.seatAge = s.seatAge))

/-- An accepted output value that waits is in effect after the boundary and rides in the frame the boundary sends
(R18, R21, R37, R31). -/
def Obligations.CommittedOutputReachesItsFrame : Prop :=
  ∀ (s : State) (n : Chan) (v : Word) (ok : Bool) (dev : BitVec 8),
    s.inReset = false → s.get SYS_PWR_STAT_STATE ≠ 3 → s.mode ≠ .votive → s.commits = [] → s.shadow = [((CELL_OUT_VALUE n).addr, v)] →
    s.trimSteps = Vector.replicate 2 0 → s.dma.pi = [] → s.get PAIR_CFG_EN = 0 →
    CompletesWith (.fabricCycleBoundary 0 ok dev) s fun t =>
      t.get (CELL_OUT_VALUE n) = v.toNat % 65536 ∧
      (∃ f, (t.lbank (bankOf n)).down = (s.lbank (bankOf n)).down ++ [f] ∧ f.words[posOf n].value = v.toNat % 65536 ∧
        f.words[posOf n].wrote = true ∧
        ((s.lcell n).cause = .silenceRun ∨ (s.lcell n).cause = .silence → f.words[posOf n].cause = .none)) ∧
      ∀ m : Chan, m ≠ n → t.get (CELL_OUT_VALUE m) = s.get (CELL_OUT_VALUE m)

/-- Fuse steps fall only on boundaries whose cycle number is a multiple of 5; there every cell whose step completes
takes it (R19, R20, R57, R61, R307, R354, R360). -/
def Obligations.FuseStepsTakeEveryCellEveryFifthCycle : Prop :=
  ∀ (s : State) (m : FuseMeas),
    ((s.cycle + 1) % 5 ≠ 0 ∨ s.fuseDone = true → exec (.fuseStep m) s = .next s) ∧
    ((s.cycle + 1) % 5 = 0 → s.fuseDone = false → s.inReset = false → s.mode ≠ .votive → s.get SYS_PWR_STAT_STATE ≠ 3 →
      CompletesWith (.fuseStep m) s fun t =>
        t.fuseDone = true ∧
        (∀ n : Chan, let c := t.cell n; let r := s.fuseStepOf m n
          if n ∉ m.incomplete ∧ (s.bank (bankOf n)).running = true ∧ (s.bank (bankOf n)).lost = false ∧
              (s.bank (bankOf n)).fbrReport = false then
            (t.lcell n).marker = true ∧
            if s.parted (bankOf n) = true then
              c = { s.cell n with currentMa := c.currentMa, temp := c.temp, tempValid := c.tempValid, cycles := c.cycles }
            else c.tWire = r.tWire ∧ c.tBase = r.tBase ∧ c.tAmb = r.tAmb ∧ c.tNb = r.tNb ∧ c.modelled = true
          else c = s.cell n ∧ (t.lcell n).marker = (s.lcell n).marker) ∧
        t = { s with
          regs := t.regs, fresh := t.fresh, dmaDue := t.dmaDue, dueLines := t.dueLines, cells := t.cells, banks := t.banks, lcells := t.lcells
          candle := t.candle, nv := { s.nv with log := t.nv.log }, free := t.free, meas := t.meas, fuseDone := true } ∧
        ∀ b : Bank, t.meas[b] = { s.meas[b] with due := t.meas[b].due })

/-- A fuse step moves a single unbundled wire as R57 computes it, and a wire at T_lim trips a switching output for
good (R55, R56, R57, R59). -/
def Obligations.FuseModelFollowsItsFormula : Prop :=
  (∀ (s : State) (m : FuseMeas) (n : Chan), s.get (CELL_FUSE_CFG_BUNDLE n) = 0 → (s.cell n).modelled = true →
    let w := wireTable (s.get (CELL_FUSE_CFG_WIRE n))
    let rth := if s.get (CELL_FUSE_CFG_ROUTE n) = 1 then w.2.1 / 2 else w.2.1
    let base : Rat := (m.die[bankOf n] : Rat) / 16 + (signed 8 (s.get (CELL_FUSE_CFG_OFFSET n)) : Rat)
    let t0 := (s.cell n).tWire
    (s.fuseStepOf m n).tBase = base ∧ (s.fuseStepOf m n).tNb = 0 ∧ (s.fuseStepOf m n).tAmb = base ∧
    (s.fuseStepOf m n).tWire = t0 + (50 / 1000000) / w.2.2 *
      ((m.i2[n] : Rat) / 1000000 * w.1 * (1 + 393 / 100000 * (t0 - 20)) - (t0 - base) / rth)) ∧
  (∀ (s : State) (n : Chan), Drives s n →
    let t := s.fuseTrip n
    InFault (s.cell n) (t.cell n) .protection ∧ (t.cell n).live.getLsbD FL_FUSE_TRIP = true ∧
    (t.cell n).occ.getLsbD FL_FUSE_TRIP = true ∧
    t.get (CELL_PROT_CNT_FUSE_TRIPS n) = min 255 (s.get (CELL_PROT_CNT_FUSE_TRIPS n) + 1) ∧
    Frame s t (· = (CELL_PROT_CNT_FUSE_TRIPS n).addr) (· = n) noBank)

/-- A downward frame that passes its check gives the die configuration, mode and command words; one that fails is
counted (R21, R24, R25, R29, R43). The model's own: One that fails its check on a running die is counted, saturating,
a heartbeat it carried counts as missed, and its one-shot orders go out again with the next command words (that they
do is the model's choice, log entry 49). -/
def Obligations.DownwardFramesReachTheDie : Prop :=
  ∀ (s : State) (b : Bank) (f : DownFrame) (rest : List DownFrame), (s.bank b).running = true → (s.lbank b).down = f :: rest →
    (CompletesWith (.downwardFrameReceived b false) s fun t =>
      (t.lbank b).down = rest ∧
      t.get (BANK_LINK_ERR_CRC_ERR b) = min 0xFFFF (s.get (BANK_LINK_ERR_CRC_ERR b) + 1) ∧
      t.bank b = { s.bank b with
        missed := (s.bank b).missed + f.heartbeat.toNat, present := if f.heartbeat then 0 else (s.bank b).present
        hbNext := ! f.heartbeat } ∧
      (∀ n : Chan, t.cell n = { s.cell n with markers := (t.cell n).markers, sinceMarker := (t.cell n).sinceMarker }) ∧
      (∀ k : Fin 8, let w := f.words[k]; let l := s.lcell (chanOf b k)
        t.lcell (chanOf b k) = { l with
          faultClr := l.faultClr || w.faultClr, ctrClr := l.ctrClr || w.ctrClr, adopt := l.adopt || w.adopt, wrote := l.wrote || w.wrote }) ∧
      t = { s with regs := t.regs, cells := t.cells, banks := t.banks, lcells := t.lcells, lbanks := t.lbanks } ∧
      ∀ a, a ≠ (BANK_LINK_ERR_CRC_ERR b).addr → t.word a = s.word a) ∧
    (f.por = false → f.configured = true → (s.bank b).configuring = false → (s.bank b).lost = false → ∀ c, f.copy = some c →
      CompletesWith (.downwardFrameReceived b true) s fun t =>
        (t.lbank b).down = rest ∧ (t.bank b).copy = c ∧ (t.bank b).mode = (s.bank b).modeAfter f.mode ∧
        (t.bank b).votive = f.votive ∧ (f.heartbeat = true → (t.bank b).missed = 0) ∧
        (∀ k : Fin 8, let old := s.cell (chanOf b k); let new := t.cell (chanOf b k); let w := f.words[k]
          new.logicCause = w.cause ∧ new.txn = w.txn ∧ new.adopted = (old.adopted || w.adopt) ∧
          (old.state = .active → old.adopted = true → old.logicCause = .none → w.cause = .none → old.txn = .none → w.txn = .none →
            old.latched = false → old.stalled = false → w.faultClr = false → w.held = false → family (t.fn (chanOf b k)) = 2 →
            new.state = .active ∧ new.commanded = w.value ∧ new.applied = w.value)) ∧
        t.regs = s.regs ∧ t.mem = s.mem ∧ t.lcells = s.lcells ∧ t.units = s.units ∧
        ((∀ k m, (s.cell (chanOf b k)).parWith = some m → bankOf m = b) → ∀ n : Chan, bankOf n ≠ b → t.cell n = s.cell n))

/-- A die's frame carries its cells and bank as they are; received, they show in the registers, and flags stay set
(R23, R24, R25, R38, R44). -/
def Obligations.UpwardFramesReachTheRegisters : Prop :=
  (∀ (s : State) (b : Bank) (m : FrameMeas), (s.bank b).running = true →
    CompletesWith (.upwardFrame b m) s fun t => ∃ f : UpFrame,
      (t.lbank b).up = (s.lbank b).up ++ [f] ∧ (f.heartbeat = true ↔ (s.bank b).frameNo % 2 = 0) ∧
      t.bank b = { f.bank with frameNo := (s.bank b).frameNo + 1 } ∧ (t.bank b).vfMv = m.vfMv ∧
      (∀ k : Fin 8, f.cells[k] = t.cell (chanOf b k) ∧ f.needs[k] = t.vNeed (chanOf b k) ∧ (t.cell (chanOf b k)).iUa = m.iUa[k]) ∧
      t.regs = s.regs ∧ t.mem = s.mem ∧ ∀ n : Chan, bankOf n ≠ b → t.cell n = s.cell n) ∧
  (∀ (s : State) (b : Bank) (f : UpFrame) (rest : List UpFrame), s.inReset = false → (s.lbank b).up = f :: rest →
    (CompletesWith (.upwardFrameReceived b false) s fun t =>
      (t.lbank b).up = rest ∧ (t.lbank b).missed = (s.lbank b).missed + f.heartbeat.toNat ∧
      t.get (BANK_LINK_ERR_CRC_ERR b) = min 0xFFFF (s.get (BANK_LINK_ERR_CRC_ERR b) + 1) ∧
      t = { s with regs := t.regs, lbanks := t.lbanks } ∧ ∀ a, a ≠ (BANK_LINK_ERR_CRC_ERR b).addr → t.word a = s.word a) ∧
    (s.readBack[b] = false → CompletesWith (.upwardFrameReceived b true) s fun t =>
      (t.lbank b).up = rest ∧ (f.heartbeat = true → t.get (BANK_LINK_UP b) = 1 ∧ (t.lbank b).missed = 0) ∧
      t.get (BANK_LINK_FIELD_ALIVE b) = f.bank.running.toNat ∧ t.get (BANK_MODE_MODE b) = f.bank.mode.code ∧
      t.get (BANK_SUP_STAT_VF_MV b) = f.bank.vfMv % 65536 ∧
      ∀ k : Fin 8, let n := chanOf b k; let c := f.cells[k]
        t.get (CELL_STATE_STATE n) = c.state.code ∧ t.get (CELL_STATE_CAUSE n) = c.cause.code ∧
        t.get (CELL_STATE_ADOPTED n) = c.adopted.toNat ∧ t.get (CELL_STATE_TOKEN n) = c.token.toNat ∧
        t.get (CELL_SW_STAT_ON n) = c.on.toNat ∧ (f.bank.fbrReport = false → t.get (CELL_COUNT_COUNT n) = c.count.toNat) ∧
        ∀ i : Fin 18, i.val ≠ FL_STALE → (c.live &&& flagMask (s.lfn n)).getLsbD i.val = true →
          (t.word (CELL_LIVE_OPEN_LOAD n).addr).getLsbD i.val = true ∧ (t.word (CELL_FLAGS_OPEN_LOAD n).addr).getLsbD i.val = true))

/-- A declared loss of the logic side, of a field die, and the return of the logic side act as R26 and R436 say (R24,
R25, R26, R29, R309, R231, R436). The model's own: The TOKENs are free values (log entry 3). -/
def Obligations.LossesOfEitherSide : Prop :=
  (∀ (s : State) (b : Bank), (s.bank b).missed < 3 → exec (.logicSideLoss b) s = .next s) ∧
  (∀ (s : State) (b : Bank), (s.lbank b).missed < 3 → exec (.fieldDieLoss b) s = .next s) ∧
  (∀ (s : State) (b : Bank), (s.bank b).running = true → (s.bank b).lost = false → 3 ≤ (s.bank b).missed →
    CompletesWith (.logicSideLoss b) s fun t =>
      (t.bank b).lost = true ∧ (t.bank b).present = 0 ∧ (t.bank b).lossReport = true ∧ (t.bank b).takeEnable = false ∧
      (∀ k : Fin 8, (t.cell (chanOf b k)).adopted = false ∧ (t.cell (chanOf b k)).token = Config.token (s.free + k.val)) ∧
      ((s.bank b).paired = false → (s.bank b).configuring = false → (s.bank b).mode = .run →
        ∀ k : Fin 8, let n := chanOf b k; let c := t.cell n
          family (s.fn n) = 2 → (s.cell n).state = .active → (s.cell n).latched = false → (s.cell n).stalled = false →
          (s.limpPin n ≠ 0 → c.state = .limp ∧ c.cause = .limpMap) ∧
          (s.limpPin n = 0 → c.state = .safe ∧ c.cause = .lossRun ∧ c.applied = 0)) ∧
      ∀ n : Chan, bankOf n ≠ b → t.cell n = s.cell n) ∧
  (∀ (s : State) (b : Bank), (s.bank b).running = true → (s.bank b).lost = true → 3 ≤ (s.bank b).present →
    exec (.logicSideReturn b) s = .next (s.modBank b (fun k => { k with lost := false, missed := 0 }))) ∧
  (∀ (s : State) (b : Bank), s.get (BANK_LINK_UP b) = 1 → 3 ≤ (s.lbank b).missed →
    CompletesWith (.fieldDieLoss b) s fun t =>
      t.get (BANK_LINK_UP b) = 0 ∧ t.get (BANK_LINK_FIELD_ALIVE b) = 0 ∧
      t.get (BANK_LINK_LOST_CNT b) = min 255 (s.get (BANK_LINK_LOST_CNT b) + 1) ∧
      (∀ x : Seat, Raised s t x 47) ∧ (t.lbank b).down = (s.lbank b).down ∧
      (∀ k : Fin 8, let n := chanOf b k
        t.get (CELL_STATE_LINK_UP n) = 0 ∧
        (family (s.lfn n) = 1 → t.get (CELL_IN_STALE n) = 1 ∧ (t.word (CELL_FLAGS_OPEN_LOAD n).addr).getLsbD FL_STALE = true)) ∧
      t.cells = s.cells ∧ t.banks = s.banks)

/-- A mode command and a seat timeout on one boundary: the mode is applied first, then the timeout is evaluated
(R167). The model's own: That a cell with another cause of the logic side keeps it is the model's choice (log entry
25). -/
def Obligations.SeatTimeoutFollowsTheModeCommand : Prop :=
  ∀ (s : State) (x : Seat) (m : Mode), s.inReset = false → s.mode ≠ .boot → s.mode ≠ .votive → s.get SYS_PWR_STAT_STATE ≠ 3 →
    s.seatFresh[x] = false → s.get (SEAT_STAT_TIMED_OUT x) = 0 → 1000 * s.get (SEAT_CFG_TIMEOUT_MS x) ≤ s.seatAge[x] + 10 →
    (s.commits = [] ∧ m = s.mode ∧ (∀ b : Bank, (s.lbank b).recovery = false ∧ (s.lbank b).mirrored = none) ∨
      s.commits = [.mode m] ∧ (m = .run ∨ m = .test)) →
    CompletesWith (.seatTimeout x) s fun t =>
      (∀ n : Chan, (t.lcell n).cause =
        if s.owner n = x ∧ family (s.lfn n) = 2 ∧ s.get (CELL_STATE_ADOPTED n) = 1 ∧ s.holdsBank (bankOf n) = true ∧
            (s.lcell n).cause = .none then (if m = .run then .silenceRun else .silence)
        else (s.lcell n).cause) ∧
      t.get (SEAT_STAT_TIMED_OUT x) = 1 ∧ t.get (SEAT_STAT_TIMEOUTS x) = min 255 (s.get (SEAT_STAT_TIMEOUTS x) + 1) ∧
      (∀ y : Seat, t.linePending y (40 + x.val) = true) ∧ t.commits = s.commits ∧
      t = { s with regs := t.regs, fresh := t.fresh, dmaDue := t.dmaDue, dueLines := t.dueLines, lcells := t.lcells }

/-- RECOVERY_TIMEOUT_END and PAIR_HOLD_END move exactly the cells held for them, to LIMP where mapped or to SAFE
(R173, R305, R306, R309). The model's own: At the end of PAIR_HOLD in a held bank with no partner seen each cell in
HOLD with cause PAIR_HOLD goes to LIMP if it is mapped, else to SAFE with cause PAIR_RELEASE; with a partner seen, or
while the bank is released, the cells keep their stages, as the release that is then due begins the grace (R306; that
the two rules meet so is the model's reading, log entry 41). -/
def Obligations.HoldsEnd : Prop :=
  ∀ (s : State) (b : Bank), (s.bank b).running = true →
    (CompletesWith (.recoveryTimeoutEnd b) s fun t =>
      (t.bank b).recoveryOver = true ∧ t.regs = s.regs ∧
      ∀ n : Chan, let c := s.cell n
        if bankOf n = b ∧ c.state = .hold ∧ c.cause = .recoveryHold then
          if s.limpPin n ≠ 0 then (t.cell n).state = .limp ∧ (t.cell n).cause = .limpMap
          else (t.cell n).state = .safe ∧ (t.cell n).cause = .recoveryTimeout
        else t.cell n = c) ∧
    ((s.bank b).holds = true → CompletesWith (.pairHoldEnd b) s fun t =>
      (t.bank b).pairHoldOver = true ∧ t.regs = s.regs ∧
      ∀ n : Chan, let c := s.cell n
        if bankOf n = b ∧ c.state = .hold ∧ c.cause = .pairHold ∧ (s.bank b).partnerSeen = false ∧ (s.bank b).releasing = false then
          if s.limpPin n ≠ 0 then (t.cell n).state = .limp ∧ (t.cell n).cause = .limpMap
          else (t.cell n).state = .safe ∧ (t.cell n).cause = .pairRelease
        else t.cell n = c)

/-- Entry and exit of limit, TWARN, TSD of an off switch, and the ends of window, blanking and retry count touch just
their cell (R44, R51, R52, R53, R62, R72). -/
def Obligations.LimitAndThermalEventsOfACell : Prop :=
  ∀ (s : State) (n : Chan) (b : Bank),
    (∀ ma : Nat, (s.cell n).on = true → s.limitAt n ≤ 100 * ma → exec (.ilimEntry ⟨n, ma⟩) s = .next (s.modCell n fun c =>
      { c with inLimit := true, live := setBit c.live FL_ILIM true, occ := setBit c.occ FL_ILIM true })) ∧
    exec (.ilimExit n) s = .next (s.modCell n fun c => { c with inLimit := false, live := setBit c.live FL_ILIM false }) ∧
    exec (.twarn n) s = .next (s.modCell n fun c =>
      { c with live := setBit c.live FL_TWARN true, occ := setBit c.occ FL_TWARN true }) ∧
    exec (.twarnClear n) s = .next (s.modCell n fun c => { c with live := setBit c.live FL_TWARN false }) ∧
    ((s.cell n).on = false → exec (.tsdOffHold n) s = .next (s.modCell n fun c =>
      { c with tsdHold := true, phaseWait := false, live := setBit c.live FL_TSD true, occ := setBit c.occ FL_TSD true })) ∧
    ((s.cell n).on = true → exec (.retryCountReset n) s = .next (s.modCell n fun c => { c with retryCnt := 0 })) ∧
    exec (.inrushWindowEnd n) s = .next (s.modCell n fun c => { c with inrush := false }) ∧
    exec (.blankingEnd n) s = .next (s.modCell n fun c => { c with blanking := false }) ∧
    (∀ k : Fin 8, exec (.iselChange b k) s = .next (s.modBank b fun f => { f with isel := k })) ∧
    exec (.arbiterCooled b) s = .next (s.modBank b fun k => { k with tbwarn := false })

/-- A limit or TSD trip turns the switch off and counts; it latches with RESTART 0 or the budget used up, else the
cell restarts (R31, R51, R52). -/
def Obligations.TripsLatchOrRestart : Prop :=
  (∀ (s : State) (n : Chan), Drives s n → (s.cell n).on = true →
    let out := s.fget (bankOf n) (CELL_THERM_CFG_RESTART n) = 0 ∨
      min (s.fget (bankOf n) (CELL_THERM_CFG_RETRIES n)) (s.fget (bankOf n) (CANDLE_CH_PLAN_RETRY_BUDGET n)) ≤ (s.cell n).retryCnt
    let ends (t : State) : Prop :=
      (out → InFault (s.cell n) (t.cell n) .protection) ∧
      (¬ out → (t.cell n).on = false ∧ (t.cell n).retryOff.isSome = true ∧ (t.cell n).retryCnt = (s.cell n).retryCnt + 1 ∧
        (t.cell n).state = (s.cell n).state ∧ (t.cell n).cause = (s.cell n).cause ∧ (t.cell n).applied = (s.cell n).applied) ∧
      Frame s t noReg (· = n) noBank
    ((s.cell n).inLimit = true → CompletesWith (.limitTimeout n) s fun t => (t.cell n).repIlim = (s.cell n).repIlim + 1 ∧ ends t) ∧
    CompletesWith (.tsdTrip n) s fun t => (t.cell n).repTsd = (s.cell n).repTsd + 1 ∧ (t.cell n).live.getLsbD FL_TSD = true ∧
      (t.cell n).occ.getLsbD FL_TSD = true ∧ ends t) ∧
  (∀ (s : State) (n : Chan), Drives s n → (s.bank (bankOf n)).opening = false → s.fn n = FN_DO_HS →
    (s.bank (bankOf n)).running = true → (s.cell n).uvHeld = false →
    ((s.cell n).retryOff = none → CompletesWith (.tsdRelease n) s fun t =>
      (t.cell n).tsdHold = false ∧ (t.cell n).live.getLsbD FL_TSD = false ∧
      (t.cell n).on = ((s.cell n).applied != 0 && ((s.cell n).on || ! ((s.cell n).phaseWait && (s.cell n).state == .active))) ∧
      (t.cell n).state = (s.cell n).state ∧ (t.cell n).applied = (s.cell n).applied ∧ Frame s t noReg (· = n) noBank) ∧
    ((s.cell n).tsdHold = false → (s.cell n).retryOff.isSome = true → (s.cell n).live.getLsbD FL_TSD = false →
      CompletesWith (.restartWaitEnd n) s fun t =>
      (t.cell n).retryOff = none ∧ (t.cell n).on = ((s.cell n).applied != 0 && ((s.cell n).on || ! ((s.cell n).phaseWait && (s.cell n).state == .active))) ∧
      (t.cell n).state = (s.cell n).state ∧ (t.cell n).applied = (s.cell n).applied ∧ Frame s t noReg (· = n) noBank))

/-- A missing fuse-step marker and a held current above I_HOLD each switch the output off and put the cell in FAULT
(R34, R35). -/
def Obligations.FieldDieTripsItsOwnOutputs : Prop :=
  ∀ (s : State) (n : Chan), Drives s n → (s.bank (bankOf n)).running = true →
    ((s.cell n).on = true → (s.bank (bankOf n)).lost = false → (s.bank (bankOf n)).votive = false → (s.cell n).latched = false →
      140 ≤ (s.cell n).sinceMarker → CompletesWith (.fuseStall n) s fun t => InFault (s.cell n) (t.cell n) .fuseStall ∧ (t.cell n).stalled = true ∧
        (t.cell n).markers = 0 ∧ Frame s t noReg (· = n) noBank) ∧
    (∀ ma : Nat, (s.bank (bankOf n)).lost = true ∨ (s.bank (bankOf n)).votive = true → isSwitchFn (s.fn n) = true →
      (s.cell n).state = .hold ∨ ((s.cell n).state = .safe ∨ (s.cell n).state = .limp) ∧ (s.cell n).applied ≠ 0 →
      (∀ k, (s.cell n).iHold = some k → k < ma) → ((s.cell n).iHold = none → 1000 < ma) →
      CompletesWith (.holdCurrentTrip n ma) s fun t => InFault (s.cell n) (t.cell n) .protection ∧
        (t.cell n).repFuse = (s.cell n).repFuse + 1 ∧ (t.cell n).live.getLsbD FL_FUSE_TRIP = true ∧
        (t.cell n).occ.getLsbD FL_FUSE_TRIP = true ∧ (t.cell n).latched = true ∧ Frame s t noReg (· = n) noBank)

/-- The arbiter cuts running windows; a phase point turns a waiting lamp on; a generator takes its duty at period
start, edges switch (R62, R63, R64, R66, R68, R69, R70). -/
def Obligations.LampsAndGenerators : Prop :=
  (∀ (s : State) (b : Bank), CompletesWith (.arbiterTbwarn b) s fun t =>
    (t.bank b).tbwarn = true ∧ Frame s t noReg (bankOf · = b) (· = b) ∧
    ∀ n : Chan, bankOf n = b → t.cell n = if (s.cell n).inrush = true then
      { s.cell n with inrush := false, occ := setBit (s.cell n).occ FL_INRUSH_CUT true } else s.cell n) ∧
  (∀ (s : State) (n : Chan), (s.cell n).phaseWait = true → (s.cell n).on = false → s.blocked n = false → s.fn n = FN_DO_LAMP →
    CompletesWith (.phasePointTurnOn n) s fun t =>
      (t.cell n).on = true ∧ (t.cell n).phaseWait = false ∧ (t.cell n).cycles = (s.cell n).cycles + 1 ∧
      (t.cell n).inrush = ((s.cell n).inrush ||
        (s.fget (bankOf n) (CELL_SW_CFG_INRUSH_MS n) != 0 && ! (s.bank (bankOf n)).tbwarn)) ∧
      (t.cell n).state = (s.cell n).state ∧ Frame s t noReg (· = n) noBank) ∧
  (∀ (s : State) (n : Chan), s.fn n = FN_DO_PWM → s.blocked n = false → (s.cell n).state = .active → (s.cell n).applied ≠ 0 →
    (s.cell n).applied < 0xFFFF → s.fget (bankOf n) (WICK_CFG_SOFT n) = 0 →
    CompletesWith (.wickPeriodStart n) s fun t =>
      (t.cell n).wickRun = true ∧ (t.cell n).duty = (s.cell n).applied ∧
      (t.cell n).period = (if s.fget (bankOf n) (WICK_CFG_PER_SEL n) = 1 then s.fget (bankOf n) (WICK_PERIOD_PERIOD_US n)
        else s.fget (bankOf n) (BANK_WICK_PERIOD_PERIOD_US (bankOf n))) ∧
      (t.cell n).phase = s.fget (bankOf n) (WICK_CFG_PHASE n) ∧
      (t.cell n).stretch = (s.fget (bankOf n) (WICK_CFG_PHASE n) + 256 - (s.cell n).phase) % 256 ∧
      (t.cell n).on = (s.cell n).on ∧ Frame s t noReg (· = n) (· = bankOf n)) ∧
  (∀ (s : State) (n : Chan) (rising : Bool), s.fn n = FN_DO_PWM → (s.cell n).wickRun = true → s.blocked n = false →
    ((s.cell n).duty = 0 ∨ (s.cell n).duty = 0xFFFF → exec (.wickEdge n rising) s = .next s) ∧
    ((s.cell n).duty ≠ 0 → (s.cell n).duty ≠ 0xFFFF → CompletesWith (.wickEdge n rising) s fun t =>
      (t.cell n).on = rising ∧ (t.cell n).duty = (s.cell n).duty ∧ (t.cell n).wickRun = true ∧
      (t.cell n).cycles = (s.cell n).cycles + (rising && ! (s.cell n).on).toNat ∧
      Frame s t noReg (· = n) noBank))

/-- Slots decide open load after three rounds; the off-state timer tells short, feed and neither; on-state current
tells open load (R72, R73, R74). -/
def Obligations.DiagnosticsOfSwitches : Prop :=
  ∀ (s : State) (n : Chan),
    (s.offTested n = true → s.fget (bankOf n) (CELL_DIAG_CFG_OL_OFF_EN n) = 1 → ∀ v : Int,
      exec (.offStateSlot n true v) s = .next (s.modCell n fun c => { c with slot := true }) ∧
      ((s.cell n).slot = true → CompletesWith (.offStateSlot n false v) s fun t =>
        (t.cell n).slot = false ∧ (t.cell n).vterm = v ∧
        (1500 < v → (t.cell n).olHigh = (s.cell n).olHigh + 1 ∧ (t.cell n).olLow = 0 ∧
          (t.cell n).live.getLsbD FL_OPEN_LOAD = (decide (2 ≤ (s.cell n).olHigh) || (s.cell n).live.getLsbD FL_OPEN_LOAD)) ∧
        (v < 1500 → (t.cell n).olLow = (s.cell n).olLow + 1 ∧ (t.cell n).olHigh = 0 ∧
          (t.cell n).live.getLsbD FL_OPEN_LOAD = ((s.cell n).live.getLsbD FL_OPEN_LOAD && decide ((s.cell n).olLow < 2))) ∧
        Frame s t noReg (· = n) noBank)) ∧
    (s.offTested n = true → (s.cell n).slot = false → ∀ (near : List Chan) (v : Int),
      exec (.offStateFlagTimer n false near v) s = .next (s.modCell n fun c => { c with
        vterm := v, xfeedSrc := none, live := setBit (setBit c.live FL_SHORT_VF false) FL_XFEED false }) ∧
      ((s.cell n).xfeedSrc = none → s.xfeedCandidate n near = none →
        exec (.offStateFlagTimer n true near v) s = .next (s.modCell n fun c => { c with
          vterm := v, xfeedSrc := none, live := setBit (setBit c.live FL_SHORT_VF true) FL_XFEED false,
          occ := setBit c.occ FL_SHORT_VF true }))) ∧
    ((s.cell n).on = true → (s.cell n).inrush = false → isSwitchFn (s.fn n) = true → ∀ ma : Nat,
      (ma < s.fget (bankOf n) (CELL_DIAG_CFG_OL_ON_MA n) → exec (.openLoadOnTimer n ma) s = .next (s.modCell n fun c =>
        { c with live := setBit c.live FL_OPEN_LOAD true, occ := setBit c.occ FL_OPEN_LOAD true })) ∧
      (s.fget (bankOf n) (CELL_DIAG_CFG_OL_ON_MA n) ≤ ma → exec (.openLoadOnTimer n ma) s = .next (s.modCell n fun c =>
        { c with live := setBit c.live FL_OPEN_LOAD false })))

/-- A cell with safe code LIMP and limp-home map entry none applies off; no pin moves it. A mapped LIMP cell follows
its pin (R30). -/
def Obligations.LimpWithoutMapEntryAppliesOff : Prop :=
  (∀ (s : State) (n : Chan), s.fget (bankOf n) (CELL_SAFE_CODE n) = 4 → s.limpPin n = 0 → s.safeValue n = 0 ∧
    (∀ ca : Cause, s.valueOf n .safe ca = 0) ∧
    ∀ (pin : Fin 2) (level : Bool), CompletesWith (.limpPinEdge (bankOf n) pin level) s fun t => t.cell n = s.cell n) ∧
  (∀ (s : State) (b : Bank) (level : Bool), (s.bank b).running = true →
    CompletesWith (.limpPinEdge b 0 level) s fun t =>
      t.bank b = { s.bank b with lha := level } ∧ Frame s t noReg (bankOf · = b) (· = b) ∧
      ∀ n : Chan, bankOf n = b → s.limpPin n = 1 → s.fn n = FN_DO_HS → (s.cell n).state = .limp → Drives s n → (s.bank b).opening = false → s.blocked n = false →
        (s.cell n).phaseWait = false →
        (t.cell n).applied = level.toNat ∧ (t.cell n).on = level ∧ (t.cell n).state = .limp)

/-- Digital inputs filter, invert, count, time their frequency and show wire break and fault bands as R81 to R90 say
(R81, R82, R83, R84, R87, R90). -/
def Obligations.DigitalInputsFormTheirLevel : Prop :=
  ∀ (s : State) (n : Chan), s.acquiring n = true →
    let c := s.cell n
    let inv := s.fget (bankOf n) (CELL_DI_INV n) == 1
    let contact := s.fn n = FN_DI ∨ s.fn n = FN_DI_COUNT
    let mode := s.fget (bankOf n) (CELL_CTR_CFG_MODE n)
    let counted (l : Bool) (d : FCell) : Prop :=
      d.level = l ∧ d.edgeCnt = c.edgeCnt + (if l = c.level then 0 else 1) ∧
      d.count = c.count + (if s.fn n = FN_DI_COUNT ∧ l ≠ c.level ∧
        ((mode = 0 ∨ mode = 3) ∧ l = true ∨ mode = 1 ∧ l = false ∨ mode = 2) then 1 else 0)
    (∀ l : Bool,
      (s.fget (bankOf n) (CELL_DI_DEB_US n) ≠ 0 →
        exec (.comparatorChange n l) s = .next (s.modCell n fun c => { c with raw := l })) ∧
      (s.fget (bankOf n) (CELL_DI_DEB_US n) = 0 →
        exec (.comparatorChange n l) s = exec (.debounceAccept n) (s.modCell n fun c => { c with raw := l }))) ∧
    (c.fresh = false → CompletesWith (.debounceAccept n) s fun t =>
      (t.cell n).fresh = true ∧ (t.cell n).acc = c.raw ∧ (t.cell n).edgeCnt = c.edgeCnt ∧ (t.cell n).count = c.count ∧
      Frame s t noReg (· = n) noBank) ∧
    (c.fresh = true → contact → c.live.getLsbD FL_WIRE_BREAK = false → CompletesWith (.debounceAccept n) s fun t =>
      counted (c.raw != inv) (t.cell n) ∧ (t.cell n).acc = c.raw ∧ Frame s t noReg (· = n) noBank) ∧
    (c.fresh = true → contact → s.fget (bankOf n) (CELL_DI_WB_EN n) = 1 → ∀ below : Bool,
      CompletesWith (.wireBreakTimer n below) s fun t =>
        (t.cell n).live.getLsbD FL_WIRE_BREAK = below ∧ (below = true → (t.cell n).occ.getLsbD FL_WIRE_BREAK = true) ∧
        counted (! below && (c.acc != inv)) (t.cell n) ∧ Frame s t noReg (· = n) noBank) ∧
    (s.fn n = FN_DI_COUNT → mode = 3 → (s.bank (bankOf n)).lost = false → s.get (BANK_LINK_UP (bankOf n)) = 1 → 0 < s.fget (bankOf n) (CELL_CTR_CFG_GATE_MS n) →
      exec (.freqGateEnd n) s = .next (s.modCell n fun c =>
        { c with gate := 0, freq := c.gate * 100000 / s.fget (bankOf n) (CELL_CTR_CFG_GATE_MS n), freqOk := true })) ∧
    (s.fn n = FN_DI_NAMUR → c.fresh = true → s.fget (bankOf n) (CELL_NAMUR_CFG_BREAK_EN n) = 1 →
      s.fget (bankOf n) (CELL_NAMUR_CFG_FAULT_VAL n) = 0 → CompletesWith (.namurBandTimer n (some false)) s fun t =>
        (t.cell n).faultBand = some 0 ∧ (t.cell n).live.getLsbD FL_WIRE_BREAK = true ∧
        (t.cell n).occ.getLsbD FL_WIRE_BREAK = true ∧ counted false (t.cell n) ∧ Frame s t noReg (· = n) noBank)

/-- The 1 ms check writes means and finds missing headroom; rails fall and drop out; the strap moves alarm currents;
the clamp steps (R100, R102, R313, R104, R105, R108, R109, R111). The model's own: The rounding of the mean is the
model's (log entry 9). -/
def Obligations.LoopOutputsAndRails : Prop :=
  (∀ (s : State) (b : Bank) (m : BankRb), (s.bank b).running = true →
    CompletesWith (.readbackCheck b m) s fun t =>
      t.regs = s.regs ∧ (∀ r : Fin 2, (t.bank b).rails[r].meas = m.railMv[r]) ∧
      (∀ n : Chan, bankOf n ≠ b → t.cell n = s.cell n) ∧
      ∀ k : Fin 8, let n := chanOf b k; let c := s.cell n
        let run := s.meas[b].rbRun.filter (fun x => x.pos == k)
        let sum := c.rbSum + (run.map (·.val)).sum
        let cnt := c.rbCnt + run.length
        (isLoopFn (s.fn n) = false → t.cell n = { c with rbSum := sum, rbCnt := cnt }) ∧
        (isLoopFn (s.fn n) = true → 0 < cnt →
          (t.cell n).rb = (roundNear ((sum : Rat) / cnt)).toNat ∧ (t.cell n).rbSum = 0 ∧ (t.cell n).rbCnt = 0 ∧
          (s.drives n = true → c.clampOut = none → c.policyAct = false → c.tComp = 5 →
            s.setPoint n - ((t.cell n).rb : Rat) > 100 → s.headroomOut n m.cells[k] = true →
            (t.cell n).live.getLsbD FL_COMPLIANCE = true ∧ (t.cell n).occ.getLsbD FL_COMPLIANCE = true))) ∧
  (∀ (s : State) (b : Bank) (r : Fin 2),
    (s.parted b = true → exec (.railSetpointFall b r) s = .next s) ∧
    ((s.bank b).running = true → s.parted b = false → s.railUsers b r ≠ [] → exec (.railSetpointFall b r) s = .next (s.modRail b r fun x =>
      { x with setpoint := min x.setpoint (max (s.railTarget b r) (s.bank b).joinMv[r]) })) ∧
    ((s.bank b).running = true → (s.bank b).rails[r].enabled = true →
      exec (.railDropout b r) s = .next (s.modRail b r fun x => { x with dropout := true })) ∧
    exec (.railDropoutEnd b r) s = .next (s.modRail b r fun x => { x with dropout := false })) ∧
  (∀ (s : State) (b : Bank) (r : Fin 3), (s.bank b).running = true → CompletesWith (.alarmStrapChange b r) s fun t =>
    (t.bank b).alm = r ∧ t.regs = s.regs ∧
    ∀ n : Chan, bankOf n = b → s.fn n = FN_AO_I → (s.cell n).state = .safe → (s.cell n).cause = .loss →
      s.fget b (CELL_SAFE_CODE n) = 5 →
      (t.cell n).applied = if r = 1 ∨ (r = 2 ∧ s.fget b (BANK_LOOP_ALM_SEL b) = 1) then s.fget b (CELL_AO_ALM_HI_UA n)
        else s.fget b (CELL_AO_ALM_LO_UA n)) ∧
  (∀ (s : State) (n : Chan) (temp : Int), s.clampable n = true → (s.bank (bankOf n)).running = true →
    let step : Rat := if s.fn n = FN_AO_V then 110 else 250
    let leaves (o : Option Rat) : Prop := exec (.thermalClampStep n temp) s = .next (s.modCell n fun c => { c with clampOut := o })
    (2400 ≤ temp → leaves (some (max 0 (s.clampedTo n - step)))) ∧
    (temp ≤ 2320 → s.clampedTo n + step < s.clampTarget n → leaves (some (s.clampedTo n + step))) ∧
    (temp ≤ 2320 → s.clampTarget n ≤ s.clampedTo n + step → leaves none) ∧
    (2320 < temp → temp < 2400 → exec (.thermalClampStep n temp) s = .next s))

/-- A press and a repeat add one step each where trims act, else IGNORED sets; a store ends with its record or its
error (R113, R116, R231, R234, R370). The model's own: TRIM_STORE_DONE of a store whose trims are taken clears BUSY
and makes line 53 pending in every seat; without an error DONE reads 1 and the NV record holds the trims, with an
error ERR reads 1, ERR_CODE and NVM.STAT.ERR the code, and the record stays; of NV memory else only the records'
sectors and the log change (log entry 64). -/
def Obligations.TrimButtonsAndStore : Prop :=
  (∀ (s : State) (p : Fin 2), s.inReset = false →
    let presses := if p = 0 then TRIM_STAT_Z_PRESSES else TRIM_STAT_S_PRESSES
    let pin := if p = 0 then TRIM_STAT_Z_PIN else TRIM_STAT_S_PIN
    let acts : Prop := s.get TRIM_EN_EN = 1 ∧ s.trimCells ≠ []
    (acts → CompletesWith (.trimPress p) s fun t =>
      t.trimSteps[p] = s.trimSteps[p] + 1 ∧ t.trimHeld[p] = true ∧ t.get pin = 0 ∧
      t.get presses = (s.get presses + 1) % 2 ^ presses.w ∧
      t = { s with regs := t.regs, trimSteps := t.trimSteps, trimHeld := t.trimHeld }) ∧
    (¬ acts → CompletesWith (.trimPress p) s fun t =>
      t.get TRIM_STAT_IGNORED = 1 ∧ t.trimHeld[p] = true ∧ t.get pin = 0 ∧ t.get presses = s.get presses ∧
      t = { s with regs := t.regs, fresh := t.fresh, dmaDue := t.dmaDue, dueLines := t.dueLines, trimHeld := t.trimHeld }) ∧
    (acts → s.trimHeld[p] = true → CompletesWith (.trimRepeat p) s fun t =>
      t.trimSteps[p] = s.trimSteps[p] + 1 ∧ t.get presses = (s.get presses + 1) % 2 ^ presses.w ∧
      t = { s with regs := t.regs, trimSteps := t.trimSteps }) ∧
    exec (.trimPinRelease p) s = .next (({ s with trimHeld := s.trimHeld.set p false }).put pin 1)) ∧
  (∀ (s : State) (x : Seat) (ws : List (Nat × Word)), s.trimStore = some (x, some ws) → ∀ err : BitVec 4,
    CompletesWith (.trimStoreDone err) s fun t =>
      t.trimStore = none ∧ t.get TRIM_STORE_BUSY = 0 ∧ (∀ y : Seat, Raised s t y 53) ∧
      (err = 0 → t.get TRIM_STORE_DONE = 1 ∧ t.nv.trims = ws.foldl (fun v r => v.setIfInBounds r.1 r.2) s.nv.trims) ∧
      (err ≠ 0 → t.get TRIM_STORE_ERR = 1 ∧ t.get TRIM_STAT_ERR_CODE = err.toNat ∧ t.get NVM_STAT_ERR = err.toNat ∧
        t.nv.trims = s.nv.trims ∧ (err = 3 → t.eccLatch = true ∧ ∀ y : Seat, Raised s t y 58)) ∧
      t = { s with
        regs := t.regs, fresh := t.fresh, dmaDue := t.dmaDue, dueLines := t.dueLines, trimStore := t.trimStore, free := t.free
        eccLatch := t.eccLatch, candle := { s.candle with seq := t.candle.seq, sector := t.candle.sector }
        nv := { s.nv with
          trims := t.nv.trims, words := t.nv.words, wordSector := t.nv.wordSector, spares := t.nv.spares, log := t.nv.log } })

/-- A window of a unit has closed into the snapshot slot that does not hold the newest snapshot (R146, R150): an even GEN of
twice the window's number, the count, the sum's low word and, for a count of 0, the fixed extremes. -/
def Sys2Proof.Claims.ClosedInto (s t : State) (u : Unit96) (count : Nat) (sum : Int) : Prop :=
  let w := if s.units[u].w = 2147483647 then 1 else s.units[u].w + 1
  let a := if s.units[u].newest1 then (STAT_SLOT0_GEN_GEN u).addr else (STAT_SLOT1_GEN_GEN u).addr
  t.units[u].w = w ∧ t.units[u].newest1 = (! s.units[u].newest1) ∧ (t.word a).toNat = 2 * w % 4294967296 ∧
  t.word (a + 4) = BitVec.ofInt 32 sum ∧ (t.word (a + 12)).toNat = count % 4294967296 ∧
  (count = 0 → t.word (a + 16) = 0x7FFFFFFF ∧ t.word (a + 20) = 0x80000000)


/-- A pass starts with its first entry, a clean sample enters its unit, windows close into the older slot, readbacks
add up (R124, R125, R137, R138, R143, R144, R145, R146, R150). -/
def Obligations.SequencesAndStatistics : Prop :=
  (∀ (s : State) (b : Bank) (q : Fin 40), (s.bank b).running = true → (s.bank b).configuring = false →
    s.fget b (BANK_SEQ_CTRL_RUN b) = 1 → s.get SYS_PWR_STAT_STATE ≤ 1 → s.meas[b].startDue = false → s.meas[b].cal = .none →
    (s.fget b (BANK_SEQ_CTRL_PERIOD_US b) = 0 ∨ (s.bank b).lost = true ∨
      s.devTime (s.now + q.val) % (1000 * s.fget b (BANK_SEQ_CTRL_PERIOD_US b)) < 250) →
    (s.meas[b].passing = false → s.meas[b].cur = none → s.meas[b].pending = [] →
      CompletesWith (.sequencePassStart b q) s fun t =>
        t.meas[b].passing = true ∧ t.meas[b].passStart = s.now + q.val ∧ t.meas[b].len = s.fget b (BANK_SEQ_CTRL_LEN_M1 b) + 1 ∧
        (∀ i : Fin 16, t.meas[b].seq[i] = sparseGet resetWord (s.bank b).copy (BANK_SEQ_INPUT b i).addr) ∧ t.meas[b].next = 1 ∧
        (∃ c, t.meas[b].cur = some c ∧ c.inj = false ∧ c.idx = 0 ∧ c.start = s.now + q.val ∧
          c.input = s.fget b (BANK_SEQ_INPUT b 0) ∧ c.unit = s.fget b (BANK_SEQ_UNIT b 0)) ∧
        t.get (BANK_SEQ_STAT_RUNNING b) = 1 ∧ t.cells = s.cells ∧ t.banks = s.banks) ∧
    (s.meas[b].passing = true → s.fget b (BANK_SEQ_CTRL_PERIOD_US b) ≠ 0 → s.meas[b].stepped = false →
      exec (.sequencePassStart b q) s = .next (s.addSat (BANK_SEQ_STAT_OVERRUN b) 1))) ∧
  (∀ (s : State) (b : Bank) (c : RunConv), s.meas[b].cur = some c → ∀ m : ConvMeas, c.skip = false → c.dirty = false →
    c.pl = false → c.input < 8 → let z := s.inScale b c.input; let code := State.rawCode z c.gain 1 m.level
    State.tripped z c.gain m = false → 0 ≤ code → code < 131072 → s.get SYS_PWR_STAT_STATE ≤ 1 → s.get (BANK_P_OFFSET_OFFSET b) = 0 →
    s.get (BANK_P_GAIN_GAIN b c.gain) = 0 → c.unit < 24 → s.get (BANK_LINK_UP b) = 1 →
    let u := unitOf b c.unit
    let x := s.units[u]
    x.isOpen = true → x.closing = none → s.nNow u + 1 < 2 ^ 28 →
      (s.winMode u = 2 → s.meas[b].pending = [] → s.meas[b].passing = true → s.meas[b].next < s.meas[b].len → s.meas[b].cal = .none →
        CompletesWith (.conversionEnd b m) s fun t =>
          t.units[u] = { x with
            sum := x.sum + code, count := x.count + 1, min := if x.count = 0 ∨ code < x.min then code else x.min
            max := if x.count = 0 ∨ x.max < code then code else x.max } ∧
          (∃ d, t.meas[b].cur = some d ∧ d.inj = false ∧ d.idx = s.meas[b].next ∧ d.start = c.start + c.ts + 3) ∧
          (∀ v, v ≠ u → t.units[v] = s.units[v]) ∧ t.regs = s.regs ∧ t.mem = s.mem) ∧
      (s.winMode u = 0 → s.get (STAT_WIN_WIN_LEN u) = s.nNow u + 1 → CompletesWith (.conversionEnd b m) s fun t =>
        ClosedInto s t u (x.count + 1) (x.sum + code) ∧ t.units[u].isOpen = false ∧ t.nNow u = 0 ∧
        ∀ v, v ≠ u → t.units[v] = s.units[v])) ∧
  (∀ (s : State) (u : Unit96), s.winMode u = 1 → s.get (STAT_WIN_WIN_LEN u) ≠ 0 → (s.cycle + 1) % s.get (STAT_WIN_WIN_LEN u) = 0 →
    s.units[u].isOpen = true → s.units[u].closing = none → s.units[u].openedAt < s.now + 40 → s.get SYS_PWR_STAT_STATE ≤ 1 →
    (s.inFlight u (s.now + 40) = false → CompletesWith (.timeWindowClose u) s fun t =>
      ClosedInto s t u s.units[u].count s.units[u].sum ∧ t.units[u].isOpen = true ∧ t.units[u].openedAt = s.now + 40 ∧ t.nNow u = 0 ∧
      ∀ v, v ≠ u → t.units[v] = s.units[v]) ∧
    (s.inFlight u (s.now + 40) = true → exec (.timeWindowClose u) s =
      .next (s.modUnit u fun x => { x with closing := some (.window, s.now + 40) }))) ∧
  (∀ (s : State) (b : Bank),
    (s.meas[b].dirtyEnd ≤ s.now + 40 → exec (.dirtyWindowEnd b) s = .next (s.modMeas b fun m => { m with dirtyEnd := 0 })) ∧
    (s.now + 40 < s.meas[b].dirtyEnd → exec (.dirtyWindowEnd b) s = .next s) ∧
    ∀ (rb : Vector Nat 8) (q : Fin 40), (s.bank b).running = true → CompletesWith (.readbackGroup b rb q) s fun t =>
      let begins := max (s.now + q.val) s.meas[b].plEnd
      (∀ k : Fin 8, isLoopFn (s.fn (chanOf b k)) = true → s.fn (chanOf b k) = FN_AO_I ∨ s.meas[b].dirtyEnd ≤ begins →
        ∃ x ∈ t.meas[b].rbRun, x.pos = k ∧ x.val = s.readback b rb[k] ∧ begins ≤ x.start ∧ x.start + 8 ≤ t.meas[b].rbEnd) ∧
      (∀ n : Chan, let run := s.meas[b].rbRun.filter (fun x => chanOf b x.pos == n)
        t.cell n = { s.cell n with
          rbSum := (s.cell n).rbSum + (run.map (·.val)).sum, rbCnt := (s.cell n).rbCnt + run.length }) ∧
      t = { s with cells := t.cells, meas := t.meas })

/-- Triggers make entries pending behind a running conversion; a calibration drains, runs, and takes effect or keeps
the old factors (R128, R129, R131, R132, R133, R134). The model's own: That the die's own events make entries due is
the model's (log entry 62). -/
def Obligations.InjectionAndCalibration : Prop :=
  ∀ (s : State) (b : Bank), (s.bank b).running = true →
    (s.meas[b].cur.isSome = true → s.meas[b].cal ≠ .draining → s.meas[b].cal ≠ .busy →
      (∀ (k : Fin 8) (q : Fin 40), (∀ d ∈ s.meas[b].due, k ∉ d.1 ∨ s.now + q.val < d.2) →
        exec (.injTrigger b k q) s = .next s) ∧
      (∀ (ks : List (Fin 8)) (due : Nat) (q : Fin 40), s.meas[b].due = [(ks, due)] → due ≤ s.now + q.val → ks.Nodup →
        (∀ k ∈ ks, k ∉ s.meas[b].pending.map (·.1)) → ∀ k ∈ ks, exec (.injTrigger b k q) s =
          .next ((s.modMeas b fun m => { m with
            due := [], pending := ks.foldl (fun p j => insertTrig (j, s.now + q.val) p) m.pending }).notePending b)) ∧
      (∀ q : Fin 40, s.fget b (BANK_INJ_TIMER_PERIOD_US b) ≠ 0 → CompletesWith (.injTimerTick b q) s fun t =>
        t.meas[b].pending = ((List.finRange 8).filter fun (k : Fin 8) =>
          decide (bits (s.injWord b k) 20 4 = 2 ∧ k ∉ s.meas[b].pending.map (·.1))).foldl
            (fun p j => insertTrig (j, s.now + q.val) p) s.meas[b].pending ∧
        t.meas[b].cur = s.meas[b].cur ∧ t.units = s.units ∧ t.cells = s.cells)) ∧
    (∀ temp : Int, let old := s.now - s.meas[b].calAt
      (s.get (BANK_CAL_CFG_AUTO_EN b) = 0 → CompletesWith (.calAutoCheck b temp) s fun t =>
        t.get (BANK_CAL_INFO_AGE_MIN b) = min (old / 240000000) 0xFFFF ∧
        Frame s t (· = (BANK_CAL_INFO_AGE_MIN b).addr) noCell noBank) ∧
      (s.get (BANK_CAL_CFG_AUTO_EN b) = 1 → s.meas[b].failedAt = none → s.get (BANK_CAL_PLAN_INTERVAL_H b) ≠ 0 →
        14400000000 * s.get (BANK_CAL_PLAN_INTERVAL_H b) ≤ old → s.meas[b].cal = .none → s.meas[b].cur.isSome = true →
        CompletesWith (.calAutoCheck b temp) s fun t => t.meas[b].cal = .queued ∧ t.get (BANK_CAL_CTRL_QUEUED b) = 1)) ∧
    (s.meas[b].cal = .draining → s.meas[b].cur = none → s.meas[b].pending = [] → CompletesWith (.calBegin b) s fun t =>
      t.meas[b] = { s.meas[b] with cal := .busy } ∧ t.get (BANK_CAL_CTRL_BUSY b) = 1 ∧ t.get (BANK_CAL_CTRL_QUEUED b) = 0 ∧
      t.get (BANK_SEQ_STAT_CAL_ACTIVE b) = 1 ∧
      (∀ u : Unit96, t.units[u].cal = (s.units[u].cal || (s.units[u].isOpen && decide (bankOfUnit u = b)))) ∧
      Frame { s with meas := t.meas, units := t.units } t
        (fun a => a = (BANK_CAL_CTRL_BUSY b).addr ∨ a = (BANK_SEQ_STAT_CAL_ACTIVE b).addr) noCell noBank) ∧
    (∀ (m : CalMeas) (q : Fin 40), s.meas[b].cal = .busy →
      let good : Prop := m.pOffset.natAbs ≤ 4096 ∧ m.cOffset.natAbs ≤ 4096 ∧ (∀ g ∈ m.pGain.toList ++ [m.cGain], g.natAbs ≤ 20000) ∧
        m.refPpm.natAbs ≤ 2000
      CompletesWith (.calEnd b m q) s fun t =>
        t.meas[b].cal = .none ∧ t.meas[b].held = [] ∧ t.meas[b].startDue = false ∧ t.get (BANK_CAL_CTRL_BUSY b) = 0 ∧
        t.get (BANK_SEQ_STAT_CAL_ACTIVE b) = 0 ∧
        (∀ k rest, s.meas[b].held = k :: rest → t.meas[b].pending = rest ∧ ∃ c, t.meas[b].cur = some c ∧ c.inj = true ∧ c.idx = k.1.val) ∧
        (good → signed 24 (t.get (BANK_P_OFFSET_OFFSET b)) = m.pOffset ∧ signed 24 (t.get (BANK_C_OFFSET_OFFSET b)) = m.cOffset ∧
          (∀ g : Fin 5, signed 24 (t.get (BANK_P_GAIN_GAIN b g)) = m.pGain[g]) ∧ signed 24 (t.get (BANK_C_GAIN_GAIN b)) = m.cGain ∧
          t.get (BANK_CAL_CTRL_CAL_CNT b) = (s.get (BANK_CAL_CTRL_CAL_CNT b) + 1) % 65536 ∧ t.get (BANK_MEAS_FLAGS_CAL_DONE b) = 1) ∧
        (¬ good → t.get (BANK_CAL_CTRL_ERR_CODE b) ≠ 0 ∧ t.get (BANK_MEAS_FLAGS_CAL_ERR b) = 1 ∧
          t.get (BANK_P_OFFSET_OFFSET b) = s.get (BANK_P_OFFSET_OFFSET b) ∧
          t.get (BANK_C_OFFSET_OFFSET b) = s.get (BANK_C_OFFSET_OFFSET b) ∧
          (∀ g : Fin 5, t.get (BANK_P_GAIN_GAIN b g) = s.get (BANK_P_GAIN_GAIN b g)) ∧
          t.get (BANK_C_GAIN_GAIN b) = s.get (BANK_C_GAIN_GAIN b) ∧
          t.get (BANK_CAL_CTRL_CAL_CNT b) = s.get (BANK_CAL_CTRL_CAL_CNT b)))

/-- VF_LOW, UV_OFF, the staggered restore, a field-bank reset and the start of a die act on just their bank as R155 to
R162 say (R155, R158, R159, R160, R162, R132). The model's own: The TOKENs are free values (log entry 3). -/
def Obligations.FieldSupplyBandsAndRestore : Prop :=
  ∀ (s : State) (b : Bank) (mv : Nat),
    let others (t : State) : Prop := (∀ n : Chan, bankOf n ≠ b → t.cell n = s.cell n) ∧ (∀ c : Bank, c ≠ b → t.bank c = s.bank c) ∧ t.mem = s.mem
    ((s.bank b).running = true →
      ((s.bank b).vfLow = false → CompletesWith (.vfLowSet b mv) s fun t =>
        (t.bank b).vfLow = true ∧ (t.bank b).vfMv = mv ∧ (t.bank b).repVfLow = (s.bank b).repVfLow + 1 ∧ others t ∧ t.regs = s.regs ∧
        ∀ n : Chan, bankOf n = b → t.cell n = if s.fn n = FN_OFF then s.cell n else { s.cell n with
          live := setBit (s.cell n).live FL_VF_LOW true, occ := setBit (s.cell n).occ FL_VF_LOW true }) ∧
      (CompletesWith (.vfLowClear b mv) s fun t =>
        (t.bank b).vfLow = false ∧ (t.bank b).vfMv = mv ∧ others t ∧ t.regs = s.regs ∧
        ∀ n : Chan, bankOf n = b → t.cell n = if s.fn n = FN_OFF then s.cell n else { s.cell n with
          live := setBit (s.cell n).live FL_VF_LOW false }) ∧
      (CompletesWith (.uvOffTrip b mv) s fun t =>
        (t.bank b).uvLatched = true ∧ (t.bank b).restoring = false ∧ (t.bank b).repUvOff = (s.bank b).repUvOff + 1 ∧ others t ∧
        t.regs = s.regs ∧ ∀ n : Chan, bankOf n = b → let c := s.cell n; let d := t.cell n
          (d.state = c.state ∧ d.cause = c.cause ∧ d.applied = c.applied ∧ d.commanded = c.commanded ∧ d.adopted = c.adopted) ∧
          (family (s.fn n) = 2 → d.uvHeld = true ∧ d.live.getLsbD FL_UV_OFF = true ∧ d.occ.getLsbD FL_UV_OFF = true ∧
            ((s.bank b).opening = false → d.on = false)) ∧
          (family (s.fn n) ≠ 2 → d.uvHeld = c.uvHeld ∧ d.on = c.on)) ∧
      ((s.bank b).configuring = false → s.fget b (BANK_SUP_CFG_UV_RESTORE b) = 0 →
        let offNow (n : Chan) : Prop := s.valueOf n (s.cell n).state (s.cell n).cause = 0
        CompletesWith (.restoreStart b mv) s fun t => (t.bank b).restoreMet = true ∧ others t ∧ t.regs = s.regs ∧
          ∀ n : Chan, bankOf n = b → family (s.fn n) = 2 → (s.cell n).uvHeld = true →
            ((t.cell n).uvHeld = false ↔ offNow n ∨
              ∀ m : Chan, bankOf m = b → m ≠ n → family (s.fn m) = 2 → (s.cell m).uvHeld = true → ¬ offNow m →
                s.fget b (WICK_CFG_PHASE n) < s.fget b (WICK_CFG_PHASE m) ∨
                  s.fget b (WICK_CFG_PHASE n) = s.fget b (WICK_CFG_PHASE m) ∧ n < m) ∧
            ((t.cell n).uvHeld = false → (t.cell n).live.getLsbD FL_UV_OFF = false)) ∧
      ((s.bank b).restoring = true → ∀ n : Chan, n ∈ s.toRelease b →
        (∀ m ∈ s.toRelease b, m ≠ n → s.fget b (WICK_CFG_PHASE n) < s.fget b (WICK_CFG_PHASE m) ∨
          s.fget b (WICK_CFG_PHASE n) = s.fget b (WICK_CFG_PHASE m) ∧ n < m) →
        CompletesWith (.staggerRelease b) s fun t => (t.cell n).uvHeld = false ∧ (t.cell n).live.getLsbD FL_UV_OFF = false ∧
          (t.cell n).applied = s.valueOf n (s.cell n).state (s.cell n).cause ∧ (∀ m : Chan, m ≠ n → t.cell m = s.cell m) ∧
          t.regs = s.regs)) ∧
    (CompletesWith (.fieldBankReset b) s fun t =>
      (∀ n : Chan, bankOf n = b → t.cell n = {}) ∧ (t.bank b).running = false ∧ (t.bank b).copy = [] ∧ (t.bank b).mode = .boot ∧
      (t.bank b).holds = false ∧ t.get (BANK_SEQ_STAT_RUNNING b) = 0 ∧ t.get (BANK_CAL_CTRL_BUSY b) = 0 ∧
      (∀ n : Chan, t.get (CELL_OUT_VALUE n) = s.get (CELL_OUT_VALUE n) ∧ t.get (CELL_COUNT_COUNT n) = s.get (CELL_COUNT_COUNT n)) ∧
      ∀ n : Chan, bankOf n ≠ b → t.cell n = s.cell n) ∧
    ((s.bank b).running = false → CompletesWith (.fieldDieRelease b mv) s fun t =>
      (t.bank b).running = true ∧ (t.bank b).fbrReport = true ∧ (t.bank b).vfMv = mv ∧ (t.bank b).mode = (s.bank b).mode ∧
      (∀ k : Fin 8, (t.cell (chanOf b k)).token = Config.token (s.free + k.val) ∧ (t.cell (chanOf b k)).adopted = false ∧
        (t.cell (chanOf b k)).uvHeld = true) ∧
      (s.meas[b].startDue = true → s.meas[b].cal = .none → t.meas[b].cal ≠ .none ∧ t.get (BANK_CAL_CTRL_QUEUED b) = 1) ∧ others t)

/-- Validation, install and each step of a transaction move it on as R192 to R203 say, and a transaction ends in DONE
with line 46 (R187, R192, R195, R196, R198, R201, R202, R203, R231). The model's own: INSTALL_DONE without an error
leaves the slot holding the image and the load DONE; with one it ends FAILED with code 0x1E, NVM.STAT.ERR and, the
model's choice (log entry 55), the slot's base as NVM.ERR_ADDR, ECC errors with line 58. -/
def Obligations.LoadsAndTransactionsRunTheirSteps : Prop :=
  (∀ (s : State) (l : Load), s.load = some l →
    let shows (t : State) (st code : Nat) : Prop := t.load = none ∧ t.get FABRIC_LOAD_STAT_STATE = st ∧
      t.get FABRIC_LOAD_STAT_CODE = code ∧ Raised s t l.seat 45 ∧ t.cells = s.cells ∧ t.txns = s.txns
    (l.phase = .validating → l.mode ≠ .reconcile → let c := (s.checkLoadImage l.bytes).code
      (c ≠ 0 → CompletesWith .validationDone s fun t => shows t 6 (c % 256) ∧ t.nv = s.nv) ∧
      (c = 0 → s.loadRules l.mode l.bytes = 0 → s.seatInTxn l.seat = false → CompletesWith .validationDone s fun t =>
        if l.mode = .apply then t.load = some { l with phase := .applying } ∧ t.get FABRIC_LOAD_STAT_STATE = 4 ∧ t.nv = s.nv ∧
          ∃ r, t.txns = s.txns.set 4 (some r) ∧ r.seat = l.seat ∧ r.phase = .checking ∧ ∀ e ∈ r.recs, s.word e.1 ≠ e.2
        else t.load = some { l with phase := .programming } ∧ t.get FABRIC_LOAD_STAT_STATE = 3 ∧
          t.nv = { s.nv with fab := s.nv.fab.set s.inactiveSlot (s.partSlot l.bytes), slotErases := t.nv.slotErases } ∧
          ∀ j : Fin 4, t.nv.slotErases[j] = s.nv.slotErases[j] + (if j.val = s.inactiveSlot.val then 1 else 0))) ∧
    (l.phase = .programming → l.mode = .install →
      (CompletesWith (.installDone 0) s fun t => shows t 5 0 ∧ t.nv = { s.nv with fab := s.nv.fab.set s.inactiveSlot l.bytes }) ∧
      ∀ e : BitVec 4, e ≠ 0 → CompletesWith (.installDone e) s fun t =>
        shows t 6 0x1E ∧ t.get NVM_STAT_ERR = e.toNat ∧ t.get NVM_ERR_ADDR_ADDR = 0x60000 * s.inactiveSlot.val ∧
        (e = 3 → t.eccLatch = true ∧ ∀ x : Seat, Raised s t x 58) ∧ (∀ x : Seat, Raised s t x 53) ∧ t.nv = s.nv)) ∧
  (∀ (s : State) (x : Seat) (w : Fin 5), w.val = x.val → ∀ r, s.txns[w] = some r → r.phase = .checking → r.seat = x →
    let c := s.checkRecs x .txn r.recs r.opened
    (c.code = 0 → CompletesWith (.txnCheckDone w) s fun t =>
      t.txns = s.txns.set w (some { r with phase := .waiting, staged := c.staged }) ∧ t.txnId = (s.txnId + 1) % 65536 ∧
      t.get (FABRIC_TXN_STAT_STATE.ofSeat x) = 3 ∧ t.get (FABRIC_TXN_STAT_ID.ofSeat x) = t.txnId ∧
      t = { s with regs := t.regs, txns := t.txns, txnId := t.txnId }) ∧
    (c.code ≠ 0 → CompletesWith (.txnCheckDone w) s fun t =>
      t.txns = s.txns.set w none ∧ t.txnOpen[x] = (s.txnOpen[x] || r.opened) ∧ t.get (FABRIC_TXN_STAT_STATE.ofSeat x) = 6 ∧
      t.get (FABRIC_TXN_STAT_CODE.ofSeat x) = c.code % 256 ∧ t.get (FABRIC_TXN_FAIL_ADDR.ofSeat x) = c.addr % 2 ^ 32 ∧
      Raised s t x 46 ∧ t = { s with
        regs := t.regs, fresh := t.fresh, dmaDue := t.dmaDue, dueLines := t.dueLines, txns := t.txns, txnOpen := t.txnOpen })) ∧
  (∀ (s : State) (w : Fin 5) (r : TxnRun), s.txns[w] = some r → r.load = none →
    let done (t : State) : Prop := t.txns = s.txns.set w none ∧ t.get (FABRIC_TXN_STAT_STATE.ofSeat r.seat) = 5 ∧
      t.get (FABRIC_TXN_STAT_CODE.ofSeat r.seat) = 0 ∧ Raised s t r.seat 46
    let logged (t : State) (r' : TxnRun) : Prop := t.txns = s.txns.set w (some r') ∧ t = { s with regs := t.regs, txns := t.txns } ∧
      (∀ i, i < 128 → t.word (bankedKey r.seat (0xE0200 + 4 * i)) = (r'.log.map (·.2)).getD i 0) ∧
      ∀ n : Chan, t.get (CELL_OUT_VALUE n) = s.get (CELL_OUT_VALUE n) ∧ t.get (CELL_CFG_FUNC n) = s.get (CELL_CFG_FUNC n)
    (r.phase = .waiting → r.staged = false → s.shadow = [] → s.shadowLate = [] → s.trimSteps = Vector.replicate 2 0 →
      ∀ (n : Chan) (v : BitVec 16), r.recs = [((CELL_OUT_VALUE n).addr, v.setWidth 32)] → family (s.lfn n) = 2 → r.aborted = false →
        CompletesWith (.txnT0 w) s fun t => done t ∧ t.get (CELL_OUT_VALUE n) = v.toNat ∧
          t.word (bankedKey r.seat 0xE0200) = 1 ∧ t.word (bankedKey r.seat 0xE0204) = 9) ∧
    (r.phase = .staging → r.holding ≠ [] →
      (∀ (b : Bank) (x : Fin 2) (q : Fin 40), (b, x) ∈ r.rising →
        (s.now + q.val < r.t0 + 7600 → CompletesWith (.txnRailUpEnd w b x q) s (fun t => logged t
          (State.logStep { r with rising := r.rising.erase (b, x) } 3 (0x80 + 2 * b.val + x.val) false (s.now + q.val)))) ∧
        (r.t0 + 7600 ≤ s.now + q.val → CompletesWith (.txnRailUpEnd w b x q) s (fun t => logged t
          (State.logStep { r with rising := r.rising.erase (b, x) } 3 (0x80 + 2 * b.val + x.val) true (r.t0 + 7600)))) ∧
        (s.now + 40 < r.t0 + 7600 → exec (.txnRailUpTimeout w b x) s = .next s) ∧
        (r.t0 + 7600 ≤ s.now + 40 → CompletesWith (.txnRailUpTimeout w b x) s fun t => logged t (State.logStep { r with rising := r.rising.erase (b, x) }
          3 (0x80 + 2 * b.val + x.val) true (r.t0 + 7600)))) ∧
      (∀ b : Bank, (r.holding.any fun n => bankOf n == b) = true → (r.rising.any fun e => e.1 == b) = false →
        CompletesWith (.txnRailSwap w b) s fun t => ∀ n ∈ r.holding, bankOf n = b →
          (t.lcell n).txn = if n ∈ r.swap then .none else .config) ∧
      (∀ (n : Chan) (q : Fin 40), n ∈ r.configuring → n ∉ r.connected → CompletesWith (.txnConnect w n q) s fun t =>
        logged t (State.logStep { r with connected := r.connected ++ [n] } 5 n.val false (s.now + q.val)))) ∧
    (r.phase = .staging → r.connected ≠ [] → CompletesWith (.txnRelease w) s fun t => ∀ n ∈ r.connected,
      (t.lcell n).txn = .none ∧ ((∀ e ∈ r.recs, e.1 ≠ (CELL_OUT_VALUE n).addr) → t.get (CELL_OUT_VALUE n) = 0)) ∧
    (r.phase = .staging → r.aborted = false → r.holding = [] → r.configuring = [] → r.rising = [] → r.losing = [] →
      (∀ (b : Bank) (q : Fin 40), r.seqBanks = [b] → r.falling ≠ [] → CompletesWith (.txnSeq w b q) s fun t =>
        logged t (State.logStep { r with seqBanks := [] } 7 (0x40 + b.val) false (s.now + q.val))) ∧
      ∀ (b : Bank) (x : Fin 2) (q : Fin 40), r.seqBanks = [] → r.falling = [(b, x)] →
        CompletesWith (.txnRailDown w b x q) s fun t => done t ∧ t.cells = s.cells ∧ t.lcells = s.lcells))

/-- A trigger takes up the chain or is counted, a beat moves one word, an error stops the chain, the last descriptor
ends it (R234, R235, R236, R237, R238, R239, R240, R241, R242, R243). The model's own: That a fault's cause and beats'
order come so is the model's (log entries 35, 36). -/
def Obligations.DmaChainsMoveTheirWords : Prop :=
  (∀ (s : State) (c : DmaCh) (ecc : Bool) (q : Fin 40), s.sleeping = true → s.dma.mpuHit = none →
    exec (.dmaTrigger c) s = .next s ∧ exec (.dmaBeat ecc q) s = .next s ∧ exec (.dmaDescriptorEnd c q) s = .next s) ∧
  ∀ (s : State) (c : DmaCh), s.inReset = false → s.sleeping = false → s.dma.mpuHit = none →
    let otherBytes (t : State) (b : Nat) : Prop := ∀ a, a < b ∨ b + 4 ≤ a → t.byteAt a = s.byteAt a
    (s.dmaDue[c] = 0 → exec (.dmaTrigger c) s = .next s) ∧
    (0 < s.dmaDue[c] → s.get (DMA_STAT_ENABLED c) = 1 →
      (s.get (DMA_STAT_BUSY c) = 1 → exec (.dmaTrigger c) s =
        .next ({ s with dmaDue := s.dmaDue.set c (s.dmaDue[c] - 1) }.addSat (DMA_STAT_MISSED c) 1)) ∧
      (∀ a, a = s.get (DMA_DESC_ADDR c) → s.get (DMA_STAT_BUSY c) = 0 → s.descOk (agentOf c) a = true →
        CompletesWith (.dmaTrigger c) s fun t =>
          takenUp s t c a ∧ t.dmaDue = s.dmaDue.set c (s.dmaDue[c] - 1) ∧
          t = { s with regs := t.regs, dma := t.dma, dmaDue := t.dmaDue } ∧
          ∀ k : DmaCh, k ≠ c → t.dma.run[k] = s.dma.run[k])) ∧
    ∀ (r : DmaRun) (q : Fin 40), s.dma.run[c] = some r →
      ((∀ k : DmaCh, k ≠ c → s.dma.run[k] = none) → r.done ≠ 0 → r.done < r.len → r.from % 4 = 0 → r.to % 4 = 0 →
        let moved (t : State) : Prop :=
          t.memWord r.to = s.memWord r.from ∧ t.dma.run[c] = some { r with done := r.done + 4 } ∧
          t.get (DMA_BYTES_DONE c) = (r.done + 4) % 2 ^ 20 ∧ otherBytes t r.to ∧
          t = { s with regs := t.regs, mem := t.mem, dma := t.dma }
        (∀ x, seatOfCh c = some x →
          let mine (a : Nat) : Prop := mailboxBase x ≤ a ∧ a + 4 ≤ mailboxBase x + 0x10000
          s.get (SEAT_CFG_FW_EN x) = 0 → mine r.from →
          (mine r.to → CompletesWith (.dmaBeat false q) s moved) ∧
          (r.opened = false → CompletesWith (.dmaBeat true q) s fun t =>
            t.dma.run[c] = none ∧ t.get (DMA_STAT_FAULT c) = 1 ∧ t.get (DMA_STAT_CAUSE c) = 6 ∧
            t.get (DMA_STAT_BUSY c) = 0 ∧ t.linePending x 57 = true ∧ t.linePending x 58 = true ∧ t.dmaDue[c] = 0 ∧
            otherBytes t (r.desc + 0x1C))) ∧
        (seatOfCh c = none → inSram r.from = true → inSram r.to = true → CompletesWith (.dmaBeat false q) s fun t =>
          if s.mpuOk (Config.dmaEngine c.val) false r.from = true ∧ s.mpuOk (Config.dmaEngine c.val) true r.to = true then moved t
          else t.inReset = true ∧ t.get SYS_RESET_CAUSE_CLASS = ResetClass.wdr.code ∧ t.get WDG_FAIL_CAUSE = 5)) ∧
      (r.done = r.len → r.done < 2 ^ 20 → r.ctrl.getLsbD 2 = false → r.ctrl.getLsbD 3 = true → r.held = [] → r.opened = false →
        r.next = 0 → descAt (agentOf c) r.desc = true → CompletesWith (.dmaDescriptorEnd c q) s fun t =>
          t.dma.run[c] = none ∧ (t.memWord (r.desc + 0x1C)).toNat = r.done + 0x1000000 ∧
          (∀ x, seatOfCh c = some x → t.linePending x 56 = true) ∧
          t.get (DMA_STAT_BUSY c) = 0 ∧ t.get (DMA_STAT_ENABLED c) = s.get (DMA_CTRL_REARM c) ∧
          t.get (DMA_STAT_RUNS c) = (s.get (DMA_STAT_RUNS c) + 1) % 65536 ∧ otherBytes t (r.desc + 0x1C) ∧
          t = { s with regs := t.regs, fresh := t.fresh, dmaDue := t.dmaDue, dueLines := t.dueLines, mem := t.mem, dma := t.dma } ∧
          t.dmaDue[c] = 0 ∧ (s.get (DMA_CTRL_TRIG c) ≠ 1 → t.get (DMA_STAT_MISSED c) = min 127 (s.get (DMA_STAT_MISSED c) + s.dmaDue[c])))

/-- Keys of the servicer arm and serve or fail the watchdog; its window, expiry, discard and the clock's events act as
R328 to R342 say (R328, R331, R332, R334, R335, R336, R337, R338, R339, R341, R342, R231). The model's own: A late
KEY_B being EXPIRED is the model's reading (log entry 28). -/
def Obligations.WatchdogAndClockEvents : Prop :=
  ∀ s : State, s.inReset = false →
    let line (t : State) (k : Nat) : Prop := ∀ x : Seat, Raised s t x k
    let resets (i : Instr) (cls : ResetClass) (sub : Nat) : Prop := CompletesWith i s fun t =>
      t.inReset = true ∧ t.get SYS_RESET_CAUSE_CLASS = cls.code ∧ t.get SYS_RESET_CAUSE_SUB = sub ∧ t.cells = s.cells ∧
      t.banks = s.banks ∧ t.pending = s.pending
    let wdr (i : Instr) (cause count : Nat) : Prop := resets i .wdr cause ∧ CompletesWith i s fun t =>
      t.get WDG_FAIL_CAUSE = cause ∧ t.get WDG_FAIL_COUNT_AT = count % 2 ^ 24
    (∀ (key : BitVec 16) (q : Fin 40), let count := min ((s.now + q.val - s.wdgStart) / 4) 0xFFFFFF
      (s.wdgServicer ≠ 4 → ∀ p : Bool, exec (.wdgKeyA (.markhor p) key q) s = .next s ∧ exec (.wdgKeyB (.markhor p) key q) s = .next s) ∧
      (exec (.wdgKeyA (.markhor false) key q) s = .next s ∧ exec (.wdgKeyB (.markhor false) key q) s = .next s) ∧
      (∀ x : Seat, exec (.wdgKeyA (.seat x) key q) s = exec (.registerWrite x 0x1000C (key.setWidth 32) q) s ∧
        exec (.wdgKeyB (.seat x) key q) s = exec (.registerWrite x 0x10010 (key.setWidth 32) q) s) ∧
      let served (t : State) : Prop := t.wdgStart = s.now + q.val ∧ t.get WDG_STAT_ARMED = 0 ∧ t.get WDG_STAT_WINDOW_OPEN = 0 ∧
        t.get WDG_STAT_SERVICES = (s.get WDG_STAT_SERVICES + 1) % 65536 ∧ t.resleep = false ∧
        if s.get WDG_STAT_BOOT_VALUES = 1 then t.wdgOpen = s.wdgOpen ∧ t.wdgTimeout = s.wdgTimeout ∧ t.wdgServicer = s.wdgServicer
        else t.wdgOpen = s.get WDG_OPEN_US ∧ t.wdgTimeout = s.get WDG_TIMEOUT_US ∧ t.wdgServicer = s.get WDG_CFG_SERVICER
      (∀ x : Seat, s.wdgServicer = x.val → s.portUp x = true → s.sleeping = false → s.firewallOk x true 0x10010 = true →
        s.modeAllows x true 0x10010 = true → s.get WDG_STAT_ARMED = 1 → s.wdgOpen ≤ count → count < s.wdgTimeout → s.resleep = false →
        CompletesWith (.registerWrite x 0x10010 0xA53C q) s served) ∧
      (s.wdgServicer = 4 →
        (s.get WDG_STAT_ARMED = 0 → exec (.wdgKeyA (.markhor true) 0x5AC3 q) s = .next (s.put WDG_STAT_ARMED 1)) ∧
        (s.get WDG_STAT_ARMED = 1 →
          exec (.wdgKeyA (.markhor true) 0x5AC3 q) s = .next ((s.addSat WDG_STRAY_CNT 1).put WDG_STAT_ARMED 1)) ∧
        (key ≠ 0x5AC3 → wdr (.wdgKeyA (.markhor true) key q) 3 count) ∧
        (s.get WDG_STAT_ARMED = 1 → s.wdgOpen ≤ count → count < s.wdgTimeout →
          CompletesWith (.wdgKeyB (.markhor true) 0xA53C q) s fun t => served t ∧
            if s.resleep = true then t.get SYS_PWR_STAT_STATE = 3 else t = { s with
              regs := t.regs, wdgStart := t.wdgStart, resleep := t.resleep, wdgOpen := t.wdgOpen, wdgTimeout := t.wdgTimeout
              wdgServicer := t.wdgServicer }) ∧
        (s.wdgTimeout ≤ count → wdr (.wdgKeyB (.markhor true) key q) 1 count) ∧
        (count < s.wdgTimeout → s.get WDG_STAT_ARMED = 0 ∨ key ≠ 0xA53C → wdr (.wdgKeyB (.markhor true) key q) 3 count) ∧
        (count < s.wdgTimeout → count < s.wdgOpen → s.get WDG_STAT_ARMED = 1 → wdr (.wdgKeyB (.markhor true) 0xA53C q) 2 count))) ∧
    (s.get WDG_STAT_WINDOW_OPEN = 0 → s.wdgOpen ≤ s.wdgCount 40 → s.get SYS_PWR_STAT_STATE ≠ 3 → CompletesWith .wdgWindowOpen s fun t =>
      t.get WDG_STAT_WINDOW_OPEN = 1 ∧ line t 54 ∧ t.resleep = false ∧ t = { s with
        regs := t.regs, fresh := t.fresh, dmaDue := t.dmaDue, resleep := t.resleep, wokeBy := t.wokeBy }) ∧
    (s.get WDG_STAT_WINDOW_OPEN = 0 → s.wdgOpen ≤ s.wdgCount 40 → s.wakes .watchdog = true → s.get SYS_PWR_STAT_STATE = 3 →
      CompletesWith .wdgWindowOpen s fun t => t.get WDG_STAT_WINDOW_OPEN = 1 ∧ (∀ x : Seat, t.linePending x 54 = true) ∧
        t.get SYS_PWR_STAT_STATE = 0 ∧ t.wokeBy = some .watchdog ∧ (t.resleep = true ↔ s.wdgServicer = 4 ∧ s.get SYS_PWR_CFG_WDG_RESLEEP = 1)) ∧
    (s.wdgTimeout ≤ s.wdgCount 40 → wdr .wdgExpired 1 s.wdgTimeout) ∧
    (s.get WDG_STAT_ARMED = 1 →
      exec .wdgArmDiscard s = .next ((s.put WDG_STAT_ARMED 0).addSat WDG_STRAY_CNT 1)) ∧
    (s.get CLKMON_STAT_SOURCE = 0 → s.ring.bypassOpen = false → ∀ i, i = Instr.crystalStopped ∨ i = Instr.crystalOffFrequency →
      CompletesWith i s fun t => t.get CLKMON_STAT_SOURCE = 1 ∧ t.get CLKMON_STAT_XTAL_OK = 0 ∧
        t.get CLKMON_STAT_SWITCHES = min 255 (s.get CLKMON_STAT_SWITCHES + 1) ∧ line t 55 ∧
        t = { s with regs := t.regs, fresh := t.fresh, dmaDue := t.dmaDue, dueLines := t.dueLines, xtalSince := none }) ∧
    resets .mainClockStopped .cmr 1 ∧ resets .pllUnlock .cmr 2 ∧
    (CompletesWith .monitorRcStopped s fun t => t.get CLKMON_STAT_MON_FAIL = 1 ∧ line t 55 ∧
      t = { s with regs := t.regs, fresh := t.fresh, dmaDue := t.dmaDue, dueLines := t.dueLines }) ∧
    (s.restoreReq = true → s.get CLKMON_STAT_SOURCE = 1 → CompletesWith .clockRestoreSwitch s fun t =>
      t.get CLKMON_STAT_SOURCE = 0 ∧ line t 55 ∧ t = { s with regs := t.regs, fresh := t.fresh, dmaDue := t.dmaDue, dueLines := t.dueLines, restoreReq := false }) ∧
    (s.clockStep = true → s.get CLKMON_STAT_SOURCE = 1 → exec .xtalSwitch s =
      .next ((({ s with xtalSince := some s.now }).put CLKMON_STAT_XTAL_OK 1).put CLKMON_STAT_SOURCE 0)) ∧
    (∀ (e : Fin 11) (kind : BitVec 2) (priv : Bool) (a : Word), wdr (.mpuFault e kind priv a) 5 (s.wdgCount 0)) ∧
    wdr .lockstepDisagree 6 (s.wdgCount 0) ∧ wdr (.eccUncorrectable true) 7 (s.wdgCount 0) ∧
    CompletesWith (.eccUncorrectable false) s fun t => t.eccLatch = true ∧ line t 58 ∧
      t = { s with regs := t.regs, fresh := t.fresh, dmaDue := t.dmaDue, dueLines := t.dueLines, eccLatch := true }

/-- Resets stop the logic side and leave the field dies; a boot ends in a checked image or in VOTIVE; BOOT_OK, WAKE
and the rest follow (R12, R343, R347, R349, R350, R353, R356, R359, R362, R363, R388, R427). The model's own: That
boot is one step at RESET_RELEASE, and that mailbox bytes lost in a reset read 0, is the model's (log entries 8, 7).
-/
def Obligations.ResetsBootAndWake : Prop :=
  (∀ s : State, s.inReset = false →
    let resets (i : Instr) (cls : ResetClass) (lost : Bool) : Prop := CompletesWith i s fun t =>
      t.inReset = true ∧ t.get SYS_RESET_CAUSE_CLASS = cls.code ∧ t.get SYS_RESET_CAUSE_SUB = 0 ∧
      t.get SYS_RESET_CAUSE_AON_LOST = lost.toNat ∧ t.mode = .boot ∧ t.fabLoaded = false ∧ t.mem = [] ∧ t.shadow = [] ∧ t.commits = [] ∧
      t.load = none ∧ t.ring = {} ∧ t.pair = {} ∧ t.cells = s.cells ∧ t.banks = s.banks ∧ t.now = s.now ∧ t.pending = s.pending ∧
      (lost = false → t.get SYS_RESET_HIST_CLASS_0 = s.get SYS_RESET_CAUSE_CLASS)
    (∀ lost : Bool, resets (.powerOnReset lost) .por lost ∧
      CompletesWith (.powerOnReset lost) s fun t => ∀ b : Bank, (t.lbank b).porMarker = true) ∧
    resets .brownOutReset .bor false ∧ resets .pinReset .pin false) ∧
  (∀ (s : State) (us : Nat), s.graceWait = true → exec (.nvGraceEnd us) s = .next (({ s with graceWait := false }.put
    SYS_RESET_CAUSE_GRACE 1).put SYS_RESET_CAUSE_GRACE_US (min us 30000))) ∧
  (∀ (s : State) (sel : Bool) (bad : Option (BitVec 8)) (prio : Fin 8), s.inReset = true → s.graceWait = false → s.mode = .boot →
    s.fabLoaded = false → CompletesWith (.resetRelease sel bad prio) s fun t =>
      t.inReset = false ∧ t.get SYS_BOOT_STAT_BOOTS = (s.get SYS_BOOT_STAT_BOOTS + 1) % 65536 ∧ t.get SYS_BOOT_STAT_BOOT_SEL = sel.toNat ∧
      t.cells = s.cells ∧
      (t.mode = .votive ∧ 1 ≤ t.get SYS_VOTIVE_CAUSE_CAUSE ∧ t.get SYS_VOTIVE_CAUSE_CAUSE ≤ 7 ∧ t.fabLoaded = false ∨
        t.mode = .boot ∧ t.fabLoaded = true ∧ bad = none ∧ sel = false ∧ ∃ k : Fin 2, t.get FABRIC_STAT_ACTIVE_SLOT = k.val ∧
          t.get (FABRIC_SLOT_VALID k) = 1 ∧ t.get (FABRIC_SLOT_CODE k) = 0) ∧
      (sel = true → s.nv.identBad = false → s.nv.hashBad = Vector.replicate 4 false →
        t.mode = .votive ∧ t.get SYS_VOTIVE_CAUSE_CAUSE = 2 ∧ t.get SYS_VOTIVE_CAUSE_DETAIL = 0)) ∧
  (∀ s : State, s.inReset = false →
    (∀ ms : Nat, s.mode = .boot → s.fabLoaded = true → CompletesWith (.bootOk ms) s fun t =>
      t.mode = .startup ∧ t.get SYS_BOOT_OK_OK = 1 ∧ t.get SYS_BOOT_OK_BOOT_MS = min ms 0xFFFF ∧ t.get SYS_BOOT_STAT_FAIL_CNT = 0 ∧
      t.get WDG_STAT_BOOT_VALUES = 0 ∧ t.wdgStart = s.now ∧ t.wdgOpen = s.get WDG_OPEN_US ∧ t.wdgTimeout = s.get WDG_TIMEOUT_US ∧
      t.wdgServicer = s.get WDG_CFG_SERVICER ∧ t.seatAge = Vector.replicate 4 0 ∧ t.candle.fold.isSome = true ∧
      (∀ x : Seat, Raised s t x 49) ∧ t.cells = s.cells) ∧
    (s.mode = .boot → s.boundaryTime < s.releasedAt + 8000000 → exec .bootDeadline s = .next s) ∧
    (s.mode = .boot → s.releasedAt + 8000000 ≤ s.boundaryTime → CompletesWith .bootDeadline s fun t =>
      t.inReset = true ∧ t.get SYS_RESET_CAUSE_CLASS = ResetClass.wdr.code ∧ t.get WDG_FAIL_CAUSE = 4 ∧ t.cells = s.cells) ∧
    (∀ src : WakeSrc, s.get SYS_PWR_STAT_STATE = 3 → s.wakes src = true → CompletesWith (.wake src) s fun t =>
      t.get SYS_PWR_STAT_STATE = 0 ∧ t.get SYS_PWR_STAT_CHANGING = 0 ∧
      t.get SYS_PWR_STAT_WAKE_SRC = 2 ^ src.bit + 64 * s.get SYS_PWR_STAT_CHANGING ∧ t.resleep = false ∧
      t.get SYS_PWR_STAT_WAKE_FRAMES = (s.get SYS_PWR_STAT_WAKE_FRAMES + (if src = .spi ∨ src = .mgmt then 1 else 0)) % 65536 ∧
      (∀ e ∈ s.dueLines, t.linePending e.2 e.1 = true) ∧
      t = { s with
        regs := t.regs, resleep := false, wokeBy := some src, dueLines := [], fresh := t.fresh, dmaDue := t.dmaDue } ∧
      (s.dueLines = [] → t.fresh = s.fresh ∧ t.dmaDue = s.dmaDue ∧ ∀ a, a ≠ 0x304 → t.word a = s.word a)) ∧
    (∀ src : WakeSrc, s.get SYS_PWR_STAT_STATE ≠ 3 → s.wakes src = true →
      exec (.wake src) s = .next { s with resleep := false, wokeBy := some src }) ∧
    (s.debugPermitted = true → exec .jtagReset s = .next { s with commits := s.commits ++ [.hfr] }) ∧
    (s.get SYS_CW_STORE_BUSY = 1 →
      (CompletesWith (.cwStoreDone 0) s fun t => t.get SYS_CW_STORE_BUSY = 0 ∧ t.get SYS_CW_STORE_DONE = 1 ∧
        (∀ x : Seat, Raised s t x 53) ∧
        t.nv = { s.nv with words := t.nv.words, wordSector := t.nv.wordSector, spares := t.nv.spares, log := t.nv.log, cw := some {
          clkMode := s.get SYS_CW_CLK_CLK_MODE, xdrive := s.get SYS_CW_CLK_XDRIVE, seats := s.get SYS_CW_BOOT_VOTIVE_SEATS
          autoLock := s.get SYS_CW_BOOT_AUTO_LOCK } }) ∧
      ∀ e : BitVec 4, e ≠ 0 → CompletesWith (.cwStoreDone e) s fun t => t.get SYS_CW_STORE_BUSY = 0 ∧ t.get SYS_CW_STORE_ERR = 1 ∧
        t.get SYS_CW_STORE_ERR_CODE = e.toNat ∧ t.nv.cw = s.nv.cw ∧
        (e ≠ 1 → e ≠ 2 → t.get NVM_STAT_ERR = e.toNat ∧ t.nv = s.nv))) ∧
  ∀ (s : State) (v : Bool), exec (.vddioChange v) s = .next { s with vddio := v }

/-- A step of the ring: only the ring's part, its registers, W1C bits with their lines, and memory have changed. -/
def Sys2Proof.Claims.RingStep (s t : State) : Prop :=
  t = { s with regs := t.regs, fresh := t.fresh, dmaDue := t.dmaDue, dueLines := t.dueLines, ring := t.ring, mem := t.mem } ∧ ∀ a, ¬ RingReg a → t.word a = s.word a


/-- A sending head starts its cycle, publishes each sector fresh or stale, answers JOINs and ends commands as chapter
08 says (R260, R263, R264, R266, R269, R270, R274, R281, R292, R296, R228). The model's own: The ends of a command and
the copy's control words are the model's reading (log entries 38, 58). -/
def Obligations.HeadRunsItsCycle : Prop :=
  (∀ (s : State) (loopNs : BitVec 32),
    (s.sends = false → exec (.cycleStart loopNs) s = .next s) ∧
    (s.sends = true → (∀ e ∈ s.ring.pend, 0x100000 ≤ e.1 ∧ e.1 < 0x110000) → CompletesWith (.cycleStart loopNs) s fun t =>
      let c := if s.ring.started then s.ring.cyc else 0
      t.ring.started = true ∧ t.ring.cyc = (c + 1) % 4294967296 ∧ t.ring.pend = [] ∧ t.ring.judged = [] ∧ t.ring.identReq = [] ∧
      t.ring.out = t.used ∧ t.ring.short = false ∧ t.ring.cycT = s.get RING_CYCLE_CYCLE_T ∧
      (∃ f, t.ring.sent = some f ∧ f.cycleNo = c ∧ f.flags % 2 = 1 ∧ f.cycleT = s.get RING_CYCLE_CYCLE_T ∧ f.loopNs = loopNs.toNat ∧
        f.claim = s.get RING_CLAIM_CLAIM ∧ f.sectors.map (·.addr) = t.used) ∧
      (s.ring.dualDue = true → s.ring.unwrapAt = none → t.get RING_STAT_DUAL = 1) ∧
      (s.get RING_STAT_DUAL = 0 → s.ring.dualDue = false → ∃ g, t.ring.sentA = some g ∧ g.ftype = 2 ∧ g.cycleNo = c ∧ g.sectors = []) ∧
      t.get RING_LOOP_NS = loopNs.toNat ∧ t.get RING_STAT_STATE ≠ 0 ∧
      t.get RING_T_FRAME_NS = frameNs (t.used.map (fun k => t.get (RNT_CTRL_NPTS k))) (s.get RING_CFG_SVC_PAY) % 4294967296 ∧
      (∀ e, s.ring.pend = [e] → e.1 % 32 ≠ 0x14 → t.word e.1 = e.2) ∧
      (∀ k wrong first, s.ring.pend = [] → s.ring.judged = [(k, wrong, first)] →
        t.get (RNT_STATUS_NSTATE k) = if wrong then 4 else 3) ∧
      RingStep s t ∧ t.mem = s.mem)) ∧
  (∀ (s : State) (k : Fin 2048) (i : SectorIn) (c : SectorCopy), s.inReset = false → s.isHead = true → k.val ∈ s.ring.out → s.get (RNT_CTRL_NPTS k) ≤ 64 →
    i.chosen = some c → (c.processed = true ∨ s.ring.sent.any (fun f => natBit f.flags 2) = false) →
    let b := sectorBase k
    let processed := c.crcOk && natBit c.nsw 0
    let fresh := processed && ! natBit c.nsw 6
    let no := (s.ring.cyc + 4294967295) % 4294967296
    let published (t : State) (stale : Bool) : Prop :=
      (t.memWord b).toNat = nextGen (s.memWord b).toNat ∧ (t.memWord (b + 4)).toNat = no ∧ (t.memWord (b + 0x10)).getLsbD 3 = stale ∧
      t.ring.out = s.ring.out.erase k ∧ (s.ring.out = [k.val] → t.get RING_CYCLE_NO_CYCLE_NO = no) ∧
      (∀ a, a < b ∨ b + 0x400 ≤ a → t.byteAt a = s.byteAt a) ∧ t.cells = s.cells ∧ t.banks = s.banks ∧ t.pending = s.pending
    let unseen (t : State) : Prop :=
      t.missedOf k = min 3 (s.missedOf k + 1) ∧ (2 ≤ s.missedOf k → s.get (RNT_STATUS_NSTATE k) = 3 ∨ s.get (RNT_STATUS_NSTATE k) = 4 →
        t.get (RNT_STATUS_NSTATE k) = 5 ∧ (t.word RING_EVT_EVT.addr).getLsbD 1 = true)
    (CompletesWith (.sectorPublish k i) s fun t => published t (! fresh || natBit c.nsw 5) ∧
      (∀ p : Fin 64, p.val < s.get (RNT_CTRL_NPTS k) → t.memWord (b + 0x104 + 12 * p) =
        if fresh then BitVec.ofNat 32 (c.slot p) else s.memWord (b + 0x104 + 12 * p)) ∧
      (processed = true → t.missedOf k = 0 ∧ t.get (RNT_STATUS_BYPASSED k) = 0) ∧ (processed = false → unseen t) ∧
      (natBit c.nsw 4 = false → RingStep s t)) ∧
    (CompletesWith (.sectorLate k) s fun t => published t true ∧ unseen t ∧ t.get (RNT_STATUS_BYPASSED k) = 0 ∧
      (∀ p : Fin 64, t.memWord (b + 0x104 + 12 * p) = s.memWord (b + 0x104 + 12 * p)) ∧
      (s.ring.out = [k.val] → (t.word RING_EVT_EVT.addr).getLsbD 6 = true) ∧ RingStep s t)) ∧
  (∀ (s : State) (uid : BitVec 64), s.sends = true →
    let bound (k : Nat) : Prop := s.get (RNT_UID_LO_UID_LO k) + 4294967296 * s.get (RNT_UID_HI_UID_HI k) = uid.toNat
    let free (k : Nat) : Prop := s.get (RNT_CTRL_BIND_ANY k) = 1 ∧ (s.get (RNT_STATUS_NSTATE k) = 1 ∨ s.get (RNT_STATUS_NSTATE k) = 5)
    let answers (m : SvcMsg) (P : State → Prop) : Prop := CompletesWith (.joinAnswer uid) s fun t =>
      t.ring = { s.ring with msgs := s.ring.msgs ++ [m] } ∧ P t ∧ RingStep s t ∧ t.mem = s.mem
    let assigns (k : Nat) : SvcMsg := { stype := 2, addr := 0x7FF, payload := leBytes 8 uid.toNat ++ leBytes 2 k }
    let rejects : SvcMsg := { stype := 3, addr := 0x7FF, payload := leBytes 8 uid.toNat }
    (∀ k ∈ s.used, bound k → (∀ j ∈ s.used, j < k → ¬ bound j) →
      if s.get (RNT_STATUS_NSTATE k) = 2 ∨ s.get (RNT_STATUS_NSTATE k) = 3 ∨ s.get (RNT_STATUS_NSTATE k) = 4 then
        answers rejects fun t => (t.word RING_EVT_EVT.addr).getLsbD 10 = true
      else answers (assigns k) fun t => t.regs = s.regs) ∧
    ((∀ k ∈ s.used, ¬ bound k) →
      (∀ k ∈ s.used, free k → (∀ j ∈ s.used, j < k → ¬ free j) → answers (assigns k) fun t =>
        t.get (RNT_UID_LO_UID_LO k) = uid.toNat % 4294967296 ∧ t.get (RNT_UID_HI_UID_HI k) = uid.toNat / 4294967296 ∧
        t.get (RNT_CTRL_BIND_ANY k) = 0) ∧
      ((∀ k ∈ s.used, ¬ free k) → answers rejects fun t => (t.word RING_EVT_EVT.addr).getLsbD 9 = true))) ∧
  (∀ (s : State) (x : Seat) (c : RCmd), s.inReset = false → s.ring.cmds[x] = some c →
    let ended (t : State) (st code : Nat) : Prop :=
      t.ring = { s.ring with cmds := s.ring.cmds.set x none } ∧ t.get (RING_CMD_STAT_STATE.ofSeat x) = st ∧
      t.get (RING_CMD_STAT_CODE.ofSeat x) = code ∧ (t.word RING_EVT_EVT.addr).getLsbD 11 = true ∧ RingStep s t
    (s.get (RING_CMD_TMO_CYCLES.ofSeat x) ≤ c.cycles → CompletesWith (.cmdTimeout x) s fun t => ended t 4 2 ∧ t.mem = s.mem) ∧
    (c.cycles < s.get (RING_CMD_TMO_CYCLES.ofSeat x) → exec (.cmdTimeout x) s = .next s) ∧
    ∀ (frags : List SvcMsg) (rsp : List Byte), State.reassemble c.node c.tag 0 frags = some rsp → c.req.length ≤ c.sent →
      let o := s.get (RING_CMD_RSP_OFS.ofSeat x); let m := 0x1400000 + 0x10000 * x.val + o
      CompletesWith (.cmdDone x frags) s fun t => ended t 3 0 ∧ t.get (RING_CMD_RSP_LEN.ofSeat x) = min rsp.length 2047 ∧
        ∀ a, t.byteAt a = if m ≤ a ∧ a < 0x1410000 + 0x10000 * x.val then rsp.getD (a - m) (s.byteAt a) else s.byteAt a) ∧
  ∀ (s : State) (c : BitVec 32) (tSof : Nat) (ctls : List (Nat × Nat)), s.inReset = false → s.get RING_CFG_COMPAT = 1 →
    s.get PAIR_STAT_ROLE = 2 → s.get PAIR_STAT_READY = 1 → s.isHead = true → s.ring.seen = some (c.toNat, tSof, ctls) →
    CompletesWith (.secondCopyStart c) s fun t => t = { s with ring := { s.ring with sent := t.ring.sent } } ∧
      ∃ f, t.ring.sent = some f ∧ f.cycleNo = c.toNat ∧ f.flags = 25 ∧ f.claim = s.get PAIR_PARTNER_CLAIM_CLAIM ∧
        f.tSof = tSof + 125 * s.get RING_CYCLE_CYCLE_T / 8 ∧ f.sectors.map (·.addr) = ctls.map (·.1)

/-- A node's sector, outputs, address and ports act as chapter 08 says for every frame and event of the ring (R250,
R251, R255, R256, R259, R262, R270, R275, R276, R279, R283, R288). The model's own: PORT_LOCK, PORT_LOCK_LOST,
PORT_DOWN, PORT_REDRIVE, UNWRAP_FORWARD and BYPASS_OPEN change their port or the bypass, a lock with the EQ adapted
from Candle's EQ_START, the two that end a lock with the code-group errors found, counted in SYM_ERR and for Candle's
hour (that these come with the event is the model's, log entry 39). -/
def Obligations.NodeTakesPartInTheRing : Prop :=
  (∀ (s : State) (f : NodeFrame), s.nodeRuns = true →
    let straight : Prop := s.get (RING_PORT_STAT_WRAPPING (1 - f.port)) = 0
    (f.hcrcOk = false → CompletesWith (.nodeSectorProcess f) s fun t =>
      t.get (RING_CRC_ERR_HDR f.port) = min 65535 (s.get (RING_CRC_ERR_HDR f.port) + 1) ∧
      (straight → t.ring.fwd = some (1 - f.port, f.bytes)) ∧ t = { s with regs := t.regs, ring := { s.ring with fwd := t.ring.fwd } } ∧
      ∀ a, a ≠ (RING_CRC_ERR_HDR f.port).addr → t.word a = s.word a) ∧
    (∀ sec, f.sectorFor (s.get RING_NODE_ADDR) = some sec → f.hcrcOk = true → f.ftype = 1 → natBit f.flags 0 = true →
      s.ring.lastCyc ≠ some f.cycleNo → s.ring.linkAt = none → crc16Ends sec = true → crc32Ends f.body.2 = true →
      let hctl := leField sec 2 2
      let low := decide (f.claim < s.get RING_CLAIM_CLAIM)
      let runs := decide (s.mode = .startup ∨ s.mode = .run ∨ s.mode = .test ∨ s.mode = .recovery)
      let acc := natBit hctl 1 && ! natBit hctl 2 && natBit hctl 3 && ! low && runs && s.ring.lastAcc != some f.cycleNo
      let e : Int := (f.tSof : Int) + signed 32 (s.get (if f.port = 0 then RING_DELAY_P_NS else RING_DELAY_S_NS)) -
        s.devTimeNs f.arrNs.val
      let svc := svcOf f.body.2
      let tc := if natBit f.flags 4 then (f.tSof + 2 ^ 64 - 125 * f.cycleT / 8) % 2 ^ 64 else f.tSof
      CompletesWith (.nodeSectorProcess f) s fun t =>
        t.ring.lastCyc = some f.cycleNo ∧ t.get RING_CLAIM_CLAIM = max (s.get RING_CLAIM_CLAIM) f.claim ∧
        t.get RING_LOOP_NS = f.loopNs ∧ t.get RING_STAT_STATE = (if natBit hctl 1 then 7 else 6) ∧
        (natBit hctl 1 = true → t.get RING_NODE_MISMATCH = (natBit hctl 2).toNat) ∧
        natBit t.ring.nsw 0 = true ∧ natBit t.ring.nsw 1 = acc ∧ natBit t.ring.nsw 4 = low ∧
        t.ring.accepted = (if acc then s.ring.accepted ++ [(4 * tc + 125 * f.cycleT, sectorSlots sec)] else s.ring.accepted) ∧
        (acc = true → t.seatFresh[(3 : Seat)] = true) ∧
        (straight → ∃ q svcBytes, t.ring.fwd = some (1 - f.port, f.bytes.take 32 ++ ((f.body.1.map fun x =>
          if sectorAddr x = s.get RING_NODE_ADDR then State.nodeSectorBytes x t.ring.nsw q (f.cycleNo % 8) t.ring.inSlots else x).flatten ++
          svcBytes))) ∧
        (svc.stype = 0 → ∀ m rest, s.ring.upQ = m :: rest → t.ring.svcOut = m ∧ t.ring.upQ = rest) ∧
        (svc.stype ≠ 0 → s.svcMine svc = false → t.ring.svcOut = svc ∧ t.ring.upQ = s.ring.upQ) ∧
        (e.natAbs ≤ 1000 → t.get RING_STAT_UNSYNC = 0) ∧ (1000000 < e.natAbs → t.get RING_STAT_UNSYNC = 1) ∧
        t = { s with
          regs := t.regs, fresh := t.fresh, dmaDue := t.dmaDue, dueLines := t.dueLines, ring := t.ring, lcells := t.lcells, seatFresh := t.seatFresh } ∧
        ∀ a, ¬ RingReg a → (∀ n : Chan, a ≠ (CELL_OUT_VALUE n).addr) → t.word a = s.word a)) ∧
  (∀ s : State, s.inReset = false → s.ring.adoptDue = false → ∀ e rest, s.ring.accepted = e :: rest →
    (4 * s.devTime s.boundaryTime < e.1 → exec .nodeOutApply s = .next s) ∧
    (e.1 ≤ 4 * s.devTime s.boundaryTime → CompletesWith .nodeOutApply s fun t =>
      t.ring = { s.ring with accepted := rest } ∧
      (∀ n : Chan, let v := BitVec.ofNat 32 (e.2.getD n.val 0)
        t.shadow.find? (fun x => x.1 == (CELL_OUT_VALUE n).addr) =
          if s.outCheck 3 n v = 0 then some ((CELL_OUT_VALUE n).addr, v) else s.shadow.find? (fun x => x.1 == (CELL_OUT_VALUE n).addr)) ∧
      t.get RING_NODE_OUT_REFUSED = min 65535 (s.get RING_NODE_OUT_REFUSED +
        (allChans.filter (fun n => s.outCheck 3 n (BitVec.ofNat 32 (e.2.getD n.val 0)) != 0)).length) ∧
      t = { s with regs := t.regs, shadow := t.shadow, ring := t.ring } ∧ ∀ a, a ≠ RING_NODE_ADDR.addr → t.word a = s.word a)) ∧
  (∀ s : State,
    let joins (i : Instr) : Prop := CompletesWith i s fun t => t = { s with ring := { s.ring with
      joinSent := true, joinCyc := s.ring.seenCyc, svcOut := { stype := 1, addr := 0x7FF, payload := s.identityBytes }, fwd := t.ring.fwd } }
    (s.mayJoin = false → exec .joinSend s = .next s ∧ exec .joinRetry s = .next s) ∧
    (s.mayJoin = true → (s.ring.joinSent = false → joins .joinSend) ∧
      (s.ring.joinSent = true → 64 ≤ s.joinAge → joins .joinRetry) ∧ (s.joinAge < 64 → exec .joinRetry s = .next s)) ∧
    exec .rejectRetry s = .next { s with ring := { s.ring with rejected := false } } ∧
    (∀ (uid : BitVec 64) (addr : BitVec 16), uid.toNat ≠ s.uid →
      exec (.assignReceived uid addr) s = .next s ∧ exec (.rejectReceived uid) s = .next s) ∧
    (s.inReset = false → s.isNode = true →
      let only (t : State) (as : List Nat) : Prop := t = { s with regs := t.regs, ring := t.ring } ∧ ∀ a, a ∉ as → t.word a = s.word a
      (s.ring.bypassOpen = true → ∀ uid : BitVec 64, uid.toNat = s.uid →
        (∀ addr : BitVec 16, CompletesWith (.assignReceived uid addr) s fun t => t.get RING_NODE_ADDR = addr.toNat % 2048 ∧
          t.get RING_STAT_STATE = 6 ∧ t.ring = { s.ring with joinSent := false } ∧ only t [0x8004C, 0x8000C]) ∧
        exec (.rejectReceived uid) s = .next { s with ring := { s.ring with joinSent := false, rejected := true } }) ∧
      (s.nodeRuns = true → CompletesWith .leaveReceived s fun t => t.get RING_NODE_ADDR = 0 ∧ t.get RING_STAT_STATE = 5 ∧
        t.ring = { s.ring with accepted := [], joinSent := false } ∧ only t [0x8004C, 0x8000C]) ∧
      (s.boundaryTime < s.ring.sofAt + 40000000 → exec .holdoverUnsync s = .next s) ∧
      (s.ring.sofAt + 40000000 ≤ s.boundaryTime → CompletesWith .holdoverUnsync s fun t => t.get RING_STAT_UNSYNC = 1 ∧ t.ring = s.ring ∧
        (s.get RING_STAT_UNSYNC = 0 → (t.word RING_EVT_EVT.addr).getLsbD 8 = true) ∧
        t = { s with regs := t.regs, fresh := t.fresh, dmaDue := t.dmaDue, dueLines := t.dueLines } ∧ ∀ a, ¬ RingReg a → t.word a = s.word a))) ∧
  ∀ s : State, s.ringOn = true →
    (∀ (x : Port), let base := 0x80080 + 0x20 * x.val
      let only (t : State) (as : List Nat) : Prop := t = { s with regs := t.regs } ∧ ∀ a, a ∉ as → t.word a = s.word a
      (∀ (adapt : Int) (eye : BitVec 8) (inv : Bool), CompletesWith (.portLock x adapt eye inv) s fun t =>
        t.get (RING_PORT_STAT_LOCK x) = 1 ∧ t.get (RING_PORT_STAT_UP x) = 1 ∧ t.get (RING_PORT_STAT_POL_INV x) = inv.toNat ∧
        (t.get (RING_PORT_STAT_EQ x) : Int) = max 0 (min 255 ((s.get (CANDLE_RING_EQ_START x) : Int) + adapt)) ∧ t.get (RING_PORT_STAT_EYE x) = eye.toNat ∧
        t.get (RING_PORT_STAT_WRAPPING x) = s.get (RING_PORT_STAT_WRAPPING x) ∧ t.get (RING_PORT_STAT_TX_OFF x) = s.get (RING_PORT_STAT_TX_OFF x) ∧
        only t [base]) ∧
      (∀ errs : BitVec 32,
        let counted (t : State) (as : List Nat) : Prop := t.get (RING_SYM_ERR_CNT x) = (s.get (RING_SYM_ERR_CNT x) + errs.toNat) % 2 ^ 32 ∧
          t.candle = { s.candle with hourErrs := s.candle.hourErrs.set x (s.candle.hourErrs[x] + errs.toNat) } ∧
          t = { s with regs := t.regs, candle := t.candle } ∧ ∀ a, a ∉ as → t.word a = s.word a
        CompletesWith (.portLockLost ⟨x, errs⟩) s (fun t => t.get (RING_PORT_STAT_LOCK x) = 0 ∧
          t.get (RING_PORT_STAT_UP x) = s.get (RING_PORT_STAT_UP x) ∧ counted t [base, base + 4]) ∧
        (s.get (RING_PORT_STAT_UP x) = 1 → CompletesWith (.portDown ⟨x, errs⟩) s fun t =>
          t.get (RING_PORT_STAT_UP x) = 0 ∧ t.get (RING_PORT_STAT_TX_OFF x) = 1 ∧ t.get (RING_PORT_STAT_WRAPPING x) = s.ring.bypassOpen.toNat ∧
          t.get (RING_PORT_STAT_LOCK x) = s.get (RING_PORT_STAT_LOCK x) ∧
          t.get (RING_DOWN_CNT x) = min 65535 (s.get (RING_DOWN_CNT x) + 1) ∧ counted t [base, base + 4, base + 0xC]) ∧
        (s.get (RING_PORT_STAT_UP x) = 0 → exec (.portDown ⟨x, errs⟩) s = .next s)) ∧
      exec (.portRedrive x) s = .next (if s.get (RING_PORT_STAT_LOCK x) = 1 then s.put (RING_PORT_STAT_TX_OFF x) 0 else s)) ∧
    (∀ c, s.ring.unwrapAt = some c → CompletesWith .unwrapForward s fun t =>
      (∀ x : Port, t.get (RING_PORT_STAT_WRAPPING x) = if s.get (RING_PORT_STAT_UP x) = 1 then 0 else s.get (RING_PORT_STAT_WRAPPING x)) ∧
      t.ring = { s.ring with unwrapAt := if s.isHead then some c else none } ∧ t = { s with regs := t.regs, ring := t.ring } ∧
      ∀ a, a ≠ 0x80080 → a ≠ 0x800A0 → t.word a = s.word a) ∧
    (s.mode ≠ .boot → s.get (RING_PORT_STAT_LOCK 0) = 1 → s.get (RING_PORT_STAT_LOCK 1) = 1 → s.get CLKMON_STAT_SOURCE = 0 →
      s.ring.bypassOpen = false → CompletesWith .bypassOpen s fun t => t.ring = { s.ring with bypassOpen := true } ∧
        t.get RING_STAT_STATE = (if s.isNode then (if s.get RING_NODE_ADDR = 0 then 5 else 6) else s.get RING_STAT_STATE) ∧
        t = { s with regs := t.regs, ring := t.ring } ∧ ∀ a, a ≠ 0x8000C → t.word a = s.word a)

/-- A paired bank's die releases when due, takes a released line, stops holding when the partner took or nobody did,
and cold-takes (R302, R303, R305, R306, R307, R308, R317, R309). The model's own: Who takes a cold bank when, and what
the line reads from heartbeats, is the model's (log entries 41, 63). -/
def Obligations.InterlockTakesAndReleases : Prop :=
  (∀ (s : State) (b : Bank), s.interlocks b = true →
    let k := s.bank b
    let same (t : State) : Prop :=
      (∀ n : Chan, let c := s.cell n; let d := t.cell n
        d.state = c.state ∧ d.cause = c.cause ∧ d.adopted = c.adopted ∧ d.commanded = c.commanded ∧ d.applied = c.applied ∧
        d.count = c.count ∧ d.tWire = c.tWire ∧ (bankOf n ≠ b → d = c)) ∧
      (∀ c : Bank, c ≠ b → let x := s.bank c; let y := t.bank c; y.holds = x.holds ∧ y.releasing = x.releasing ∧
        (y.clamp = x.clamp → y.line = x.line)) ∧
      t = { s with regs := t.regs, fresh := t.fresh, dmaDue := t.dmaDue, dueLines := t.dueLines, cells := t.cells, banks := t.banks, pair := t.pair, seatAge := t.seatAge }
    let ended (t : State) : Prop := (k.lost = false → same t) ∧
      (∀ n : Chan, let c := s.cell n; let d := t.cell n
        d.adopted = c.adopted ∧ d.count = c.count ∧ d.tWire = c.tWire ∧ (bankOf n ≠ b → d = c) ∧
        (k.lost = true → bankOf n = b → family (s.fn n) = 2 → k.configuring = false → c.latched = false → c.stalled = false →
          c.state = .hold → c.cause = .pairHold → d.state = .safe ∧ d.cause = .pairRelease)) ∧
      (∀ c : Bank, c ≠ b → let x := s.bank c; let y := t.bank c; y.holds = x.holds ∧ y.releasing = x.releasing ∧
        (y.clamp = x.clamp → y.line = x.line)) ∧
      t = { s with regs := t.regs, fresh := t.fresh, dmaDue := t.dmaDue, dueLines := t.dueLines, cells := t.cells, banks := t.banks, pair := t.pair, seatAge := t.seatAge }
    let taken (t : State) : Prop :=
      (t.bank b).holds = true ∧ (t.bank b).releasing = false ∧ (t.bank b).line = .low ∧ (t.bank b).clamp = false ∧ same t ∧
      ∀ n : Chan, bankOf n = b → (t.cell n).fresh = false ∧ (t.cell n).freqOk = false ∧ (s.fn n = FN_DI_COUNT → (t.cell n).gap = true)
    let recorded (t : State) (cause : Nat) : Prop :=
      t.get PAIR_TAKEOVER_INFO_CAUSE = cause ∧ (t.word PAIR_EVT_EVT.addr).getLsbD 0 = true ∧ t.seatAge = Vector.replicate 4 0 ∧
      (s.pair.takeCycle ≠ some s.cycle → t.get PAIR_TAKEOVER_INFO_BANKS = 2 ^ b.val ∧
        t.get PAIR_TAKEOVER_INFO_COUNT = min 65535 (s.get PAIR_TAKEOVER_INFO_COUNT + 1))
    (∀ req : Bool, k.holds = true → k.releasing = false →
      let due : Prop := req = true ∧ (k.lost = true ∨ k.uvLatched = true) ∨ k.lost = true ∧ k.pairHoldOver = true ∧ k.partnerSeen = true ∨
        k.releaseCmd = true
      (¬ due → exec (.ownRelease b req) s = .next s) ∧
      (due → CompletesWith (.ownRelease b req) s fun t => (t.bank b).releasing = true ∧ (t.bank b).holds = true ∧ (t.bank b).clamp = true ∧
        (t.bank b).line = .released ∧ (t.bank b).releaseCmd = false ∧ t.cells = s.cells ∧ same t)) ∧
    (∀ (how : Release) (q : Fin 40), k.holds = false →
      (k.clamp = true ∨ k.takeEnable = false ∨ k.uvLatched = true ∨ k.restoreMet = false → exec (.ownTake b how q) s = .next s) ∧
      (k.clamp = false → k.takeEnable = true → k.uvLatched = false → k.restoreMet = true →
        CompletesWith (.ownTake b how q) s fun t => taken t ∧ (s.inReset = false → s.pair.goAt = none →
          recorded t (match how with | .request => 2 | .holdEnd => 3 | .unpowered => 4 | .uv => 5)))) ∧
    (k.releasing = true →
      (CompletesWith (.partnerTaken b) s fun t => (t.bank b).holds = false ∧ (t.bank b).releasing = false ∧ (t.bank b).opening = true ∧
        ((t.bank b).clamp = k.clamp → (t.bank b).line = .low) ∧ ended t ∧
        ∀ n : Chan, bankOf n = b → (t.cell n).on = (isSwitchFn (s.fn n) && (s.cell n).on)) ∧
      (s.boundaryTime < k.graceAt + 4000 → exec (.graceEnd b) s = .next s) ∧
      (k.graceAt + 4000 ≤ s.boundaryTime → k.opening = false → CompletesWith (.graceEnd b) s fun t => (t.bank b).holds = false ∧ (t.bank b).releasing = false ∧
        (s.get PAIR_STAT_ROLE ≠ 2 → (t.bank b).clamp = k.clamp) ∧ ended t ∧ ∀ n : Chan, bankOf n = b → (t.cell n).on = false)) ∧
    (k.opening = true → k.holds = false → CompletesWith (.outgoingSwitchOpen b) s fun t => (t.bank b).opening = false ∧
      (t.bank b).holds = false ∧ same t ∧ t.regs = s.regs ∧ ∀ n : Chan, bankOf n = b → (t.cell n).on = false) ∧
    (k.holds = false → k.clamp = true → CompletesWith (.clampRemove b) s fun t => (t.bank b).clamp = false ∧ (t.bank b).line = .low ∧
      t.cells = s.cells ∧ same t) ∧
    (k.holds = true → ∀ sink : Fin 3, CompletesWith (.partnerSeenChange b (.sink sink)) s fun t =>
      ((t.bank b).partnerSeen = true ↔ 1 ≤ sink.val) ∧ ((t.bank b).takeReqIn = true ↔ sink.val = 2) ∧ (t.bank b).holds = true ∧
      ended t ∧ (k.lost = false → t.cells = s.cells)) ∧
    (k.holds = false → ∀ band : LineBand, CompletesWith (.partnerSeenChange b (.line band)) s fun t =>
      ((t.bank b).clamp = k.clamp → (t.bank b).line = band) ∧
      (t.bank b).holds = false ∧ t.cells = s.cells ∧ same t) ∧
    (s.inReset = false → k.lost = false →
      (∀ h : PairHb, s.partner = some h → ∀ q : Fin 40, k.holds = false → k.clamp = true → h.holds b = false →
        CompletesWith (.coldTake b q) s fun t => (t.bank b).holds = false ∧ (t.bank b).clamp = false ∧
          (t.bank b).line = (if h.clamps b then .released else .high) ∧ t.cells = s.cells ∧ same t) ∧
      (∀ h : PairHb, s.partner = some h → ∀ q : Fin 40, k.holds = false → k.clamp = false → k.line = .high →
        (h.ownOf b % 4 < 2 ∨ natBit (h.ownOf b) 2 = true ∨ natBit (h.ownOf b) 6 = true ∨ s.prio ≤ h.prio.toNat →
          exec (.coldTake b q) s = .next s) ∧
        (s.lineFault b = false → 2 ≤ h.ownOf b % 4 → natBit (h.ownOf b) 2 = false → natBit (h.ownOf b) 6 = false →
          h.prio.toNat < s.prio → CompletesWith (.coldTake b q) s fun t => taken t ∧ recorded t 6 ∧ t.pair.cold[b] = true)) ∧
      (s.boundaryTime < s.pair.coldAt[b] + 4000 → exec (.coldTakeTimeout b) s = .next s) ∧
      (s.pair.cold[b] = true → s.pair.coldAt[b] + 4000 ≤ s.boundaryTime → k.opening = false → CompletesWith (.coldTakeTimeout b) s fun t =>
        (t.bank b).holds = false ∧ (t.bank b).line = .high ∧ t.pair.cold[b] = false ∧ t.pair.coldFault[b] = true ∧ same t ∧
        (s.get (BANK_LINK_UP b) = 1 → s.pairedBank b = true → t.get ⟨PAIR_OWN_LINE_0.addr, 8 * b.val + 7, 1⟩ = 1) ∧
        ∀ n : Chan, bankOf n = b → (t.cell n).on = false)))

/-- Heartbeats carry and show the partner, their loss raises the epoch, snapshots close, are checked, and are applied
whole (R299, R310, R311, R312, R313, R314, R315, R316, R318, R319). The model's own: Locked, PAIR_HEARTBEAT_RECEIVED
of a frame that is no good heartbeat (CRC-32, TYPE 1, LEN 40) is counted and discarded; a good one ends a loss, shows
the partner's priority and claim, LINK_UP reads 1, a partner of the same priority means FAULT, and its EOF for ECHO is
49 code groups after its SOF; the band of OWN_n follows both units' reports (the model's choice, log entry 63; other
choices of roles, ECHO and frames: log entries 40, 42, 67). -/
def Obligations.PairLinkAndSnapshots : Prop :=
  (∀ s : State, s.inReset = false → s.get PAIR_CFG_EN = 1 →
    let only (t : State) : Prop := t = { s with regs := t.regs, fresh := t.fresh, dmaDue := t.dmaDue, dueLines := t.dueLines, banks := t.banks, pair := t.pair, nv := t.nv, ring := t.ring, candle := t.candle, free := t.free } ∧
      (∀ b : Bank, (t.bank b).holds = (s.bank b).holds ∧ (t.bank b).releasing = (s.bank b).releasing)
    let lines (t : State) : Prop := ∀ b : Bank, (t.bank b).clamp = (s.bank b).clamp → (t.bank b).line = (s.bank b).line
    let discarded (t : State) : Prop := t.pair = { s.pair with
        crcSince := s.pair.crcSince + 1, rxFrames := t.pair.rxFrames, rxErrs := t.pair.rxErrs } ∧
      t.get PAIR_LINK_ERR_CRC_ERR = min 65535 (s.get PAIR_LINK_ERR_CRC_ERR + 1) ∧ t = { s with regs := t.regs, pair := t.pair } ∧
      ∀ a, a ≠ PAIR_LINK_ERR_CRC_ERR.addr → t.word a = s.word a
    (∀ (f : List Byte) (ns : Fin 10000) (late : Bool),
      let good : Prop := f.length = 48 ∧ recU f 0 1 = 1 ∧ recU f 2 2 = 40 ∧ crc32Ends f = true
      let h := PairHb.ofBytes ((f.drop 4).take 40)
      (s.pair.lock = false → ∀ ok : Bool, exec (.pairHeartbeatReceived ok f ns late) s = .next s) ∧
      (s.pair.lock = true →
        CompletesWith (.pairHeartbeatReceived false f ns late) s discarded ∧
        (¬ good → CompletesWith (.pairHeartbeatReceived true f ns late) s discarded) ∧
        (good → CompletesWith (.pairHeartbeatReceived true f ns late) s fun t => t.pair.hb = some h ∧ t.pair.alive = true ∧ t.pair.lost = false ∧
          t.get PAIR_STAT_PARTNER_PRIO = h.prio.toNat ∧ t.get PAIR_PARTNER_CLAIM_CLAIM = h.claim.toNat ∧ t.get PAIR_STAT_LINK_UP = 1 ∧
          (h.prio.toNat = s.prio → t.get PAIR_STAT_ROLE = 3) ∧ (s.get PAIR_STAT_ROLE = 3 → t.get PAIR_STAT_ROLE = 3) ∧
          (s.pair.lost = true → (t.word PAIR_EVT_EVT.addr).getLsbD 4 = true) ∧
          (h.ready = false → t.pair.readyAt = none) ∧ (h.ready = true → s.pair.readyAt = none → t.pair.readyAt = some s.now) ∧
          t.pair.echo = some (h.tSof.toNat, s.devTimeNs ns.val + 3920) ∧ only t ∧
          ∀ b : Bank, (t.bank b).clamp = (s.bank b).clamp → (t.bank b).line = if s.pairedBank b && s.interlocks b then (s.bank b).lineBand h s.pair.hb b else (s.bank b).line))) ∧
    (∀ ns : Fin 10000, CompletesWith (.pairHeartbeatSend ns) s fun t => t.pair.hbNo = (s.pair.hbNo + 1) % 4294967296 ∧
      t.pair.hbSent.length = 48 ∧ recU t.pair.hbSent 0 1 = 1 ∧ recU t.pair.hbSent 2 2 = 40 ∧ crc32Ends t.pair.hbSent = true ∧
      recU t.pair.hbSent 4 4 = s.pair.hbNo % 4294967296 ∧ recU t.pair.hbSent 28 8 = s.devTimeNs ns.val % 2 ^ 64 ∧
      recU t.pair.hbSent 12 4 = s.get PAIR_CLAIM_CLAIM ∧
      t = { s with pair := { s.pair with hbSent := t.pair.hbSent, hbNo := t.pair.hbNo } }) ∧
    (s.pair.alive = false → exec .pairHeartbeatLost s = .next s) ∧
    (s.pair.alive = true → CompletesWith .pairHeartbeatLost s fun t => t.pair.alive = false ∧ t.pair.lost = true ∧
      t.get PAIR_LINK_ERR_HB_LOST = min 255 (s.get PAIR_LINK_ERR_HB_LOST + 1) ∧ t.epoch = min 0xFFFFFF (s.topEpoch + 1) ∧
      t.nv = { s.nv with
        epoch := min 0xFFFFFF (s.topEpoch + 1), words := t.nv.words, wordSector := t.nv.wordSector, spares := t.nv.spares, log := t.nv.log } ∧ t.get PAIR_STAT_LINK_UP = 0 ∧
      (t.word PAIR_EVT_EVT.addr).getLsbD 3 = true ∧ t.pair.shadow = none ∧
      t.get PAIR_LINK_ERR_SNAP_TORN = min 255 (s.get PAIR_LINK_ERR_SNAP_TORN + s.pair.shadow.isSome.toNat) ∧
      (s.get PAIR_STAT_ROLE = 2 → t.get PAIR_STAT_ROLE =
        if s.pairedBanks.any (fun b => s.pair.enable[b] || (s.bank b).holds) then 1 else 2) ∧ lines t ∧ only t) ∧
    (CompletesWith .pairLinkLock s fun t => t.pair.lock = true ∧ t.get PAIR_STAT_LINK_UP = s.pair.alive.toNat ∧ lines t ∧ only t) ∧
    (CompletesWith .pairLinkDown s fun t => t.pair.lock = false ∧ t.get PAIR_STAT_LINK_UP = 0 ∧ lines t ∧ only t) ∧
    (s.get PAIR_STAT_ROLE = 1 → exec .baselineReq s = .next { s with pair := { s.pair with wantBase := true } }) ∧
    (s.get PAIR_STAT_ROLE = 1 → CompletesWith .snapshotClose s fun t =>
      let seq := if s.get PAIR_SNAP_SEQ_SEQ = 0xFFFFFFFF then 1 else s.get PAIR_SNAP_SEQ_SEQ + 1
      t.get PAIR_SNAP_SEQ_SEQ = seq ∧ t.pair.wantBase = false ∧ t.pair.prevRecs = s.fixedRecords ∧
      (s.pairUp = false → t.pair.snapSent = []) ∧
      (∀ g ∈ t.pair.snapSent, ∃ p, g = pairFrame 2 p ∧ 4 ≤ p.length ∧ p.length ≤ 1024) ∧
      (∀ snap, snap = (t.pair.snapSent.map fun g => (g.drop 4).take (g.length - 8)).flatten → ∀ body, body = snap.take (snap.length - 16) →
        s.pairUp = true → snap = body ++ snapRec 0x1F (leBytes 4 seq ++ leBytes 4 body.length ++ leBytes 4 (crc32 body).toNat) ∧
        recU body 0 1 = 0x10 ∧ recU body 4 4 = seq ∧ recU body 8 4 = (if s.pair.wantBase then 0 else s.get PAIR_SNAP_SEQ_SEQ) ∧
        recU body 24 4 = s.get PAIR_CLAIM_CLAIM) ∧
      lines t ∧ only t) ∧
    (s.get PAIR_STAT_ROLE = 2 → s.pair.lock = true → ∀ r : List Byte, r.length ≤ 1024 → 4 ≤ r.length →
      let received (f : List Byte) := Instr.snapRecordReceived true f
      (∀ f : List Byte, CompletesWith (.snapRecordReceived false f) s discarded ∧
        (recU f 0 1 ≠ 2 ∨ crc32Ends f = false → CompletesWith (received f) s discarded)) ∧
      (r.length = 4 + (recU r 2 2 + 3) / 4 * 4 →
        (∀ rs : List Byte, 4 ≤ rs.length → r.length + rs.length ≤ 1024 →
          CompletesWith (received (pairFrame 2 r)) s fun u => CompletesWith (received (pairFrame 2 (r ++ rs))) s fun v =>
          (u.get PAIR_STAT_ROLE = 2 → CompletesWith (received (pairFrame 2 rs)) u fun w =>
            v.pair.shadow = w.pair.shadow ∧ v.pair.checked = w.pair.checked)) ∧
      ∀ p, p = (r.drop 4).take (recU r 2 2) →
        (recU r 0 1 = 0x10 → s.pair.shadow = none → s.preparing = false → CompletesWith (received (pairFrame 2 r)) s fun t =>
          t.pair.shadow = some { seq := recU p 0 4, base := recU p 4 4, taken := recU p 8 8, digest := (p.drop 24).take 8, bytes := r } ∧ lines t ∧ only t) ∧
        (∀ sh : Snap, s.pair.shadow = some sh →
          (0x11 ≤ recU r 0 1 → recU r 0 1 ≤ 0x14 →
            ∀ sh' : Snap, sh' = { sh with bytes := sh.bytes ++ r, recs := sh.recs ++ [(recU r 0 1, p)] } →
            CompletesWith (received (pairFrame 2 r)) s fun t => t = { s with pair := { s.pair with
              shadow := some sh', rxFrames := t.pair.rxFrames, rxErrs := t.pair.rxErrs } }) ∧
          (∀ whole based : Bool, recU r 0 1 = 0x1F →
            (whole = true ↔ sh.bad = false ∧ recU p 0 4 = sh.seq ∧ recU p 4 4 = sh.bytes.length ∧ recU p 8 4 = (crc32 sh.bytes).toNat) →
            (based = true ↔ sh.base = 0 ∨ s.pair.applied = some sh.base) →
            (whole = true → based = true → CompletesWith (received (pairFrame 2 r)) s fun t => t = { s with pair := { s.pair with
              shadow := none, checked := some sh, rxFrames := t.pair.rxFrames, rxErrs := t.pair.rxErrs } }) ∧
            ((whole && based) = false → CompletesWith (received (pairFrame 2 r)) s fun t => t.pair.shadow = none ∧ t.pair.checked = s.pair.checked ∧
              t.pair.gap = true ∧ t.get PAIR_LINK_ERR_SNAP_TORN = min 255 (s.get PAIR_LINK_ERR_SNAP_TORN + 1) ∧
              (whole = true → t.pair.ctl = some .baselineReq) ∧ lines t ∧ only t))))) ∧
    (s.get PAIR_STAT_ROLE = 2 → ∀ sh : Snap, s.pair.checked = some sh → CompletesWith .snapshotApply s fun t =>
      t.pair.checked = none ∧ t.pair.applied = some sh.seq ∧ t.pair.taken = some sh.taken ∧ t.pair.gap = false ∧
      t.get PAIR_SNAP_SEQ_SEQ = sh.seq % 4294967296 ∧
      (∀ a, a < 0x1000000 → t.byteAt a = s.byteAt a) ∧ t.pending = s.pending ∧ t.meas = s.meas ∧
      (∀ n : Chan, s.pairedBank (bankOf n) = false ∨ (s.bank (bankOf n)).holds = true → t.cell n = s.cell n) ∧
      ∀ p : List Byte, sh.recs = [(0x11, p)] → ∀ n : Chan, recU p 0 1 = n.val → s.pairedBank (bankOf n) = true → (s.bank (bankOf n)).holds = false →
        let c := t.cell n
        c.state = State.cellStateOf (recU p 1 1 % 8) ∧ c.cause = Cause.ofCode (recU p 1 1 / 16) ∧ c.commanded = recU p 4 2 ∧ c.applied = recU p 6 2 ∧
        c.count.toNat = recU p 8 4 ∧ c.iHold = some (recU p 14 2) ∧ t.get (CELL_OUT_VALUE n) = recU p 4 2 ∧
        (s.pair.applied = none → sh.base = 0 → c.adopted = true) ∧ ∀ m : Chan, m ≠ n → t.cell m = s.cell m))

/-- A planned handover goes through its steps at both units; a divided pair merges; self-test and Beacons show the
standby (R318, R319, R321, R323, R324, R325). The model's own: AUTO_MERGE of a divided pair starts a handover at the
lower claim only, whatever its role (log entry 63), with the partner READY for 1 s. When the steps are timed so, and
who the list of a handover asks, is the model's (log entry 42). -/
def Obligations.HandoverMergeAndBeacons : Prop :=
  ∀ s : State, s.inReset = false →
    let evt (t : State) (i : Nat) : Prop := (t.word PAIR_EVT_EVT.addr).getLsbD i = true
    let only (t : State) : Prop := t = { s with regs := t.regs, fresh := t.fresh, dmaDue := t.dmaDue, dueLines := t.dueLines, banks := t.banks, pair := t.pair, nv := t.nv, ring := t.ring, candle := t.candle, free := t.free }
    (s.get PAIR_HANDOVER_STATE = 1 →
      (∀ seq : BitVec 32,
        (seq.toNat ≠ s.lastClosed → exec (.handoverReady seq) s = .next s) ∧
        (seq.toNat = s.lastClosed → CompletesWith (.handoverReady seq) s fun t => t.get PAIR_HANDOVER_STATE = 2 ∧
          t.pair = { s.pair with ctl := some (.handoverGo (s.devTime (s.now + 840))), bAt := s.devTime (s.now + 840), goAt := none } ∧ t = { s with regs := t.regs, pair := t.pair } ∧
          ∀ a, a ≠ 0x90024 → t.word a = s.word a)) ∧
      (s.boundaryTime < s.pair.reqAt + 40000 → exec .handoverTimeout s = .next s) ∧
      (s.pair.reqAt + 40000 ≤ s.boundaryTime → CompletesWith .handoverTimeout s fun t => t.get PAIR_HANDOVER_STATE = 4 ∧
        t.get PAIR_HANDOVER_CODE = 4 ∧ evt t 2 ∧ t = { s with regs := t.regs, fresh := t.fresh, dmaDue := t.dmaDue, dueLines := t.dueLines })) ∧
    (s.get PAIR_HANDOVER_STATE ≠ 1 → exec .handoverTimeout s = .next s ∧ ∀ seq : BitVec 32, exec (.handoverReady seq) s = .next s) ∧
    (s.get PAIR_CFG_EN = 1 → exec .handoverReqReceived s = .next { s with pair := { s.pair with
      frozen := some s.now, merging := s.isSet PAIR_STAT_SPLIT } }) ∧
    (∀ b : BitVec 64, (s.preparing = false → exec (.handoverGoReceived b) s = .next s) ∧
      (s.preparing = true → CompletesWith (.handoverGoReceived b) s fun t => t.pair.passed = false ∧ t.cells = s.cells ∧ only t ∧
        if t.pairUp = true ∧ t.readySelf = true ∨ s.get PAIR_CFG_EN = 0 then t.pair.goAt = some b.toNat
        else t.pair.goAt = none ∧ t.pair.frozen = none)) ∧
    (s.pair.passed = true → exec .handoverBoundary s = .next s) ∧
    (s.pair.passed = false →
      (s.get PAIR_HANDOVER_STATE = 2 → s.devTime s.boundaryTime < s.pair.bAt → exec .handoverBoundary s = .next s) ∧
      (s.get PAIR_HANDOVER_STATE = 2 → s.pair.bAt ≤ s.devTime s.boundaryTime → CompletesWith .handoverBoundary s fun t => t.get PAIR_STAT_ROLE = 2 ∧ t.pair.passed = true ∧ only t ∧
        ∀ b : Bank, s.pairedBank b = true → let k := s.bank b
          k.running = true → k.lost = false → k.holds = true → k.releasing = false →
            (t.bank b).releasing = true ∧ (t.bank b).holds = true ∧ (t.bank b).clamp = true ∧ (t.bank b).line = .released) ∧
      (s.get PAIR_HANDOVER_STATE ≠ 2 → ∀ at' : Nat, s.pair.goAt = some at' →
        (s.devTime s.boundaryTime < at' → exec .handoverBoundary s = .next s) ∧
        (at' ≤ s.devTime s.boundaryTime → CompletesWith .handoverBoundary s fun t =>
          t.get PAIR_STAT_ROLE = 1 ∧ t.epoch = min 0xFFFFFF (s.topEpoch + 1) ∧ t.pair.passed = true ∧ only t ∧
          ∀ b : Bank, (t.bank b).holds = (s.bank b).holds))) ∧
    (s.pair.passed = true →
      (s.get PAIR_HANDOVER_STATE = 2 → CompletesWith .handoverEnd s fun t => t.get PAIR_HANDOVER_STATE = 3 ∧ t.get PAIR_HANDOVER_CODE = 0 ∧
        evt t 2 ∧ t.pair = { s.pair with passed := false, ctl := some .handoverEnd } ∧ t = { s with regs := t.regs, fresh := t.fresh, dmaDue := t.dmaDue, dueLines := t.dueLines, pair := t.pair }) ∧
      (s.get PAIR_HANDOVER_STATE ≠ 2 → CompletesWith .handoverEnd s fun t => evt t 2 ∧
        t.pair = { s.pair with passed := false, goAt := none, frozen := none, merging := false } ∧
        t = { s with regs := t.regs, fresh := t.fresh, dmaDue := t.dmaDue, dueLines := t.dueLines, pair := t.pair })) ∧
    (s.get PAIR_STAT_SPLIT = 1 → s.get PAIR_CFG_AUTO_MERGE = 1 → s.handoverRuns = false → ∀ h, s.partner = some h → h.ready = true →
      (s.get PAIR_PARTNER_CLAIM_CLAIM ≤ s.get PAIR_CLAIM_CLAIM → exec .autoMerge s = .next s) ∧
      (∀ since : Nat, s.pair.readyAt = some since → s.boundaryTime < since + 4000000 → exec .autoMerge s = .next s) ∧
      (s.get PAIR_CLAIM_CLAIM < s.get PAIR_PARTNER_CLAIM_CLAIM → (∃ since, s.pair.readyAt = some since ∧ since + 4000000 ≤ s.boundaryTime) →
        (∀ b : Bank, s.pairedBank b = true → s.lineFault b = false) → CompletesWith .autoMerge s fun t =>
          t.get PAIR_HANDOVER_STATE = 1 ∧ t.get PAIR_HANDOVER_CODE = 0 ∧ t.pair = { s.pair with ctl := some .handoverReq, passed := false, reqAt := s.now } ∧
          t = { s with regs := t.regs, pair := t.pair } ∧ ∀ a, a ≠ 0x90024 → t.word a = s.word a)) ∧
    (s.get PAIR_STAT_ROLE = 2 →
      (∀ ran fail : BitVec 7, CompletesWith (.selfTest ran fail) s fun t => t.pair.rounds = (s.pair.rounds + 1) % 4294967296 ∧
        (let paired (P : Bank → Prop) : Prop := ∃ b, b ∈ s.pairedBanks ∧ P b
        let fails (i : Nat) : Prop := t.pair.testFail.getLsbD i = true
        (∀ i, ran.getLsbD i = false → t.pair.testFail.getLsbD i = s.pair.testFail.getLsbD i) ∧
        (∀ i, ran.getLsbD i = true → i = 1 ∨ i = 4 ∨ i = 5 → t.pair.testFail.getLsbD i = fail.getLsbD i) ∧
        (ran.getLsbD 0 = true → (fails 0 ↔ fail.getLsbD 0 = true ∨ paired fun b => s.get (BANK_LINK_UP b) = 0 ∨
          (s.lbank b).dieLost = true ∨ (s.lbank b).frameErrs ≠ 0)) ∧
        (ran.getLsbD 2 = true → (fails 2 ↔ paired fun b => ∃ x : Fin 2, State.railAtSetpoint (s.bank b).rails[x] = false)) ∧
        (ran.getLsbD 3 = true → (fails 3 ↔ fail.getLsbD 3 = true ∨ paired fun b => s.lineFault b = true)) ∧
        (ran.getLsbD 6 = true → (fails 6 ↔ 1 < s.pair.rxErrs))) ∧ t.cells = s.cells ∧ only t) ∧
      (∀ ns : Fin 10000, CompletesWith (.beaconSend ns) s fun t =>
        (∀ bs, bs = (List.range 15).flatMap (fun i => wordBytes (t.word (PAIR_BEACON_WORD i).addr)) → t.word (PAIR_BEACON_WORD 15).addr = crc32 bs ∧
          recU bs 0 4 = s.pair.bseq % 4294967296 ∧ recU bs 6 1 = s.prio ∧ recU bs 25 1 = s.pair.testFail.toNat ∧
          recU bs 52 8 = s.devTimeNs ns.val % 2 ^ 64 ∧
          t.pair.beaconSent = pairFrame 4 (bs ++ wordBytes (t.word (PAIR_BEACON_WORD 15).addr))) ∧
        t.pair = { s.pair with
          beaconSent := t.pair.beaconSent, bseq := (s.pair.bseq + 1) % 4294967296, crcSince := 0, lateSince := 0 } ∧
        t = { s with regs := t.regs, pair := t.pair } ∧ ∀ a, a < 0x90040 ∨ 0x90080 ≤ a → t.word a = s.word a)) ∧
    (s.get PAIR_CFG_EN = 1 → s.get PAIR_STAT_ROLE = 1 → s.pair.lock = true → ∀ f : List Byte,
      let good : Prop := f.length = 72 ∧ recU f 0 1 = 4 ∧ recU f 2 2 = 64 ∧ crc32Ends f = true
      let discarded (t : State) : Prop := t.get PAIR_LINK_ERR_CRC_ERR = min 65535 (s.get PAIR_LINK_ERR_CRC_ERR + 1) ∧
        t.pair = { s.pair with crcSince := s.pair.crcSince + 1, rxFrames := t.pair.rxFrames, rxErrs := t.pair.rxErrs } ∧
        t = { s with regs := t.regs, pair := t.pair } ∧ ∀ a, a ≠ PAIR_LINK_ERR_CRC_ERR.addr → t.word a = s.word a
      (good → CompletesWith (.beaconReceived true f) s fun t =>
        (∀ i : Fin 16, (t.word (PAIR_BEACON_WORD i).addr).toNat = recU f (4 + 4 * i.val) 4) ∧ evt t 11 ∧
        t = { s with regs := t.regs, fresh := t.fresh, dmaDue := t.dmaDue, dueLines := t.dueLines, pair := { s.pair with
          partnerDigest := t.pair.partnerDigest, partnerFw := t.pair.partnerFw, rxFrames := t.pair.rxFrames, rxErrs := t.pair.rxErrs } }) ∧
      (¬ good → CompletesWith (.beaconReceived true f) s discarded) ∧ CompletesWith (.beaconReceived false f) s discarded)

/-- Candle counts and folds; firmware installs, SEC commands and NV reads end with their results; a debugger is let in
as R388 says (R365, R367, R368, R369, R370, R379, R381, R382, R386, R388, R430, R417). The model's own: Which offset a
failure shows is log entry 55. DEBUG_NONCE draws a nonce, a free value (log entry 3). DEBUG_REGISTER_ACCESS not
permitted changes nothing; permitted it delivers the word (an engine-private one a free value, and writing one
nothing: log entry 37), with the latches of TIME_LO and SEC_LO, and writes as an accepted register write of seat 0
does, without a frame's trace, and nothing where that is refused; a scan captures the levels at the lands and takes
those shifted in, EXTEST where it is permitted (where not: log entry 59). -/
def Obligations.CandleNvSecurityAndDebug : Prop :=
  ∀ s : State,
    let line (t : State) : Prop := ∀ x : Seat, Raised s t x 53
    let m := if s.get SYS_PWR_STAT_STATE = 3 then 6 else s.get SYS_MODE_MODE
    let part := ((s.candle.calPart : Int) + 10000000 + signed 16 (s.get CAL_CTRL_TRIM)).toNat
    let calendar := { s.candle with
      calSec := (s.candle.calSec + part / 10000000) % 2 ^ 40, calPart := part % 10000000, calAt := s.now
      syncS := if s.get RING_STAT_UNSYNC = 0 then s.candle.syncS + 1 else 0 }
    (s.unpowered = true → ∀ temps : Vector Int 5, exec (.candleSecond temps) s = .next { s with candle := calendar }) ∧
    (s.unpowered = false → m < 7 → ∀ temps : Vector Int 5, CompletesWith (.candleSecond temps) s fun t =>
      t.get (CANDLE_MODE_S_S m) = min 0xFFFFFFFF (s.get (CANDLE_MODE_S_S m) + 1) ∧
      t.get (CANDLE_MODE_S_S 7) = min 0xFFFFFFFF (s.get (CANDLE_MODE_S_S 7) + 1) ∧
      (∀ (d : Fin 5) (k : Fin 4), t.get (CANDLE_TEMP_S_S (4 * d.val + k.val)) = if tempBin (d == 0) temps[d] = k.val then
        min 0xFFFFFFFF (s.get (CANDLE_TEMP_S_S (4 * d.val + k.val)) + 1) else s.get (CANDLE_TEMP_S_S (4 * d.val + k.val))) ∧
      t.candle = calendar ∧ t = { s with regs := t.regs, candle := t.candle } ∧
      ∀ a, a < 0xA0020 ∨ 0xA00D0 ≤ a → t.word a = s.word a) ∧
    (s.powered / 3600 ≤ s.candle.hours → ∀ f : FoldMeas, exec (.fold f) s = .next s) ∧
    (s.inReset = false → s.candle.hours < s.powered / 3600 → ∀ f : FoldMeas, CompletesWith (.fold f) s fun t => t.get CANDLE_STAT_FOLDING = 1 ∧ t.candle.fold = some true ∧
      (∀ n : Chan, t.get (CANDLE_CH_RON_R_PLAN n) = max (s.get (CANDLE_CH_RON_R_PLAN n)) (t.get (CANDLE_CH_RON_R_NOW n)) ∧
        (s.candle.ch[n].ronCnt < 100 → t.get (CANDLE_CH_RON_R_NOW n) = 0) ∧ t.candle.ch[n].ronCnt = 0) ∧
      (∀ x : Fin 2, t.get (CANDLE_RING_ERR_CNT x) = s.candle.hourErrs[x] % 2 ^ 32 ∧ t.candle.hourErrs[x] = 0) ∧ t.candle.hours = s.powered / 3600 ∧
      t = { s with
        regs := t.regs, fresh := t.fresh, dmaDue := t.dmaDue, dueLines := t.dueLines, candle := t.candle, free := t.free
        nv := { s.nv with cal := t.nv.cal, words := t.nv.words, wordSector := t.nv.wordSector, spares := t.nv.spares, log := t.nv.log } }) ∧
    (∀ h : Bool, s.candle.fold = some h →
      (∀ err : BitVec 4, CompletesWith (.foldDone err) s fun t => t.get CANDLE_STAT_FOLDING = 0 ∧ t.candle.fold = none ∧ line t ∧ (h = false → t.commits = s.commits) ∧
        t = { s with
          regs := t.regs, fresh := t.fresh, dmaDue := t.dmaDue, dueLines := t.dueLines, nv := { s.nv with log := t.nv.log, spares := t.nv.spares }
          candle := t.candle, commits := t.commits, free := t.free, eccLatch := s.eccLatch || err == 3 }) ∧
      (h = false → CompletesWith (.foldDone 0) s fun t => t.get CANDLE_LOG_SEQ_SEQ = t.candle.seq ∧ t.get CANDLE_STAT_LOG_OK = 1 ∧
        ∃ (i : Fin 64) (pre body : List Byte) (at' : Nat), t.nv.log[i].bytes = pre ++ logRecord 0x01 t.candle.seq at' body) ∧
      ∀ err : BitVec 4, err ≠ 0 → CompletesWith (.foldDone err) s fun t =>
        (err ≠ 1 → err ≠ 2 → t.get NVM_STAT_ERR = err.toNat ∧ (h = false → t.nv = s.nv)) ∧
        (err = 1 ∨ err = 2 → 0 < s.nv.spares → t.nv.spares < s.nv.spares) ∧
        t.get NVM_ERR_ADDR_ADDR = s.nv.log[s.foldSector].wear.offset (0x1A0000 + 4096 * s.foldSector.val)) ∧
    (∀ trim : Int, exec (.calendarAutoTrim trim) s = .next (if s.get CAL_CTRL_AUTO_TRIM = 1 ∧ 86400 ≤ s.candle.syncS then
      { s with candle := { s.candle with syncS := 0 } }.put CAL_CTRL_TRIM (toCode 16 (max (-5000) (min 5000 trim))) else s)) ∧
    (∀ l : Load, s.fwLoad = some l → ∀ err : BitVec 4,
      (l.phase = .receiving → exec (.fwInstallDone err) s = .next s) ∧
      let bad := if l.phase = .validating then s.fwVerdict l.bytes else 0
      let ends (st code : Nat) (t : State) : Prop := t.fwLoad = none ∧ t.get NVM_FW_LOAD_STAT_STATE = st ∧
        t.get NVM_FW_LOAD_STAT_CODE = code ∧ line t ∧ t = { s with
          regs := t.regs, fresh := t.fresh, dmaDue := t.dmaDue, dueLines := t.dueLines, fwLoad := none, free := t.free, eccLatch := t.eccLatch
          nv := { s.nv with fw := t.nv.fw, slotErases := t.nv.slotErases } }
      (l.phase = .validating ∨ l.phase = .programming →
        (bad ≠ 0 → CompletesWith (.fwInstallDone err) s fun t => ends 6 (bad % 256) t ∧ t.nv = s.nv) ∧
        (bad = 0 → err = 0 → CompletesWith (.fwInstallDone err) s fun t => ends 5 0 t ∧ t.nv.fw = s.nv.fw.set s.inactiveFw l.bytes ∧
          (l.phase = .validating → t.get (NVM_FW_SLOT_VALID s.inactiveFw) = 1)) ∧
        (bad = 0 → err ≠ 0 → CompletesWith (.fwInstallDone err) s fun t => ends 6 0x1E t ∧ t.get NVM_STAT_ERR = err.toNat ∧
          t.get NVM_ERR_ADDR_ADDR = 0xC0000 + 0x70000 * s.inactiveFw.val ∧ (err = 3 → t.eccLatch = true)))) ∧
    (∀ r : SecRun, s.secRun = some r →
      (∀ e : BitVec 4, e ≠ 0 → CompletesWith (.secCmdDone e) s fun t => t.secRun = none ∧ t.get NVM_STAT_ERR = e.toNat ∧
        t.get NVM_ERR_ADDR_ADDR = State.secRow r ∧ (e ≠ 1 → t.nv = s.nv) ∧
        (∀ k, e = 1 → r = .revoke k → t.nv = { s.nv with revBad := s.nv.revBad.set k true }) ∧ t.get SEC_CMD_STAT_BUSY = 0 ∧ t.get SEC_CMD_STAT_CODE = 7 ∧ line t ∧
        t = { s with
          regs := t.regs, fresh := t.fresh, dmaDue := t.dmaDue, dueLines := t.dueLines, secRun := none, nv := t.nv, free := t.free, eccLatch := t.eccLatch }) ∧
      CompletesWith (.secCmdDone 0) s fun t => t.secRun = none ∧ t.get SEC_CMD_STAT_BUSY = 0 ∧ t.get SEC_CMD_STAT_CODE = 0 ∧ line t ∧
        t = { s with regs := t.regs, fresh := t.fresh, dmaDue := t.dmaDue, dueLines := t.dueLines, nv := t.nv, secRun := none } ∧
        (∀ k hash use, r = .program k hash use → t.nv = { s.nv with hash := s.nv.hash.set k hash, use := s.nv.use.set k use } ∧
          t.get (SEC_KEY_USE k) = use.toNat) ∧
        (∀ k key, r = .store k key → t.nv = { s.nv with store := s.nv.store.set k key }) ∧
        (∀ k, r = .revoke k → t.nv = { s.nv with revoked := s.nv.revoked.set k true } ∧ t.get (SEC_KEY_REVOKED k) = 1) ∧
        (∀ l, r = .fwLevel l → ∃ v, t.nv = { s.nv with fwBits := v } ∧ v &&& s.nv.fwBits = s.nv.fwBits ∧ min l 64 ≤ levelOf v) ∧
        (∀ l, r = .fabLevel l → ∃ v, t.nv = { s.nv with fabBits := v } ∧ v &&& s.nv.fabBits = s.nv.fabBits ∧ min l 64 ≤ levelOf v) ∧
        (∀ l, r = .debugLevel l → ∃ v, t.nv = { s.nv with dbgBits := v } ∧ v &&& s.nv.dbgBits = s.nv.dbgBits)) ∧
    (∀ r : NvRead, s.nvRead = some r →
      (CompletesWith (.nvReadDone 0) s fun t => line t ∧ t = { s with regs := t.regs, fresh := t.fresh, dmaDue := t.dmaDue, dueLines := t.dueLines, mem := t.mem, nvRead := none } ∧
        ∀ a b, b = 0x1400000 + 0x10000 * r.seat.val + r.mbOfs →
          t.byteAt a = if b ≤ a ∧ a < b + r.len then s.regionByte r.region (r.ofs + (a - b)) else s.byteAt a) ∧
      ∀ e : BitVec 4, e ≠ 0 → CompletesWith (.nvReadDone e) s fun t => line t ∧ t.get NVM_STAT_ERR = e.toNat ∧
        t.get NVM_ERR_ADDR_ADDR = (State.regionBase r.region + r.ofs) % 2 ^ 32 ∧ (e = 3 → ∀ x : Seat, Raised s t x 58) ∧
        t = { s with eccLatch := s.eccLatch || e == 3, regs := t.regs, fresh := t.fresh, dmaDue := t.dmaDue, dueLines := t.dueLines, nvRead := none }) ∧
    (s.debugMayTry = false → exec .debugNonce s = .next s ∧ ∀ r v : BitVec 256, exec (.debugAuthenticate r v) s = .next s) ∧
    (s.debugMayTry = true →
      exec .debugNonce s = .next { s with free := s.free + 1, dbgNonce := some (Config.nonce s.free) } ∧
      (s.dbgNonce = none → ∀ r v : BitVec 256, exec (.debugAuthenticate r v) s = .next s) ∧
      ∀ k, s.dbgNonce = some k → ∀ (r v : BitVec 256) (good : Bool),
        (good = true ↔ ∃ j : Fin 4, s.keyProgrammed j = true ∧ s.keyRevoked j = false ∧ s.nv.use[j].getLsbD 2 = true ∧ s.keyStored j = true ∧
          ecdsaOk (sha256 (beBytes 32 k.toNat ++ s.uidBytes)) s.nv.store[j] (beBytes 32 r.toNat) (beBytes 32 v.toNat) = true) →
        CompletesWith (.debugAuthenticate r v) s fun t => t.dbgNonce = none ∧
          (good = true → t.get SEC_DBG_AUTH_OK = 1 ∧ t.get SEC_DBG_FAILS = s.get SEC_DBG_FAILS) ∧
          (good = false → t.get SEC_DBG_FAILS = s.get SEC_DBG_FAILS + 1 ∧ t.get SEC_DBG_AUTH_OK = s.get SEC_DBG_AUTH_OK) ∧
          t = { s with regs := t.regs, dbgNonce := none } ∧ ∀ a, a ≠ SEC_DBG_LEVEL.addr → t.word a = s.word a) ∧
    ∀ (a : Word) (w : Option Word) (q : Fin 40),
      let readsAs (u : State) (v : Word) : Host.Outcome State Fault Refusal := .next { u with dbgRead := v }
      let ac (w : Option Word) : Instr := .debugRegisterAccess (.reg a) w q
      (s.inReset = true ∨ s.debugPermitted = false ∨ 0x100000 ≤ a.toNat ∨ mapped a.toNat = false → exec (ac w) s = .next s) ∧
      (s.inReset = false → s.debugPermitted = true → a.toNat < 0x100000 → mapped a.toNat = true →
        (a.toNat = RING_TIME_LO_T.addr → let now := s.devTime (s.now + q.val)
          exec (ac none) s = readsAs ((s.put RING_TIME_LO_T now).put RING_TIME_HI_T (now / 4294967296)) (BitVec.ofNat 32 now)) ∧
        (a.toNat = CAL_SEC_LO_S.addr → exec (ac none) s = readsAs (((s.put CAL_SEC_LO_S s.candle.calSec).put CAL_SEC_HI_S
          (s.candle.calSec / 4294967296)).put CAL_SUBSEC_T s.calSubsec) (BitVec.ofNat 32 s.candle.calSec)) ∧
        (a.toNat ≠ RING_TIME_LO_T.addr → a.toNat ≠ CAL_SEC_LO_S.addr → exec (ac none) s = readsAs s (s.readWord 0 a.toNat q.val)) ∧
        ∀ v : Word,
          (s.wdgServicer = 4 →
            (a.toNat = 0x1000C → exec (ac (some v)) s = exec (.wdgKeyA (.markhor true) (v.setWidth 16) q) s) ∧
            (a.toNat = 0x10010 → exec (ac (some v)) s = exec (.wdgKeyB (.markhor true) (v.setWidth 16) q) s)) ∧
          (a.toNat ≠ 0x1000C → a.toNat ≠ 0x10010 → s.portUp 0 = true → s.sleeping = false →
            (∃ m, exec (ac (some v)) s = .next m ∧ m.inReset = false ∧ exec (.registerWrite 0 a v q) s = .next (accepted 0 m)) ∨
            (exec (ac (some v)) s = .next s ∧ CompletesWith (.registerWrite 0 a v q) s fun u =>
              u.get (SEAT_LAST_REF_CODE 0) ≠ 0 ∧ u.get (SEAT_LAST_REF_WRITE 0) = 1 ∧
              u.get (SEAT_ERRS_REFUSED 0) = satAdd (SEAT_ERRS_REFUSED 0).w (s.get (SEAT_ERRS_REFUSED 0)) 1))) ∧
      (∀ (g : PrivGroup) (i : Nat), let p : Instr := .debugRegisterAccess (.priv g i) w q
        (s.inReset = false → s.debugPermitted = true → i < g.count → w = none →
          exec p s = readsAs { s with free := s.free + 1 } (Config.privWord s.free)) ∧
        (s.inReset = true ∨ s.debugPermitted = false ∨ g.count ≤ i ∨ w ≠ none → exec p s = .next s)) ∧
      exec (.debugRegisterAccess .tapReset w q) s = .next { s with scan := { s.scan with instr := .idcode } } ∧
      ∀ (i : ScanInstr) (pins shift : BitVec 24),
        let scans (x : Scan) : Prop := exec (.debugRegisterAccess (.scan i pins shift) w q) s = .next { s with scan := x }
        (i = .sample ∨ (i = .extest ∧ s.debugPermitted = true) → scans { instr := i, out := pins.setWidth 32, latch := shift }) ∧
        (i = .bypass ∨ (i = .extest ∧ s.debugPermitted = false) → scans { s.scan with instr := .bypass, out := 0 }) ∧
        (i = .idcode → scans { s.scan with instr := i, out := s.word 0x10 })

end Statements
end

