-- ==== Sys2Proof/Laws/Sparse.lean ====
section
/-!
SUPPORT. The sparse tables: what is read after a write, and that a write keeps the canonical form.
-/

namespace Sys2Proof.Machine

theorem assocGet_insert {α : Type} (m : List (Nat × α)) (k j : Nat) (v : α) :
    assocGet (assocInsert m k v) j = if k = j then some v else assocGet m j := by
  induction m with
  | nil => simp [assocInsert, assocGet]
  | cons e t ih =>
    unfold assocInsert
    split
    · simp [assocGet]
    · split
      · next h => subst h; simp only [assocGet]; split <;> simp_all
      · next h1 h => simp only [assocGet, ih]; split <;> split <;> simp_all

theorem assocGet_erase {α : Type} (m : List (Nat × α)) (k j : Nat) :
    assocGet (assocErase m k) j = if k = j then none else assocGet m j := by
  induction m with
  | nil => simp [assocErase, assocGet]
  | cons e t ih =>
    unfold assocErase
    split
    · next h => subst h; simp only [ih, assocGet]; split <;> simp_all
    · next h => simp only [assocGet, ih]; split <;> split <;> simp_all

theorem sparseGet_set {α : Type} [DecidableEq α] (d : Nat → α) (m : List (Nat × α)) (k j : Nat) (v : α) :
    sparseGet d (sparseSet d m k v) j = if k = j then v else sparseGet d m j := by
  unfold sparseGet sparseSet
  split
  · next h => rw [assocGet_erase]; split <;> simp_all
  · rw [assocGet_insert]; split <;> simp_all

@[simp] theorem sparseGet_set_self {α : Type} [DecidableEq α] (d : Nat → α) (m : List (Nat × α)) (k : Nat) (v : α) :
    sparseGet d (sparseSet d m k v) k = v := by simp [sparseGet_set]

theorem sparseGet_set_ne {α : Type} [DecidableEq α] (d : Nat → α) (m : List (Nat × α)) {k j : Nat} (h : k ≠ j) (v : α) :
    sparseGet d (sparseSet d m k v) j = sparseGet d m j := by simp [sparseGet_set, h]

@[simp] theorem sparseGet_nil {α : Type} (d : Nat → α) (k : Nat) : sparseGet d [] k = d k := rfl

theorem mem_assocErase {α : Type} {m : List (Nat × α)} {k : Nat} {e : Nat × α} (h : e ∈ assocErase m k) : e ∈ m := by
  induction m with
  | nil => simp [assocErase] at h
  | cons x t ih =>
    unfold assocErase at h
    split at h
    · exact List.mem_cons_of_mem _ (ih h)
    · rcases List.mem_cons.mp h with rfl | h
      · exact List.mem_cons_self
      · exact List.mem_cons_of_mem _ (ih h)

theorem mem_assocInsert {α : Type} {m : List (Nat × α)} {k : Nat} {v : α} {e : Nat × α} (h : e ∈ assocInsert m k v) :
    e = (k, v) ∨ e ∈ m := by
  induction m with
  | nil => simpa [assocInsert] using h
  | cons x t ih =>
    unfold assocInsert at h
    split at h
    · simpa using h
    · split at h
      · rcases List.mem_cons.mp h with h | h
        · exact .inl h
        · exact .inr (List.mem_cons_of_mem _ h)
      · rcases List.mem_cons.mp h with rfl | h
        · exact .inr List.mem_cons_self
        · exact (ih h).imp id (List.mem_cons_of_mem _)

theorem assocErase_sorted {α : Type} {m : List (Nat × α)} (h : m.Pairwise (fun a b => a.1 < b.1)) (k : Nat) :
    (assocErase m k).Pairwise (fun a b => a.1 < b.1) := by
  induction m with
  | nil => exact h
  | cons x t ih =>
    have ⟨hx, ht⟩ := List.pairwise_cons.mp h
    unfold assocErase
    split
    · exact ih ht
    · exact List.pairwise_cons.mpr ⟨fun e he => hx e (mem_assocErase he), ih ht⟩

theorem assocInsert_sorted {α : Type} {m : List (Nat × α)} (h : m.Pairwise (fun a b => a.1 < b.1)) (k : Nat) (v : α) :
    (assocInsert m k v).Pairwise (fun a b => a.1 < b.1) := by
  induction m with
  | nil => simp [assocInsert]
  | cons x t ih =>
    have ⟨hx, ht⟩ := List.pairwise_cons.mp h
    unfold assocInsert
    split
    · next hk =>
      refine List.pairwise_cons.mpr ⟨fun e he => ?_, h⟩
      rcases List.mem_cons.mp he with rfl | he
      · exact hk
      · exact Nat.lt_trans hk (hx e he)
    · split
      · next hk => exact List.pairwise_cons.mpr ⟨fun e he => hk ▸ hx e he, ht⟩
      · next hk hne =>
        refine List.pairwise_cons.mpr ⟨fun e he => ?_, ih ht⟩
        rcases mem_assocInsert he with rfl | he
        · exact Nat.lt_of_le_of_ne (Nat.le_of_not_lt hk) hne
        · exact hx e he

/-- A write keeps the canonical form of a table. -/
theorem sparseSet_wf {α : Type} [DecidableEq α] {d : Nat → α} {m : List (Nat × α)} (h : SparseWf d m) (k : Nat) (v : α) :
    SparseWf d (sparseSet d m k v) := by
  unfold sparseSet
  split
  · exact ⟨assocErase_sorted h.1 k, fun e he => h.2 e (mem_assocErase he)⟩
  · next hv =>
    refine ⟨assocInsert_sorted h.1 k v, fun e he => ?_⟩
    rcases mem_assocInsert he with rfl | he
    · exact hv
    · exact h.2 e he

end Sys2Proof.Machine
end

