-- ==== Sys2Proof/Laws/State.lean ====
section
/-!
SUPPORT. What each elementary update of the state leaves as it was: one theorem an update, one conjunct a field. And what
registers, fields and cells read after a write.
-/

namespace Sys2Proof.Machine.State

@[simp] theorem setWord_fields (s : State) (a : Nat) (v : Word) :
    (s.setWord a v).shadow = s.shadow ∧ (s.setWord a v).shadowLate = s.shadowLate ∧ (s.setWord a v).fresh = s.fresh ∧
    (s.setWord a v).mem = s.mem ∧ (s.setWord a v).cells = s.cells ∧ (s.setWord a v).banks = s.banks ∧
    (s.setWord a v).meas = s.meas ∧ (s.setWord a v).units = s.units ∧ (s.setWord a v).nv = s.nv ∧
    (s.setWord a v).candle = s.candle ∧ (s.setWord a v).txns = s.txns ∧ (s.setWord a v).txnOpen = s.txnOpen ∧
    (s.setWord a v).txnId = s.txnId ∧ (s.setWord a v).load = s.load ∧ (s.setWord a v).fwLoad = s.fwLoad ∧
    (s.setWord a v).fabLoaded = s.fabLoaded ∧ (s.setWord a v).secRun = s.secRun ∧ (s.setWord a v).nvRead = s.nvRead ∧
    (s.setWord a v).dbgNonce = s.dbgNonce ∧ (s.setWord a v).dbgRead = s.dbgRead ∧ (s.setWord a v).scan = s.scan ∧
    (s.setWord a v).trimHeld = s.trimHeld ∧ (s.setWord a v).trimSteps = s.trimSteps ∧
    (s.setWord a v).trimStore = s.trimStore ∧ (s.setWord a v).lcells = s.lcells ∧ (s.setWord a v).lbanks = s.lbanks ∧
    (s.setWord a v).cycle = s.cycle ∧ (s.setWord a v).now = s.now ∧ (s.setWord a v).timeAhead = s.timeAhead ∧
    (s.setWord a v).fuseDone = s.fuseDone ∧ (s.setWord a v).seatAge = s.seatAge ∧
    (s.setWord a v).seatFresh = s.seatFresh ∧ (s.setWord a v).resp = s.resp ∧ (s.setWord a v).wdgStart = s.wdgStart ∧
    (s.setWord a v).wdgOpen = s.wdgOpen ∧ (s.setWord a v).wdgTimeout = s.wdgTimeout ∧
    (s.setWord a v).wdgServicer = s.wdgServicer ∧ (s.setWord a v).resleep = s.resleep ∧
    (s.setWord a v).wokeBy = s.wokeBy ∧ (s.setWord a v).dueLines = s.dueLines ∧
    (s.setWord a v).releasedAt = s.releasedAt ∧ (s.setWord a v).xtalSince = s.xtalSince ∧
    (s.setWord a v).restoreReq = s.restoreReq ∧ (s.setWord a v).bootEnded = s.bootEnded ∧
    (s.setWord a v).lastFail = s.lastFail ∧ (s.setWord a v).graceWait = s.graceWait ∧
    (s.setWord a v).eccLatch = s.eccLatch ∧ (s.setWord a v).dma = s.dma ∧ (s.setWord a v).dmaDue = s.dmaDue ∧
    (s.setWord a v).ring = s.ring ∧ (s.setWord a v).pair = s.pair ∧ (s.setWord a v).vddio = s.vddio ∧
    (s.setWord a v).inReset = s.inReset ∧ (s.setWord a v).readBack = s.readBack ∧ (s.setWord a v).commits = s.commits ∧
    (s.setWord a v).pending = s.pending ∧ (s.setWord a v).free = s.free ∧ (∀ k, (s.setWord a v).cell k = s.cell k) ∧
    (∀ k, (s.setWord a v).bank k = s.bank k) ∧ (∀ k, (s.setWord a v).lcell k = s.lcell k) ∧
    (∀ k, (s.setWord a v).lbank k = s.lbank k) ∧ (∀ k, (s.setWord a v).byteAt k = s.byteAt k) ∧
    (s.setWord a v).regs = sparseSet resetWord s.regs a v := by
  and_intros <;> intros <;> rfl

@[simp] theorem put_fields (s : State) (f : Fld) (v : Nat) :
    (s.put f v).shadow = s.shadow ∧ (s.put f v).shadowLate = s.shadowLate ∧ (s.put f v).fresh = s.fresh ∧
    (s.put f v).mem = s.mem ∧ (s.put f v).cells = s.cells ∧ (s.put f v).banks = s.banks ∧ (s.put f v).meas = s.meas ∧
    (s.put f v).units = s.units ∧ (s.put f v).nv = s.nv ∧ (s.put f v).candle = s.candle ∧ (s.put f v).txns = s.txns ∧
    (s.put f v).txnOpen = s.txnOpen ∧ (s.put f v).txnId = s.txnId ∧ (s.put f v).load = s.load ∧
    (s.put f v).fwLoad = s.fwLoad ∧ (s.put f v).fabLoaded = s.fabLoaded ∧ (s.put f v).secRun = s.secRun ∧
    (s.put f v).nvRead = s.nvRead ∧ (s.put f v).dbgNonce = s.dbgNonce ∧ (s.put f v).dbgRead = s.dbgRead ∧
    (s.put f v).scan = s.scan ∧ (s.put f v).trimHeld = s.trimHeld ∧ (s.put f v).trimSteps = s.trimSteps ∧
    (s.put f v).trimStore = s.trimStore ∧ (s.put f v).lcells = s.lcells ∧ (s.put f v).lbanks = s.lbanks ∧
    (s.put f v).cycle = s.cycle ∧ (s.put f v).now = s.now ∧ (s.put f v).timeAhead = s.timeAhead ∧
    (s.put f v).fuseDone = s.fuseDone ∧ (s.put f v).seatAge = s.seatAge ∧ (s.put f v).seatFresh = s.seatFresh ∧
    (s.put f v).resp = s.resp ∧ (s.put f v).wdgStart = s.wdgStart ∧ (s.put f v).wdgOpen = s.wdgOpen ∧
    (s.put f v).wdgTimeout = s.wdgTimeout ∧ (s.put f v).wdgServicer = s.wdgServicer ∧ (s.put f v).resleep = s.resleep ∧
    (s.put f v).wokeBy = s.wokeBy ∧ (s.put f v).dueLines = s.dueLines ∧ (s.put f v).releasedAt = s.releasedAt ∧
    (s.put f v).xtalSince = s.xtalSince ∧ (s.put f v).restoreReq = s.restoreReq ∧ (s.put f v).bootEnded = s.bootEnded ∧
    (s.put f v).lastFail = s.lastFail ∧ (s.put f v).graceWait = s.graceWait ∧ (s.put f v).eccLatch = s.eccLatch ∧
    (s.put f v).dma = s.dma ∧ (s.put f v).dmaDue = s.dmaDue ∧ (s.put f v).ring = s.ring ∧ (s.put f v).pair = s.pair ∧
    (s.put f v).vddio = s.vddio ∧ (s.put f v).inReset = s.inReset ∧ (s.put f v).readBack = s.readBack ∧
    (s.put f v).commits = s.commits ∧ (s.put f v).pending = s.pending ∧ (s.put f v).free = s.free ∧
    (∀ k, (s.put f v).cell k = s.cell k) ∧ (∀ k, (s.put f v).bank k = s.bank k) ∧
    (∀ k, (s.put f v).lcell k = s.lcell k) ∧ (∀ k, (s.put f v).lbank k = s.lbank k) ∧
    (∀ k, (s.put f v).byteAt k = s.byteAt k) := by
  and_intros <;> intros <;> rfl

@[simp] theorem putB_fields (s : State) (f : Fld) (v : Bool) :
    (s.putB f v).shadow = s.shadow ∧ (s.putB f v).shadowLate = s.shadowLate ∧ (s.putB f v).fresh = s.fresh ∧
    (s.putB f v).mem = s.mem ∧ (s.putB f v).cells = s.cells ∧ (s.putB f v).banks = s.banks ∧
    (s.putB f v).meas = s.meas ∧ (s.putB f v).units = s.units ∧ (s.putB f v).nv = s.nv ∧
    (s.putB f v).candle = s.candle ∧ (s.putB f v).txns = s.txns ∧ (s.putB f v).txnOpen = s.txnOpen ∧
    (s.putB f v).txnId = s.txnId ∧ (s.putB f v).load = s.load ∧ (s.putB f v).fwLoad = s.fwLoad ∧
    (s.putB f v).fabLoaded = s.fabLoaded ∧ (s.putB f v).secRun = s.secRun ∧ (s.putB f v).nvRead = s.nvRead ∧
    (s.putB f v).dbgNonce = s.dbgNonce ∧ (s.putB f v).dbgRead = s.dbgRead ∧ (s.putB f v).scan = s.scan ∧
    (s.putB f v).trimHeld = s.trimHeld ∧ (s.putB f v).trimSteps = s.trimSteps ∧ (s.putB f v).trimStore = s.trimStore ∧
    (s.putB f v).lcells = s.lcells ∧ (s.putB f v).lbanks = s.lbanks ∧ (s.putB f v).cycle = s.cycle ∧
    (s.putB f v).now = s.now ∧ (s.putB f v).timeAhead = s.timeAhead ∧ (s.putB f v).fuseDone = s.fuseDone ∧
    (s.putB f v).seatAge = s.seatAge ∧ (s.putB f v).seatFresh = s.seatFresh ∧ (s.putB f v).resp = s.resp ∧
    (s.putB f v).wdgStart = s.wdgStart ∧ (s.putB f v).wdgOpen = s.wdgOpen ∧ (s.putB f v).wdgTimeout = s.wdgTimeout ∧
    (s.putB f v).wdgServicer = s.wdgServicer ∧ (s.putB f v).resleep = s.resleep ∧ (s.putB f v).wokeBy = s.wokeBy ∧
    (s.putB f v).dueLines = s.dueLines ∧ (s.putB f v).releasedAt = s.releasedAt ∧ (s.putB f v).xtalSince = s.xtalSince ∧
    (s.putB f v).restoreReq = s.restoreReq ∧ (s.putB f v).bootEnded = s.bootEnded ∧ (s.putB f v).lastFail = s.lastFail ∧
    (s.putB f v).graceWait = s.graceWait ∧ (s.putB f v).eccLatch = s.eccLatch ∧ (s.putB f v).dma = s.dma ∧
    (s.putB f v).dmaDue = s.dmaDue ∧ (s.putB f v).ring = s.ring ∧ (s.putB f v).pair = s.pair ∧
    (s.putB f v).vddio = s.vddio ∧ (s.putB f v).inReset = s.inReset ∧ (s.putB f v).readBack = s.readBack ∧
    (s.putB f v).commits = s.commits ∧ (s.putB f v).pending = s.pending ∧ (s.putB f v).free = s.free ∧
    (∀ k, (s.putB f v).cell k = s.cell k) ∧ (∀ k, (s.putB f v).bank k = s.bank k) ∧
    (∀ k, (s.putB f v).lcell k = s.lcell k) ∧ (∀ k, (s.putB f v).lbank k = s.lbank k) ∧
    (∀ k, (s.putB f v).byteAt k = s.byteAt k) := by
  and_intros <;> intros <;> rfl

@[simp] theorem addSat_fields (s : State) (f : Fld) (v : Nat) :
    (s.addSat f v).shadow = s.shadow ∧ (s.addSat f v).shadowLate = s.shadowLate ∧ (s.addSat f v).fresh = s.fresh ∧
    (s.addSat f v).mem = s.mem ∧ (s.addSat f v).cells = s.cells ∧ (s.addSat f v).banks = s.banks ∧
    (s.addSat f v).meas = s.meas ∧ (s.addSat f v).units = s.units ∧ (s.addSat f v).nv = s.nv ∧
    (s.addSat f v).candle = s.candle ∧ (s.addSat f v).txns = s.txns ∧ (s.addSat f v).txnOpen = s.txnOpen ∧
    (s.addSat f v).txnId = s.txnId ∧ (s.addSat f v).load = s.load ∧ (s.addSat f v).fwLoad = s.fwLoad ∧
    (s.addSat f v).fabLoaded = s.fabLoaded ∧ (s.addSat f v).secRun = s.secRun ∧ (s.addSat f v).nvRead = s.nvRead ∧
    (s.addSat f v).dbgNonce = s.dbgNonce ∧ (s.addSat f v).dbgRead = s.dbgRead ∧ (s.addSat f v).scan = s.scan ∧
    (s.addSat f v).trimHeld = s.trimHeld ∧ (s.addSat f v).trimSteps = s.trimSteps ∧
    (s.addSat f v).trimStore = s.trimStore ∧ (s.addSat f v).lcells = s.lcells ∧ (s.addSat f v).lbanks = s.lbanks ∧
    (s.addSat f v).cycle = s.cycle ∧ (s.addSat f v).now = s.now ∧ (s.addSat f v).timeAhead = s.timeAhead ∧
    (s.addSat f v).fuseDone = s.fuseDone ∧ (s.addSat f v).seatAge = s.seatAge ∧ (s.addSat f v).seatFresh = s.seatFresh ∧
    (s.addSat f v).resp = s.resp ∧ (s.addSat f v).wdgStart = s.wdgStart ∧ (s.addSat f v).wdgOpen = s.wdgOpen ∧
    (s.addSat f v).wdgTimeout = s.wdgTimeout ∧ (s.addSat f v).wdgServicer = s.wdgServicer ∧
    (s.addSat f v).resleep = s.resleep ∧ (s.addSat f v).wokeBy = s.wokeBy ∧ (s.addSat f v).dueLines = s.dueLines ∧
    (s.addSat f v).releasedAt = s.releasedAt ∧ (s.addSat f v).xtalSince = s.xtalSince ∧
    (s.addSat f v).restoreReq = s.restoreReq ∧ (s.addSat f v).bootEnded = s.bootEnded ∧
    (s.addSat f v).lastFail = s.lastFail ∧ (s.addSat f v).graceWait = s.graceWait ∧
    (s.addSat f v).eccLatch = s.eccLatch ∧ (s.addSat f v).dma = s.dma ∧ (s.addSat f v).dmaDue = s.dmaDue ∧
    (s.addSat f v).ring = s.ring ∧ (s.addSat f v).pair = s.pair ∧ (s.addSat f v).vddio = s.vddio ∧
    (s.addSat f v).inReset = s.inReset ∧ (s.addSat f v).readBack = s.readBack ∧ (s.addSat f v).commits = s.commits ∧
    (s.addSat f v).pending = s.pending ∧ (s.addSat f v).free = s.free ∧ (∀ k, (s.addSat f v).cell k = s.cell k) ∧
    (∀ k, (s.addSat f v).bank k = s.bank k) ∧ (∀ k, (s.addSat f v).lcell k = s.lcell k) ∧
    (∀ k, (s.addSat f v).lbank k = s.lbank k) ∧ (∀ k, (s.addSat f v).byteAt k = s.byteAt k) := by
  and_intros <;> intros <;> rfl

@[simp] theorem addWrap_fields (s : State) (f : Fld) (v : Nat) :
    (s.addWrap f v).shadow = s.shadow ∧ (s.addWrap f v).shadowLate = s.shadowLate ∧ (s.addWrap f v).fresh = s.fresh ∧
    (s.addWrap f v).mem = s.mem ∧ (s.addWrap f v).cells = s.cells ∧ (s.addWrap f v).banks = s.banks ∧
    (s.addWrap f v).meas = s.meas ∧ (s.addWrap f v).units = s.units ∧ (s.addWrap f v).nv = s.nv ∧
    (s.addWrap f v).candle = s.candle ∧ (s.addWrap f v).txns = s.txns ∧ (s.addWrap f v).txnOpen = s.txnOpen ∧
    (s.addWrap f v).txnId = s.txnId ∧ (s.addWrap f v).load = s.load ∧ (s.addWrap f v).fwLoad = s.fwLoad ∧
    (s.addWrap f v).fabLoaded = s.fabLoaded ∧ (s.addWrap f v).secRun = s.secRun ∧ (s.addWrap f v).nvRead = s.nvRead ∧
    (s.addWrap f v).dbgNonce = s.dbgNonce ∧ (s.addWrap f v).dbgRead = s.dbgRead ∧ (s.addWrap f v).scan = s.scan ∧
    (s.addWrap f v).trimHeld = s.trimHeld ∧ (s.addWrap f v).trimSteps = s.trimSteps ∧
    (s.addWrap f v).trimStore = s.trimStore ∧ (s.addWrap f v).lcells = s.lcells ∧ (s.addWrap f v).lbanks = s.lbanks ∧
    (s.addWrap f v).cycle = s.cycle ∧ (s.addWrap f v).now = s.now ∧ (s.addWrap f v).timeAhead = s.timeAhead ∧
    (s.addWrap f v).fuseDone = s.fuseDone ∧ (s.addWrap f v).seatAge = s.seatAge ∧
    (s.addWrap f v).seatFresh = s.seatFresh ∧ (s.addWrap f v).resp = s.resp ∧ (s.addWrap f v).wdgStart = s.wdgStart ∧
    (s.addWrap f v).wdgOpen = s.wdgOpen ∧ (s.addWrap f v).wdgTimeout = s.wdgTimeout ∧
    (s.addWrap f v).wdgServicer = s.wdgServicer ∧ (s.addWrap f v).resleep = s.resleep ∧
    (s.addWrap f v).wokeBy = s.wokeBy ∧ (s.addWrap f v).dueLines = s.dueLines ∧
    (s.addWrap f v).releasedAt = s.releasedAt ∧ (s.addWrap f v).xtalSince = s.xtalSince ∧
    (s.addWrap f v).restoreReq = s.restoreReq ∧ (s.addWrap f v).bootEnded = s.bootEnded ∧
    (s.addWrap f v).lastFail = s.lastFail ∧ (s.addWrap f v).graceWait = s.graceWait ∧
    (s.addWrap f v).eccLatch = s.eccLatch ∧ (s.addWrap f v).dma = s.dma ∧ (s.addWrap f v).dmaDue = s.dmaDue ∧
    (s.addWrap f v).ring = s.ring ∧ (s.addWrap f v).pair = s.pair ∧ (s.addWrap f v).vddio = s.vddio ∧
    (s.addWrap f v).inReset = s.inReset ∧ (s.addWrap f v).readBack = s.readBack ∧ (s.addWrap f v).commits = s.commits ∧
    (s.addWrap f v).pending = s.pending ∧ (s.addWrap f v).free = s.free ∧ (∀ k, (s.addWrap f v).cell k = s.cell k) ∧
    (∀ k, (s.addWrap f v).bank k = s.bank k) ∧ (∀ k, (s.addWrap f v).lcell k = s.lcell k) ∧
    (∀ k, (s.addWrap f v).lbank k = s.lbank k) ∧ (∀ k, (s.addWrap f v).byteAt k = s.byteAt k) := by
  and_intros <;> intros <;> rfl

@[simp] theorem raiseBits_fields (s : State) (a : Nat) (v : Word) :
    (s.raiseBits a v).shadow = s.shadow ∧ (s.raiseBits a v).shadowLate = s.shadowLate ∧ (s.raiseBits a v).mem = s.mem ∧
    (s.raiseBits a v).cells = s.cells ∧ (s.raiseBits a v).banks = s.banks ∧ (s.raiseBits a v).meas = s.meas ∧
    (s.raiseBits a v).units = s.units ∧ (s.raiseBits a v).nv = s.nv ∧ (s.raiseBits a v).candle = s.candle ∧
    (s.raiseBits a v).txns = s.txns ∧ (s.raiseBits a v).txnOpen = s.txnOpen ∧ (s.raiseBits a v).txnId = s.txnId ∧
    (s.raiseBits a v).load = s.load ∧ (s.raiseBits a v).fwLoad = s.fwLoad ∧ (s.raiseBits a v).fabLoaded = s.fabLoaded ∧
    (s.raiseBits a v).secRun = s.secRun ∧ (s.raiseBits a v).nvRead = s.nvRead ∧
    (s.raiseBits a v).dbgNonce = s.dbgNonce ∧ (s.raiseBits a v).dbgRead = s.dbgRead ∧ (s.raiseBits a v).scan = s.scan ∧
    (s.raiseBits a v).trimHeld = s.trimHeld ∧ (s.raiseBits a v).trimSteps = s.trimSteps ∧
    (s.raiseBits a v).trimStore = s.trimStore ∧ (s.raiseBits a v).lcells = s.lcells ∧
    (s.raiseBits a v).lbanks = s.lbanks ∧ (s.raiseBits a v).cycle = s.cycle ∧ (s.raiseBits a v).now = s.now ∧
    (s.raiseBits a v).timeAhead = s.timeAhead ∧ (s.raiseBits a v).fuseDone = s.fuseDone ∧
    (s.raiseBits a v).seatAge = s.seatAge ∧ (s.raiseBits a v).seatFresh = s.seatFresh ∧
    (s.raiseBits a v).resp = s.resp ∧ (s.raiseBits a v).wdgStart = s.wdgStart ∧ (s.raiseBits a v).wdgOpen = s.wdgOpen ∧
    (s.raiseBits a v).wdgTimeout = s.wdgTimeout ∧ (s.raiseBits a v).wdgServicer = s.wdgServicer ∧
    (s.raiseBits a v).resleep = s.resleep ∧ (s.raiseBits a v).wokeBy = s.wokeBy ∧
    (s.raiseBits a v).dueLines = s.dueLines ∧ (s.raiseBits a v).releasedAt = s.releasedAt ∧
    (s.raiseBits a v).xtalSince = s.xtalSince ∧ (s.raiseBits a v).restoreReq = s.restoreReq ∧
    (s.raiseBits a v).bootEnded = s.bootEnded ∧ (s.raiseBits a v).lastFail = s.lastFail ∧
    (s.raiseBits a v).graceWait = s.graceWait ∧ (s.raiseBits a v).eccLatch = s.eccLatch ∧
    (s.raiseBits a v).dma = s.dma ∧ (s.raiseBits a v).dmaDue = s.dmaDue ∧ (s.raiseBits a v).ring = s.ring ∧
    (s.raiseBits a v).pair = s.pair ∧ (s.raiseBits a v).vddio = s.vddio ∧ (s.raiseBits a v).inReset = s.inReset ∧
    (s.raiseBits a v).readBack = s.readBack ∧ (s.raiseBits a v).commits = s.commits ∧
    (s.raiseBits a v).pending = s.pending ∧ (s.raiseBits a v).free = s.free ∧
    (∀ k, (s.raiseBits a v).cell k = s.cell k) ∧ (∀ k, (s.raiseBits a v).bank k = s.bank k) ∧
    (∀ k, (s.raiseBits a v).lcell k = s.lcell k) ∧ (∀ k, (s.raiseBits a v).lbank k = s.lbank k) ∧
    (∀ k, (s.raiseBits a v).byteAt k = s.byteAt k) := by
  and_intros <;> intros <;> rfl

@[simp] theorem raiseFld_fields (s : State) (f : Fld) :
    (s.raiseFld f).shadow = s.shadow ∧ (s.raiseFld f).shadowLate = s.shadowLate ∧ (s.raiseFld f).mem = s.mem ∧
    (s.raiseFld f).cells = s.cells ∧ (s.raiseFld f).banks = s.banks ∧ (s.raiseFld f).meas = s.meas ∧
    (s.raiseFld f).units = s.units ∧ (s.raiseFld f).nv = s.nv ∧ (s.raiseFld f).candle = s.candle ∧
    (s.raiseFld f).txns = s.txns ∧ (s.raiseFld f).txnOpen = s.txnOpen ∧ (s.raiseFld f).txnId = s.txnId ∧
    (s.raiseFld f).load = s.load ∧ (s.raiseFld f).fwLoad = s.fwLoad ∧ (s.raiseFld f).fabLoaded = s.fabLoaded ∧
    (s.raiseFld f).secRun = s.secRun ∧ (s.raiseFld f).nvRead = s.nvRead ∧ (s.raiseFld f).dbgNonce = s.dbgNonce ∧
    (s.raiseFld f).dbgRead = s.dbgRead ∧ (s.raiseFld f).scan = s.scan ∧ (s.raiseFld f).trimHeld = s.trimHeld ∧
    (s.raiseFld f).trimSteps = s.trimSteps ∧ (s.raiseFld f).trimStore = s.trimStore ∧ (s.raiseFld f).lcells = s.lcells ∧
    (s.raiseFld f).lbanks = s.lbanks ∧ (s.raiseFld f).cycle = s.cycle ∧ (s.raiseFld f).now = s.now ∧
    (s.raiseFld f).timeAhead = s.timeAhead ∧ (s.raiseFld f).fuseDone = s.fuseDone ∧ (s.raiseFld f).seatAge = s.seatAge ∧
    (s.raiseFld f).seatFresh = s.seatFresh ∧ (s.raiseFld f).resp = s.resp ∧ (s.raiseFld f).wdgStart = s.wdgStart ∧
    (s.raiseFld f).wdgOpen = s.wdgOpen ∧ (s.raiseFld f).wdgTimeout = s.wdgTimeout ∧
    (s.raiseFld f).wdgServicer = s.wdgServicer ∧ (s.raiseFld f).resleep = s.resleep ∧ (s.raiseFld f).wokeBy = s.wokeBy ∧
    (s.raiseFld f).dueLines = s.dueLines ∧ (s.raiseFld f).releasedAt = s.releasedAt ∧
    (s.raiseFld f).xtalSince = s.xtalSince ∧ (s.raiseFld f).restoreReq = s.restoreReq ∧
    (s.raiseFld f).bootEnded = s.bootEnded ∧ (s.raiseFld f).lastFail = s.lastFail ∧
    (s.raiseFld f).graceWait = s.graceWait ∧ (s.raiseFld f).eccLatch = s.eccLatch ∧ (s.raiseFld f).dma = s.dma ∧
    (s.raiseFld f).dmaDue = s.dmaDue ∧ (s.raiseFld f).ring = s.ring ∧ (s.raiseFld f).pair = s.pair ∧
    (s.raiseFld f).vddio = s.vddio ∧ (s.raiseFld f).inReset = s.inReset ∧ (s.raiseFld f).readBack = s.readBack ∧
    (s.raiseFld f).commits = s.commits ∧ (s.raiseFld f).pending = s.pending ∧ (s.raiseFld f).free = s.free ∧
    (∀ k, (s.raiseFld f).cell k = s.cell k) ∧ (∀ k, (s.raiseFld f).bank k = s.bank k) ∧
    (∀ k, (s.raiseFld f).lcell k = s.lcell k) ∧ (∀ k, (s.raiseFld f).lbank k = s.lbank k) ∧
    (∀ k, (s.raiseFld f).byteAt k = s.byteAt k) := by
  and_intros <;> intros <;> rfl

@[simp] theorem setByte_fields (s : State) (a : Nat) (v : Byte) :
    (s.setByte a v).regs = s.regs ∧ (s.setByte a v).shadow = s.shadow ∧ (s.setByte a v).shadowLate = s.shadowLate ∧
    (s.setByte a v).fresh = s.fresh ∧ (s.setByte a v).cells = s.cells ∧ (s.setByte a v).banks = s.banks ∧
    (s.setByte a v).meas = s.meas ∧ (s.setByte a v).units = s.units ∧ (s.setByte a v).nv = s.nv ∧
    (s.setByte a v).candle = s.candle ∧ (s.setByte a v).txns = s.txns ∧ (s.setByte a v).txnOpen = s.txnOpen ∧
    (s.setByte a v).txnId = s.txnId ∧ (s.setByte a v).load = s.load ∧ (s.setByte a v).fwLoad = s.fwLoad ∧
    (s.setByte a v).fabLoaded = s.fabLoaded ∧ (s.setByte a v).secRun = s.secRun ∧ (s.setByte a v).nvRead = s.nvRead ∧
    (s.setByte a v).dbgNonce = s.dbgNonce ∧ (s.setByte a v).dbgRead = s.dbgRead ∧ (s.setByte a v).scan = s.scan ∧
    (s.setByte a v).trimHeld = s.trimHeld ∧ (s.setByte a v).trimSteps = s.trimSteps ∧
    (s.setByte a v).trimStore = s.trimStore ∧ (s.setByte a v).lcells = s.lcells ∧ (s.setByte a v).lbanks = s.lbanks ∧
    (s.setByte a v).cycle = s.cycle ∧ (s.setByte a v).now = s.now ∧ (s.setByte a v).timeAhead = s.timeAhead ∧
    (s.setByte a v).fuseDone = s.fuseDone ∧ (s.setByte a v).seatAge = s.seatAge ∧
    (s.setByte a v).seatFresh = s.seatFresh ∧ (s.setByte a v).resp = s.resp ∧ (s.setByte a v).wdgStart = s.wdgStart ∧
    (s.setByte a v).wdgOpen = s.wdgOpen ∧ (s.setByte a v).wdgTimeout = s.wdgTimeout ∧
    (s.setByte a v).wdgServicer = s.wdgServicer ∧ (s.setByte a v).resleep = s.resleep ∧
    (s.setByte a v).wokeBy = s.wokeBy ∧ (s.setByte a v).dueLines = s.dueLines ∧
    (s.setByte a v).releasedAt = s.releasedAt ∧ (s.setByte a v).xtalSince = s.xtalSince ∧
    (s.setByte a v).restoreReq = s.restoreReq ∧ (s.setByte a v).bootEnded = s.bootEnded ∧
    (s.setByte a v).lastFail = s.lastFail ∧ (s.setByte a v).graceWait = s.graceWait ∧
    (s.setByte a v).eccLatch = s.eccLatch ∧ (s.setByte a v).dma = s.dma ∧ (s.setByte a v).dmaDue = s.dmaDue ∧
    (s.setByte a v).ring = s.ring ∧ (s.setByte a v).pair = s.pair ∧ (s.setByte a v).vddio = s.vddio ∧
    (s.setByte a v).inReset = s.inReset ∧ (s.setByte a v).readBack = s.readBack ∧ (s.setByte a v).commits = s.commits ∧
    (s.setByte a v).pending = s.pending ∧ (s.setByte a v).free = s.free ∧ (∀ k, (s.setByte a v).word k = s.word k) ∧
    (∀ k, (s.setByte a v).get k = s.get k) ∧ (∀ k, (s.setByte a v).isSet k = s.isSet k) ∧
    (s.setByte a v).mode = s.mode ∧ (∀ k, (s.setByte a v).cell k = s.cell k) ∧
    (∀ k, (s.setByte a v).bank k = s.bank k) ∧ (∀ k, (s.setByte a v).lcell k = s.lcell k) ∧
    (∀ k, (s.setByte a v).lbank k = s.lbank k) ∧ (s.setByte a v).mem = sparseSet memDefault s.mem a v := by
  and_intros <;> intros <;> rfl

@[simp] theorem modCell_fields (s : State) (n : Chan) (g : FCell → FCell) :
    (s.modCell n g).regs = s.regs ∧ (s.modCell n g).shadow = s.shadow ∧ (s.modCell n g).shadowLate = s.shadowLate ∧
    (s.modCell n g).fresh = s.fresh ∧ (s.modCell n g).mem = s.mem ∧ (s.modCell n g).banks = s.banks ∧
    (s.modCell n g).meas = s.meas ∧ (s.modCell n g).units = s.units ∧ (s.modCell n g).nv = s.nv ∧
    (s.modCell n g).candle = s.candle ∧ (s.modCell n g).txns = s.txns ∧ (s.modCell n g).txnOpen = s.txnOpen ∧
    (s.modCell n g).txnId = s.txnId ∧ (s.modCell n g).load = s.load ∧ (s.modCell n g).fwLoad = s.fwLoad ∧
    (s.modCell n g).fabLoaded = s.fabLoaded ∧ (s.modCell n g).secRun = s.secRun ∧ (s.modCell n g).nvRead = s.nvRead ∧
    (s.modCell n g).dbgNonce = s.dbgNonce ∧ (s.modCell n g).dbgRead = s.dbgRead ∧ (s.modCell n g).scan = s.scan ∧
    (s.modCell n g).trimHeld = s.trimHeld ∧ (s.modCell n g).trimSteps = s.trimSteps ∧
    (s.modCell n g).trimStore = s.trimStore ∧ (s.modCell n g).lcells = s.lcells ∧ (s.modCell n g).lbanks = s.lbanks ∧
    (s.modCell n g).cycle = s.cycle ∧ (s.modCell n g).now = s.now ∧ (s.modCell n g).timeAhead = s.timeAhead ∧
    (s.modCell n g).fuseDone = s.fuseDone ∧ (s.modCell n g).seatAge = s.seatAge ∧
    (s.modCell n g).seatFresh = s.seatFresh ∧ (s.modCell n g).resp = s.resp ∧ (s.modCell n g).wdgStart = s.wdgStart ∧
    (s.modCell n g).wdgOpen = s.wdgOpen ∧ (s.modCell n g).wdgTimeout = s.wdgTimeout ∧
    (s.modCell n g).wdgServicer = s.wdgServicer ∧ (s.modCell n g).resleep = s.resleep ∧
    (s.modCell n g).wokeBy = s.wokeBy ∧ (s.modCell n g).dueLines = s.dueLines ∧
    (s.modCell n g).releasedAt = s.releasedAt ∧ (s.modCell n g).xtalSince = s.xtalSince ∧
    (s.modCell n g).restoreReq = s.restoreReq ∧ (s.modCell n g).bootEnded = s.bootEnded ∧
    (s.modCell n g).lastFail = s.lastFail ∧ (s.modCell n g).graceWait = s.graceWait ∧
    (s.modCell n g).eccLatch = s.eccLatch ∧ (s.modCell n g).dma = s.dma ∧ (s.modCell n g).dmaDue = s.dmaDue ∧
    (s.modCell n g).ring = s.ring ∧ (s.modCell n g).pair = s.pair ∧ (s.modCell n g).vddio = s.vddio ∧
    (s.modCell n g).inReset = s.inReset ∧ (s.modCell n g).readBack = s.readBack ∧ (s.modCell n g).commits = s.commits ∧
    (s.modCell n g).pending = s.pending ∧ (s.modCell n g).free = s.free ∧ (∀ k, (s.modCell n g).word k = s.word k) ∧
    (∀ k, (s.modCell n g).get k = s.get k) ∧ (∀ k, (s.modCell n g).isSet k = s.isSet k) ∧
    (s.modCell n g).mode = s.mode ∧ (∀ k, (s.modCell n g).bank k = s.bank k) ∧
    (∀ k, (s.modCell n g).lcell k = s.lcell k) ∧ (∀ k, (s.modCell n g).lbank k = s.lbank k) ∧
    (∀ k, (s.modCell n g).byteAt k = s.byteAt k) ∧ (s.modCell n g).cells = s.cells.set n (g s.cells[n]) := by
  and_intros <;> intros <;> rfl

@[simp] theorem modBank_fields (s : State) (n : Bank) (g : FBank → FBank) :
    (s.modBank n g).regs = s.regs ∧ (s.modBank n g).shadow = s.shadow ∧ (s.modBank n g).shadowLate = s.shadowLate ∧
    (s.modBank n g).fresh = s.fresh ∧ (s.modBank n g).mem = s.mem ∧ (s.modBank n g).cells = s.cells ∧
    (s.modBank n g).meas = s.meas ∧ (s.modBank n g).units = s.units ∧ (s.modBank n g).nv = s.nv ∧
    (s.modBank n g).candle = s.candle ∧ (s.modBank n g).txns = s.txns ∧ (s.modBank n g).txnOpen = s.txnOpen ∧
    (s.modBank n g).txnId = s.txnId ∧ (s.modBank n g).load = s.load ∧ (s.modBank n g).fwLoad = s.fwLoad ∧
    (s.modBank n g).fabLoaded = s.fabLoaded ∧ (s.modBank n g).secRun = s.secRun ∧ (s.modBank n g).nvRead = s.nvRead ∧
    (s.modBank n g).dbgNonce = s.dbgNonce ∧ (s.modBank n g).dbgRead = s.dbgRead ∧ (s.modBank n g).scan = s.scan ∧
    (s.modBank n g).trimHeld = s.trimHeld ∧ (s.modBank n g).trimSteps = s.trimSteps ∧
    (s.modBank n g).trimStore = s.trimStore ∧ (s.modBank n g).lcells = s.lcells ∧ (s.modBank n g).lbanks = s.lbanks ∧
    (s.modBank n g).cycle = s.cycle ∧ (s.modBank n g).now = s.now ∧ (s.modBank n g).timeAhead = s.timeAhead ∧
    (s.modBank n g).fuseDone = s.fuseDone ∧ (s.modBank n g).seatAge = s.seatAge ∧
    (s.modBank n g).seatFresh = s.seatFresh ∧ (s.modBank n g).resp = s.resp ∧ (s.modBank n g).wdgStart = s.wdgStart ∧
    (s.modBank n g).wdgOpen = s.wdgOpen ∧ (s.modBank n g).wdgTimeout = s.wdgTimeout ∧
    (s.modBank n g).wdgServicer = s.wdgServicer ∧ (s.modBank n g).resleep = s.resleep ∧
    (s.modBank n g).wokeBy = s.wokeBy ∧ (s.modBank n g).dueLines = s.dueLines ∧
    (s.modBank n g).releasedAt = s.releasedAt ∧ (s.modBank n g).xtalSince = s.xtalSince ∧
    (s.modBank n g).restoreReq = s.restoreReq ∧ (s.modBank n g).bootEnded = s.bootEnded ∧
    (s.modBank n g).lastFail = s.lastFail ∧ (s.modBank n g).graceWait = s.graceWait ∧
    (s.modBank n g).eccLatch = s.eccLatch ∧ (s.modBank n g).dma = s.dma ∧ (s.modBank n g).dmaDue = s.dmaDue ∧
    (s.modBank n g).ring = s.ring ∧ (s.modBank n g).pair = s.pair ∧ (s.modBank n g).vddio = s.vddio ∧
    (s.modBank n g).inReset = s.inReset ∧ (s.modBank n g).readBack = s.readBack ∧ (s.modBank n g).commits = s.commits ∧
    (s.modBank n g).pending = s.pending ∧ (s.modBank n g).free = s.free ∧ (∀ k, (s.modBank n g).word k = s.word k) ∧
    (∀ k, (s.modBank n g).get k = s.get k) ∧ (∀ k, (s.modBank n g).isSet k = s.isSet k) ∧
    (s.modBank n g).mode = s.mode ∧ (∀ k, (s.modBank n g).cell k = s.cell k) ∧
    (∀ k, (s.modBank n g).lcell k = s.lcell k) ∧ (∀ k, (s.modBank n g).lbank k = s.lbank k) ∧
    (∀ k, (s.modBank n g).byteAt k = s.byteAt k) ∧ (s.modBank n g).banks = s.banks.set n (g s.banks[n]) := by
  and_intros <;> intros <;> rfl

@[simp] theorem modLcell_fields (s : State) (n : Chan) (g : LCell → LCell) :
    (s.modLcell n g).regs = s.regs ∧ (s.modLcell n g).shadow = s.shadow ∧ (s.modLcell n g).shadowLate = s.shadowLate ∧
    (s.modLcell n g).fresh = s.fresh ∧ (s.modLcell n g).mem = s.mem ∧ (s.modLcell n g).cells = s.cells ∧
    (s.modLcell n g).banks = s.banks ∧ (s.modLcell n g).meas = s.meas ∧ (s.modLcell n g).units = s.units ∧
    (s.modLcell n g).nv = s.nv ∧ (s.modLcell n g).candle = s.candle ∧ (s.modLcell n g).txns = s.txns ∧
    (s.modLcell n g).txnOpen = s.txnOpen ∧ (s.modLcell n g).txnId = s.txnId ∧ (s.modLcell n g).load = s.load ∧
    (s.modLcell n g).fwLoad = s.fwLoad ∧ (s.modLcell n g).fabLoaded = s.fabLoaded ∧ (s.modLcell n g).secRun = s.secRun ∧
    (s.modLcell n g).nvRead = s.nvRead ∧ (s.modLcell n g).dbgNonce = s.dbgNonce ∧ (s.modLcell n g).dbgRead = s.dbgRead ∧
    (s.modLcell n g).scan = s.scan ∧ (s.modLcell n g).trimHeld = s.trimHeld ∧ (s.modLcell n g).trimSteps = s.trimSteps ∧
    (s.modLcell n g).trimStore = s.trimStore ∧ (s.modLcell n g).lbanks = s.lbanks ∧ (s.modLcell n g).cycle = s.cycle ∧
    (s.modLcell n g).now = s.now ∧ (s.modLcell n g).timeAhead = s.timeAhead ∧ (s.modLcell n g).fuseDone = s.fuseDone ∧
    (s.modLcell n g).seatAge = s.seatAge ∧ (s.modLcell n g).seatFresh = s.seatFresh ∧ (s.modLcell n g).resp = s.resp ∧
    (s.modLcell n g).wdgStart = s.wdgStart ∧ (s.modLcell n g).wdgOpen = s.wdgOpen ∧
    (s.modLcell n g).wdgTimeout = s.wdgTimeout ∧ (s.modLcell n g).wdgServicer = s.wdgServicer ∧
    (s.modLcell n g).resleep = s.resleep ∧ (s.modLcell n g).wokeBy = s.wokeBy ∧ (s.modLcell n g).dueLines = s.dueLines ∧
    (s.modLcell n g).releasedAt = s.releasedAt ∧ (s.modLcell n g).xtalSince = s.xtalSince ∧
    (s.modLcell n g).restoreReq = s.restoreReq ∧ (s.modLcell n g).bootEnded = s.bootEnded ∧
    (s.modLcell n g).lastFail = s.lastFail ∧ (s.modLcell n g).graceWait = s.graceWait ∧
    (s.modLcell n g).eccLatch = s.eccLatch ∧ (s.modLcell n g).dma = s.dma ∧ (s.modLcell n g).dmaDue = s.dmaDue ∧
    (s.modLcell n g).ring = s.ring ∧ (s.modLcell n g).pair = s.pair ∧ (s.modLcell n g).vddio = s.vddio ∧
    (s.modLcell n g).inReset = s.inReset ∧ (s.modLcell n g).readBack = s.readBack ∧
    (s.modLcell n g).commits = s.commits ∧ (s.modLcell n g).pending = s.pending ∧ (s.modLcell n g).free = s.free ∧
    (∀ k, (s.modLcell n g).word k = s.word k) ∧ (∀ k, (s.modLcell n g).get k = s.get k) ∧
    (∀ k, (s.modLcell n g).isSet k = s.isSet k) ∧ (s.modLcell n g).mode = s.mode ∧
    (∀ k, (s.modLcell n g).cell k = s.cell k) ∧ (∀ k, (s.modLcell n g).bank k = s.bank k) ∧
    (∀ k, (s.modLcell n g).lbank k = s.lbank k) ∧ (∀ k, (s.modLcell n g).byteAt k = s.byteAt k) ∧
    (s.modLcell n g).lcells = s.lcells.set n (g s.lcells[n]) := by
  and_intros <;> intros <;> rfl

@[simp] theorem modLbank_fields (s : State) (n : Bank) (g : LBank → LBank) :
    (s.modLbank n g).regs = s.regs ∧ (s.modLbank n g).shadow = s.shadow ∧ (s.modLbank n g).shadowLate = s.shadowLate ∧
    (s.modLbank n g).fresh = s.fresh ∧ (s.modLbank n g).mem = s.mem ∧ (s.modLbank n g).cells = s.cells ∧
    (s.modLbank n g).banks = s.banks ∧ (s.modLbank n g).meas = s.meas ∧ (s.modLbank n g).units = s.units ∧
    (s.modLbank n g).nv = s.nv ∧ (s.modLbank n g).candle = s.candle ∧ (s.modLbank n g).txns = s.txns ∧
    (s.modLbank n g).txnOpen = s.txnOpen ∧ (s.modLbank n g).txnId = s.txnId ∧ (s.modLbank n g).load = s.load ∧
    (s.modLbank n g).fwLoad = s.fwLoad ∧ (s.modLbank n g).fabLoaded = s.fabLoaded ∧ (s.modLbank n g).secRun = s.secRun ∧
    (s.modLbank n g).nvRead = s.nvRead ∧ (s.modLbank n g).dbgNonce = s.dbgNonce ∧ (s.modLbank n g).dbgRead = s.dbgRead ∧
    (s.modLbank n g).scan = s.scan ∧ (s.modLbank n g).trimHeld = s.trimHeld ∧ (s.modLbank n g).trimSteps = s.trimSteps ∧
    (s.modLbank n g).trimStore = s.trimStore ∧ (s.modLbank n g).lcells = s.lcells ∧ (s.modLbank n g).cycle = s.cycle ∧
    (s.modLbank n g).now = s.now ∧ (s.modLbank n g).timeAhead = s.timeAhead ∧ (s.modLbank n g).fuseDone = s.fuseDone ∧
    (s.modLbank n g).seatAge = s.seatAge ∧ (s.modLbank n g).seatFresh = s.seatFresh ∧ (s.modLbank n g).resp = s.resp ∧
    (s.modLbank n g).wdgStart = s.wdgStart ∧ (s.modLbank n g).wdgOpen = s.wdgOpen ∧
    (s.modLbank n g).wdgTimeout = s.wdgTimeout ∧ (s.modLbank n g).wdgServicer = s.wdgServicer ∧
    (s.modLbank n g).resleep = s.resleep ∧ (s.modLbank n g).wokeBy = s.wokeBy ∧ (s.modLbank n g).dueLines = s.dueLines ∧
    (s.modLbank n g).releasedAt = s.releasedAt ∧ (s.modLbank n g).xtalSince = s.xtalSince ∧
    (s.modLbank n g).restoreReq = s.restoreReq ∧ (s.modLbank n g).bootEnded = s.bootEnded ∧
    (s.modLbank n g).lastFail = s.lastFail ∧ (s.modLbank n g).graceWait = s.graceWait ∧
    (s.modLbank n g).eccLatch = s.eccLatch ∧ (s.modLbank n g).dma = s.dma ∧ (s.modLbank n g).dmaDue = s.dmaDue ∧
    (s.modLbank n g).ring = s.ring ∧ (s.modLbank n g).pair = s.pair ∧ (s.modLbank n g).vddio = s.vddio ∧
    (s.modLbank n g).inReset = s.inReset ∧ (s.modLbank n g).readBack = s.readBack ∧
    (s.modLbank n g).commits = s.commits ∧ (s.modLbank n g).pending = s.pending ∧ (s.modLbank n g).free = s.free ∧
    (∀ k, (s.modLbank n g).word k = s.word k) ∧ (∀ k, (s.modLbank n g).get k = s.get k) ∧
    (∀ k, (s.modLbank n g).isSet k = s.isSet k) ∧ (s.modLbank n g).mode = s.mode ∧
    (∀ k, (s.modLbank n g).cell k = s.cell k) ∧ (∀ k, (s.modLbank n g).bank k = s.bank k) ∧
    (∀ k, (s.modLbank n g).lcell k = s.lcell k) ∧ (∀ k, (s.modLbank n g).byteAt k = s.byteAt k) ∧
    (s.modLbank n g).lbanks = s.lbanks.set n (g s.lbanks[n]) := by
  and_intros <;> intros <;> rfl

@[simp] theorem modMeas_fields (s : State) (n : Bank) (g : Meas → Meas) :
    (s.modMeas n g).regs = s.regs ∧ (s.modMeas n g).shadow = s.shadow ∧ (s.modMeas n g).shadowLate = s.shadowLate ∧
    (s.modMeas n g).fresh = s.fresh ∧ (s.modMeas n g).mem = s.mem ∧ (s.modMeas n g).cells = s.cells ∧
    (s.modMeas n g).banks = s.banks ∧ (s.modMeas n g).units = s.units ∧ (s.modMeas n g).nv = s.nv ∧
    (s.modMeas n g).candle = s.candle ∧ (s.modMeas n g).txns = s.txns ∧ (s.modMeas n g).txnOpen = s.txnOpen ∧
    (s.modMeas n g).txnId = s.txnId ∧ (s.modMeas n g).load = s.load ∧ (s.modMeas n g).fwLoad = s.fwLoad ∧
    (s.modMeas n g).fabLoaded = s.fabLoaded ∧ (s.modMeas n g).secRun = s.secRun ∧ (s.modMeas n g).nvRead = s.nvRead ∧
    (s.modMeas n g).dbgNonce = s.dbgNonce ∧ (s.modMeas n g).dbgRead = s.dbgRead ∧ (s.modMeas n g).scan = s.scan ∧
    (s.modMeas n g).trimHeld = s.trimHeld ∧ (s.modMeas n g).trimSteps = s.trimSteps ∧
    (s.modMeas n g).trimStore = s.trimStore ∧ (s.modMeas n g).lcells = s.lcells ∧ (s.modMeas n g).lbanks = s.lbanks ∧
    (s.modMeas n g).cycle = s.cycle ∧ (s.modMeas n g).now = s.now ∧ (s.modMeas n g).timeAhead = s.timeAhead ∧
    (s.modMeas n g).fuseDone = s.fuseDone ∧ (s.modMeas n g).seatAge = s.seatAge ∧
    (s.modMeas n g).seatFresh = s.seatFresh ∧ (s.modMeas n g).resp = s.resp ∧ (s.modMeas n g).wdgStart = s.wdgStart ∧
    (s.modMeas n g).wdgOpen = s.wdgOpen ∧ (s.modMeas n g).wdgTimeout = s.wdgTimeout ∧
    (s.modMeas n g).wdgServicer = s.wdgServicer ∧ (s.modMeas n g).resleep = s.resleep ∧
    (s.modMeas n g).wokeBy = s.wokeBy ∧ (s.modMeas n g).dueLines = s.dueLines ∧
    (s.modMeas n g).releasedAt = s.releasedAt ∧ (s.modMeas n g).xtalSince = s.xtalSince ∧
    (s.modMeas n g).restoreReq = s.restoreReq ∧ (s.modMeas n g).bootEnded = s.bootEnded ∧
    (s.modMeas n g).lastFail = s.lastFail ∧ (s.modMeas n g).graceWait = s.graceWait ∧
    (s.modMeas n g).eccLatch = s.eccLatch ∧ (s.modMeas n g).dma = s.dma ∧ (s.modMeas n g).dmaDue = s.dmaDue ∧
    (s.modMeas n g).ring = s.ring ∧ (s.modMeas n g).pair = s.pair ∧ (s.modMeas n g).vddio = s.vddio ∧
    (s.modMeas n g).inReset = s.inReset ∧ (s.modMeas n g).readBack = s.readBack ∧ (s.modMeas n g).commits = s.commits ∧
    (s.modMeas n g).pending = s.pending ∧ (s.modMeas n g).free = s.free ∧ (∀ k, (s.modMeas n g).word k = s.word k) ∧
    (∀ k, (s.modMeas n g).get k = s.get k) ∧ (∀ k, (s.modMeas n g).isSet k = s.isSet k) ∧
    (s.modMeas n g).mode = s.mode ∧ (∀ k, (s.modMeas n g).cell k = s.cell k) ∧
    (∀ k, (s.modMeas n g).bank k = s.bank k) ∧ (∀ k, (s.modMeas n g).lcell k = s.lcell k) ∧
    (∀ k, (s.modMeas n g).lbank k = s.lbank k) ∧ (∀ k, (s.modMeas n g).byteAt k = s.byteAt k) ∧
    (s.modMeas n g).meas = s.meas.set n (g s.meas[n]) := by
  and_intros <;> intros <;> rfl

@[simp] theorem modUnit_fields (s : State) (n : Unit96) (g : StatAcc → StatAcc) :
    (s.modUnit n g).regs = s.regs ∧ (s.modUnit n g).shadow = s.shadow ∧ (s.modUnit n g).shadowLate = s.shadowLate ∧
    (s.modUnit n g).fresh = s.fresh ∧ (s.modUnit n g).mem = s.mem ∧ (s.modUnit n g).cells = s.cells ∧
    (s.modUnit n g).banks = s.banks ∧ (s.modUnit n g).meas = s.meas ∧ (s.modUnit n g).nv = s.nv ∧
    (s.modUnit n g).candle = s.candle ∧ (s.modUnit n g).txns = s.txns ∧ (s.modUnit n g).txnOpen = s.txnOpen ∧
    (s.modUnit n g).txnId = s.txnId ∧ (s.modUnit n g).load = s.load ∧ (s.modUnit n g).fwLoad = s.fwLoad ∧
    (s.modUnit n g).fabLoaded = s.fabLoaded ∧ (s.modUnit n g).secRun = s.secRun ∧ (s.modUnit n g).nvRead = s.nvRead ∧
    (s.modUnit n g).dbgNonce = s.dbgNonce ∧ (s.modUnit n g).dbgRead = s.dbgRead ∧ (s.modUnit n g).scan = s.scan ∧
    (s.modUnit n g).trimHeld = s.trimHeld ∧ (s.modUnit n g).trimSteps = s.trimSteps ∧
    (s.modUnit n g).trimStore = s.trimStore ∧ (s.modUnit n g).lcells = s.lcells ∧ (s.modUnit n g).lbanks = s.lbanks ∧
    (s.modUnit n g).cycle = s.cycle ∧ (s.modUnit n g).now = s.now ∧ (s.modUnit n g).timeAhead = s.timeAhead ∧
    (s.modUnit n g).fuseDone = s.fuseDone ∧ (s.modUnit n g).seatAge = s.seatAge ∧
    (s.modUnit n g).seatFresh = s.seatFresh ∧ (s.modUnit n g).resp = s.resp ∧ (s.modUnit n g).wdgStart = s.wdgStart ∧
    (s.modUnit n g).wdgOpen = s.wdgOpen ∧ (s.modUnit n g).wdgTimeout = s.wdgTimeout ∧
    (s.modUnit n g).wdgServicer = s.wdgServicer ∧ (s.modUnit n g).resleep = s.resleep ∧
    (s.modUnit n g).wokeBy = s.wokeBy ∧ (s.modUnit n g).dueLines = s.dueLines ∧
    (s.modUnit n g).releasedAt = s.releasedAt ∧ (s.modUnit n g).xtalSince = s.xtalSince ∧
    (s.modUnit n g).restoreReq = s.restoreReq ∧ (s.modUnit n g).bootEnded = s.bootEnded ∧
    (s.modUnit n g).lastFail = s.lastFail ∧ (s.modUnit n g).graceWait = s.graceWait ∧
    (s.modUnit n g).eccLatch = s.eccLatch ∧ (s.modUnit n g).dma = s.dma ∧ (s.modUnit n g).dmaDue = s.dmaDue ∧
    (s.modUnit n g).ring = s.ring ∧ (s.modUnit n g).pair = s.pair ∧ (s.modUnit n g).vddio = s.vddio ∧
    (s.modUnit n g).inReset = s.inReset ∧ (s.modUnit n g).readBack = s.readBack ∧ (s.modUnit n g).commits = s.commits ∧
    (s.modUnit n g).pending = s.pending ∧ (s.modUnit n g).free = s.free ∧ (∀ k, (s.modUnit n g).word k = s.word k) ∧
    (∀ k, (s.modUnit n g).get k = s.get k) ∧ (∀ k, (s.modUnit n g).isSet k = s.isSet k) ∧
    (s.modUnit n g).mode = s.mode ∧ (∀ k, (s.modUnit n g).cell k = s.cell k) ∧
    (∀ k, (s.modUnit n g).bank k = s.bank k) ∧ (∀ k, (s.modUnit n g).lcell k = s.lcell k) ∧
    (∀ k, (s.modUnit n g).lbank k = s.lbank k) ∧ (∀ k, (s.modUnit n g).byteAt k = s.byteAt k) ∧
    (s.modUnit n g).units = s.units.set n (g s.units[n]) := by
  and_intros <;> intros <;> rfl

@[simp] theorem modNv_fields (s : State) (g : Nv → Nv) :
    (s.modNv g).regs = s.regs ∧ (s.modNv g).shadow = s.shadow ∧ (s.modNv g).shadowLate = s.shadowLate ∧
    (s.modNv g).fresh = s.fresh ∧ (s.modNv g).mem = s.mem ∧ (s.modNv g).cells = s.cells ∧ (s.modNv g).banks = s.banks ∧
    (s.modNv g).meas = s.meas ∧ (s.modNv g).units = s.units ∧ (s.modNv g).candle = s.candle ∧
    (s.modNv g).txns = s.txns ∧ (s.modNv g).txnOpen = s.txnOpen ∧ (s.modNv g).txnId = s.txnId ∧
    (s.modNv g).load = s.load ∧ (s.modNv g).fwLoad = s.fwLoad ∧ (s.modNv g).fabLoaded = s.fabLoaded ∧
    (s.modNv g).secRun = s.secRun ∧ (s.modNv g).nvRead = s.nvRead ∧ (s.modNv g).dbgNonce = s.dbgNonce ∧
    (s.modNv g).dbgRead = s.dbgRead ∧ (s.modNv g).scan = s.scan ∧ (s.modNv g).trimHeld = s.trimHeld ∧
    (s.modNv g).trimSteps = s.trimSteps ∧ (s.modNv g).trimStore = s.trimStore ∧ (s.modNv g).lcells = s.lcells ∧
    (s.modNv g).lbanks = s.lbanks ∧ (s.modNv g).cycle = s.cycle ∧ (s.modNv g).now = s.now ∧
    (s.modNv g).timeAhead = s.timeAhead ∧ (s.modNv g).fuseDone = s.fuseDone ∧ (s.modNv g).seatAge = s.seatAge ∧
    (s.modNv g).seatFresh = s.seatFresh ∧ (s.modNv g).resp = s.resp ∧ (s.modNv g).wdgStart = s.wdgStart ∧
    (s.modNv g).wdgOpen = s.wdgOpen ∧ (s.modNv g).wdgTimeout = s.wdgTimeout ∧ (s.modNv g).wdgServicer = s.wdgServicer ∧
    (s.modNv g).resleep = s.resleep ∧ (s.modNv g).wokeBy = s.wokeBy ∧ (s.modNv g).dueLines = s.dueLines ∧
    (s.modNv g).releasedAt = s.releasedAt ∧ (s.modNv g).xtalSince = s.xtalSince ∧
    (s.modNv g).restoreReq = s.restoreReq ∧ (s.modNv g).bootEnded = s.bootEnded ∧ (s.modNv g).lastFail = s.lastFail ∧
    (s.modNv g).graceWait = s.graceWait ∧ (s.modNv g).eccLatch = s.eccLatch ∧ (s.modNv g).dma = s.dma ∧
    (s.modNv g).dmaDue = s.dmaDue ∧ (s.modNv g).ring = s.ring ∧ (s.modNv g).pair = s.pair ∧
    (s.modNv g).vddio = s.vddio ∧ (s.modNv g).inReset = s.inReset ∧ (s.modNv g).readBack = s.readBack ∧
    (s.modNv g).commits = s.commits ∧ (s.modNv g).pending = s.pending ∧ (s.modNv g).free = s.free ∧
    (∀ k, (s.modNv g).word k = s.word k) ∧ (∀ k, (s.modNv g).get k = s.get k) ∧ (∀ k, (s.modNv g).isSet k = s.isSet k) ∧
    (s.modNv g).mode = s.mode ∧ (∀ k, (s.modNv g).cell k = s.cell k) ∧ (∀ k, (s.modNv g).bank k = s.bank k) ∧
    (∀ k, (s.modNv g).lcell k = s.lcell k) ∧ (∀ k, (s.modNv g).lbank k = s.lbank k) ∧
    (∀ k, (s.modNv g).byteAt k = s.byteAt k) ∧ (s.modNv g).nv = g s.nv := by
  and_intros <;> intros <;> rfl

@[simp] theorem modCandle_fields (s : State) (g : Candle → Candle) :
    (s.modCandle g).regs = s.regs ∧ (s.modCandle g).shadow = s.shadow ∧ (s.modCandle g).shadowLate = s.shadowLate ∧
    (s.modCandle g).fresh = s.fresh ∧ (s.modCandle g).mem = s.mem ∧ (s.modCandle g).cells = s.cells ∧
    (s.modCandle g).banks = s.banks ∧ (s.modCandle g).meas = s.meas ∧ (s.modCandle g).units = s.units ∧
    (s.modCandle g).nv = s.nv ∧ (s.modCandle g).txns = s.txns ∧ (s.modCandle g).txnOpen = s.txnOpen ∧
    (s.modCandle g).txnId = s.txnId ∧ (s.modCandle g).load = s.load ∧ (s.modCandle g).fwLoad = s.fwLoad ∧
    (s.modCandle g).fabLoaded = s.fabLoaded ∧ (s.modCandle g).secRun = s.secRun ∧ (s.modCandle g).nvRead = s.nvRead ∧
    (s.modCandle g).dbgNonce = s.dbgNonce ∧ (s.modCandle g).dbgRead = s.dbgRead ∧ (s.modCandle g).scan = s.scan ∧
    (s.modCandle g).trimHeld = s.trimHeld ∧ (s.modCandle g).trimSteps = s.trimSteps ∧
    (s.modCandle g).trimStore = s.trimStore ∧ (s.modCandle g).lcells = s.lcells ∧ (s.modCandle g).lbanks = s.lbanks ∧
    (s.modCandle g).cycle = s.cycle ∧ (s.modCandle g).now = s.now ∧ (s.modCandle g).timeAhead = s.timeAhead ∧
    (s.modCandle g).fuseDone = s.fuseDone ∧ (s.modCandle g).seatAge = s.seatAge ∧
    (s.modCandle g).seatFresh = s.seatFresh ∧ (s.modCandle g).resp = s.resp ∧ (s.modCandle g).wdgStart = s.wdgStart ∧
    (s.modCandle g).wdgOpen = s.wdgOpen ∧ (s.modCandle g).wdgTimeout = s.wdgTimeout ∧
    (s.modCandle g).wdgServicer = s.wdgServicer ∧ (s.modCandle g).resleep = s.resleep ∧
    (s.modCandle g).wokeBy = s.wokeBy ∧ (s.modCandle g).dueLines = s.dueLines ∧
    (s.modCandle g).releasedAt = s.releasedAt ∧ (s.modCandle g).xtalSince = s.xtalSince ∧
    (s.modCandle g).restoreReq = s.restoreReq ∧ (s.modCandle g).bootEnded = s.bootEnded ∧
    (s.modCandle g).lastFail = s.lastFail ∧ (s.modCandle g).graceWait = s.graceWait ∧
    (s.modCandle g).eccLatch = s.eccLatch ∧ (s.modCandle g).dma = s.dma ∧ (s.modCandle g).dmaDue = s.dmaDue ∧
    (s.modCandle g).ring = s.ring ∧ (s.modCandle g).pair = s.pair ∧ (s.modCandle g).vddio = s.vddio ∧
    (s.modCandle g).inReset = s.inReset ∧ (s.modCandle g).readBack = s.readBack ∧ (s.modCandle g).commits = s.commits ∧
    (s.modCandle g).pending = s.pending ∧ (s.modCandle g).free = s.free ∧ (∀ k, (s.modCandle g).word k = s.word k) ∧
    (∀ k, (s.modCandle g).get k = s.get k) ∧ (∀ k, (s.modCandle g).isSet k = s.isSet k) ∧
    (s.modCandle g).mode = s.mode ∧ (∀ k, (s.modCandle g).cell k = s.cell k) ∧
    (∀ k, (s.modCandle g).bank k = s.bank k) ∧ (∀ k, (s.modCandle g).lcell k = s.lcell k) ∧
    (∀ k, (s.modCandle g).lbank k = s.lbank k) ∧ (∀ k, (s.modCandle g).byteAt k = s.byteAt k) ∧
    (s.modCandle g).candle = g s.candle := by
  and_intros <;> intros <;> rfl

@[simp] theorem modDma_fields (s : State) (g : DmaSt → DmaSt) :
    (s.modDma g).regs = s.regs ∧ (s.modDma g).shadow = s.shadow ∧ (s.modDma g).shadowLate = s.shadowLate ∧
    (s.modDma g).fresh = s.fresh ∧ (s.modDma g).mem = s.mem ∧ (s.modDma g).cells = s.cells ∧
    (s.modDma g).banks = s.banks ∧ (s.modDma g).meas = s.meas ∧ (s.modDma g).units = s.units ∧ (s.modDma g).nv = s.nv ∧
    (s.modDma g).candle = s.candle ∧ (s.modDma g).txns = s.txns ∧ (s.modDma g).txnOpen = s.txnOpen ∧
    (s.modDma g).txnId = s.txnId ∧ (s.modDma g).load = s.load ∧ (s.modDma g).fwLoad = s.fwLoad ∧
    (s.modDma g).fabLoaded = s.fabLoaded ∧ (s.modDma g).secRun = s.secRun ∧ (s.modDma g).nvRead = s.nvRead ∧
    (s.modDma g).dbgNonce = s.dbgNonce ∧ (s.modDma g).dbgRead = s.dbgRead ∧ (s.modDma g).scan = s.scan ∧
    (s.modDma g).trimHeld = s.trimHeld ∧ (s.modDma g).trimSteps = s.trimSteps ∧ (s.modDma g).trimStore = s.trimStore ∧
    (s.modDma g).lcells = s.lcells ∧ (s.modDma g).lbanks = s.lbanks ∧ (s.modDma g).cycle = s.cycle ∧
    (s.modDma g).now = s.now ∧ (s.modDma g).timeAhead = s.timeAhead ∧ (s.modDma g).fuseDone = s.fuseDone ∧
    (s.modDma g).seatAge = s.seatAge ∧ (s.modDma g).seatFresh = s.seatFresh ∧ (s.modDma g).resp = s.resp ∧
    (s.modDma g).wdgStart = s.wdgStart ∧ (s.modDma g).wdgOpen = s.wdgOpen ∧ (s.modDma g).wdgTimeout = s.wdgTimeout ∧
    (s.modDma g).wdgServicer = s.wdgServicer ∧ (s.modDma g).resleep = s.resleep ∧ (s.modDma g).wokeBy = s.wokeBy ∧
    (s.modDma g).dueLines = s.dueLines ∧ (s.modDma g).releasedAt = s.releasedAt ∧ (s.modDma g).xtalSince = s.xtalSince ∧
    (s.modDma g).restoreReq = s.restoreReq ∧ (s.modDma g).bootEnded = s.bootEnded ∧ (s.modDma g).lastFail = s.lastFail ∧
    (s.modDma g).graceWait = s.graceWait ∧ (s.modDma g).eccLatch = s.eccLatch ∧ (s.modDma g).dmaDue = s.dmaDue ∧
    (s.modDma g).ring = s.ring ∧ (s.modDma g).pair = s.pair ∧ (s.modDma g).vddio = s.vddio ∧
    (s.modDma g).inReset = s.inReset ∧ (s.modDma g).readBack = s.readBack ∧ (s.modDma g).commits = s.commits ∧
    (s.modDma g).pending = s.pending ∧ (s.modDma g).free = s.free ∧ (∀ k, (s.modDma g).word k = s.word k) ∧
    (∀ k, (s.modDma g).get k = s.get k) ∧ (∀ k, (s.modDma g).isSet k = s.isSet k) ∧ (s.modDma g).mode = s.mode ∧
    (∀ k, (s.modDma g).cell k = s.cell k) ∧ (∀ k, (s.modDma g).bank k = s.bank k) ∧
    (∀ k, (s.modDma g).lcell k = s.lcell k) ∧ (∀ k, (s.modDma g).lbank k = s.lbank k) ∧
    (∀ k, (s.modDma g).byteAt k = s.byteAt k) ∧ (s.modDma g).dma = g s.dma := by
  and_intros <;> intros <;> rfl

@[simp] theorem modRing_fields (s : State) (g : RingSt → RingSt) :
    (s.modRing g).regs = s.regs ∧ (s.modRing g).shadow = s.shadow ∧ (s.modRing g).shadowLate = s.shadowLate ∧
    (s.modRing g).fresh = s.fresh ∧ (s.modRing g).mem = s.mem ∧ (s.modRing g).cells = s.cells ∧
    (s.modRing g).banks = s.banks ∧ (s.modRing g).meas = s.meas ∧ (s.modRing g).units = s.units ∧
    (s.modRing g).nv = s.nv ∧ (s.modRing g).candle = s.candle ∧ (s.modRing g).txns = s.txns ∧
    (s.modRing g).txnOpen = s.txnOpen ∧ (s.modRing g).txnId = s.txnId ∧ (s.modRing g).load = s.load ∧
    (s.modRing g).fwLoad = s.fwLoad ∧ (s.modRing g).fabLoaded = s.fabLoaded ∧ (s.modRing g).secRun = s.secRun ∧
    (s.modRing g).nvRead = s.nvRead ∧ (s.modRing g).dbgNonce = s.dbgNonce ∧ (s.modRing g).dbgRead = s.dbgRead ∧
    (s.modRing g).scan = s.scan ∧ (s.modRing g).trimHeld = s.trimHeld ∧ (s.modRing g).trimSteps = s.trimSteps ∧
    (s.modRing g).trimStore = s.trimStore ∧ (s.modRing g).lcells = s.lcells ∧ (s.modRing g).lbanks = s.lbanks ∧
    (s.modRing g).cycle = s.cycle ∧ (s.modRing g).now = s.now ∧ (s.modRing g).timeAhead = s.timeAhead ∧
    (s.modRing g).fuseDone = s.fuseDone ∧ (s.modRing g).seatAge = s.seatAge ∧ (s.modRing g).seatFresh = s.seatFresh ∧
    (s.modRing g).resp = s.resp ∧ (s.modRing g).wdgStart = s.wdgStart ∧ (s.modRing g).wdgOpen = s.wdgOpen ∧
    (s.modRing g).wdgTimeout = s.wdgTimeout ∧ (s.modRing g).wdgServicer = s.wdgServicer ∧
    (s.modRing g).resleep = s.resleep ∧ (s.modRing g).wokeBy = s.wokeBy ∧ (s.modRing g).dueLines = s.dueLines ∧
    (s.modRing g).releasedAt = s.releasedAt ∧ (s.modRing g).xtalSince = s.xtalSince ∧
    (s.modRing g).restoreReq = s.restoreReq ∧ (s.modRing g).bootEnded = s.bootEnded ∧
    (s.modRing g).lastFail = s.lastFail ∧ (s.modRing g).graceWait = s.graceWait ∧ (s.modRing g).eccLatch = s.eccLatch ∧
    (s.modRing g).dma = s.dma ∧ (s.modRing g).dmaDue = s.dmaDue ∧ (s.modRing g).pair = s.pair ∧
    (s.modRing g).vddio = s.vddio ∧ (s.modRing g).inReset = s.inReset ∧ (s.modRing g).readBack = s.readBack ∧
    (s.modRing g).commits = s.commits ∧ (s.modRing g).pending = s.pending ∧ (s.modRing g).free = s.free ∧
    (∀ k, (s.modRing g).word k = s.word k) ∧ (∀ k, (s.modRing g).get k = s.get k) ∧
    (∀ k, (s.modRing g).isSet k = s.isSet k) ∧ (s.modRing g).mode = s.mode ∧ (∀ k, (s.modRing g).cell k = s.cell k) ∧
    (∀ k, (s.modRing g).bank k = s.bank k) ∧ (∀ k, (s.modRing g).lcell k = s.lcell k) ∧
    (∀ k, (s.modRing g).lbank k = s.lbank k) ∧ (∀ k, (s.modRing g).byteAt k = s.byteAt k) ∧
    (s.modRing g).ring = g s.ring := by
  and_intros <;> intros <;> rfl

@[simp] theorem modPair_fields (s : State) (g : PairSt → PairSt) :
    (s.modPair g).regs = s.regs ∧ (s.modPair g).shadow = s.shadow ∧ (s.modPair g).shadowLate = s.shadowLate ∧
    (s.modPair g).fresh = s.fresh ∧ (s.modPair g).mem = s.mem ∧ (s.modPair g).cells = s.cells ∧
    (s.modPair g).banks = s.banks ∧ (s.modPair g).meas = s.meas ∧ (s.modPair g).units = s.units ∧
    (s.modPair g).nv = s.nv ∧ (s.modPair g).candle = s.candle ∧ (s.modPair g).txns = s.txns ∧
    (s.modPair g).txnOpen = s.txnOpen ∧ (s.modPair g).txnId = s.txnId ∧ (s.modPair g).load = s.load ∧
    (s.modPair g).fwLoad = s.fwLoad ∧ (s.modPair g).fabLoaded = s.fabLoaded ∧ (s.modPair g).secRun = s.secRun ∧
    (s.modPair g).nvRead = s.nvRead ∧ (s.modPair g).dbgNonce = s.dbgNonce ∧ (s.modPair g).dbgRead = s.dbgRead ∧
    (s.modPair g).scan = s.scan ∧ (s.modPair g).trimHeld = s.trimHeld ∧ (s.modPair g).trimSteps = s.trimSteps ∧
    (s.modPair g).trimStore = s.trimStore ∧ (s.modPair g).lcells = s.lcells ∧ (s.modPair g).lbanks = s.lbanks ∧
    (s.modPair g).cycle = s.cycle ∧ (s.modPair g).now = s.now ∧ (s.modPair g).timeAhead = s.timeAhead ∧
    (s.modPair g).fuseDone = s.fuseDone ∧ (s.modPair g).seatAge = s.seatAge ∧ (s.modPair g).seatFresh = s.seatFresh ∧
    (s.modPair g).resp = s.resp ∧ (s.modPair g).wdgStart = s.wdgStart ∧ (s.modPair g).wdgOpen = s.wdgOpen ∧
    (s.modPair g).wdgTimeout = s.wdgTimeout ∧ (s.modPair g).wdgServicer = s.wdgServicer ∧
    (s.modPair g).resleep = s.resleep ∧ (s.modPair g).wokeBy = s.wokeBy ∧ (s.modPair g).dueLines = s.dueLines ∧
    (s.modPair g).releasedAt = s.releasedAt ∧ (s.modPair g).xtalSince = s.xtalSince ∧
    (s.modPair g).restoreReq = s.restoreReq ∧ (s.modPair g).bootEnded = s.bootEnded ∧
    (s.modPair g).lastFail = s.lastFail ∧ (s.modPair g).graceWait = s.graceWait ∧ (s.modPair g).eccLatch = s.eccLatch ∧
    (s.modPair g).dma = s.dma ∧ (s.modPair g).dmaDue = s.dmaDue ∧ (s.modPair g).ring = s.ring ∧
    (s.modPair g).vddio = s.vddio ∧ (s.modPair g).inReset = s.inReset ∧ (s.modPair g).readBack = s.readBack ∧
    (s.modPair g).commits = s.commits ∧ (s.modPair g).pending = s.pending ∧ (s.modPair g).free = s.free ∧
    (∀ k, (s.modPair g).word k = s.word k) ∧ (∀ k, (s.modPair g).get k = s.get k) ∧
    (∀ k, (s.modPair g).isSet k = s.isSet k) ∧ (s.modPair g).mode = s.mode ∧ (∀ k, (s.modPair g).cell k = s.cell k) ∧
    (∀ k, (s.modPair g).bank k = s.bank k) ∧ (∀ k, (s.modPair g).lcell k = s.lcell k) ∧
    (∀ k, (s.modPair g).lbank k = s.lbank k) ∧ (∀ k, (s.modPair g).byteAt k = s.byteAt k) ∧
    (s.modPair g).pair = g s.pair := by
  and_intros <;> intros <;> rfl

@[simp] theorem useFree_fields (s : State)  :
    (s.useFree).regs = s.regs ∧ (s.useFree).shadow = s.shadow ∧ (s.useFree).shadowLate = s.shadowLate ∧
    (s.useFree).fresh = s.fresh ∧ (s.useFree).mem = s.mem ∧ (s.useFree).cells = s.cells ∧ (s.useFree).banks = s.banks ∧
    (s.useFree).meas = s.meas ∧ (s.useFree).units = s.units ∧ (s.useFree).nv = s.nv ∧ (s.useFree).candle = s.candle ∧
    (s.useFree).txns = s.txns ∧ (s.useFree).txnOpen = s.txnOpen ∧ (s.useFree).txnId = s.txnId ∧
    (s.useFree).load = s.load ∧ (s.useFree).fwLoad = s.fwLoad ∧ (s.useFree).fabLoaded = s.fabLoaded ∧
    (s.useFree).secRun = s.secRun ∧ (s.useFree).nvRead = s.nvRead ∧ (s.useFree).dbgNonce = s.dbgNonce ∧
    (s.useFree).dbgRead = s.dbgRead ∧ (s.useFree).scan = s.scan ∧ (s.useFree).trimHeld = s.trimHeld ∧
    (s.useFree).trimSteps = s.trimSteps ∧ (s.useFree).trimStore = s.trimStore ∧ (s.useFree).lcells = s.lcells ∧
    (s.useFree).lbanks = s.lbanks ∧ (s.useFree).cycle = s.cycle ∧ (s.useFree).now = s.now ∧
    (s.useFree).timeAhead = s.timeAhead ∧ (s.useFree).fuseDone = s.fuseDone ∧ (s.useFree).seatAge = s.seatAge ∧
    (s.useFree).seatFresh = s.seatFresh ∧ (s.useFree).resp = s.resp ∧ (s.useFree).wdgStart = s.wdgStart ∧
    (s.useFree).wdgOpen = s.wdgOpen ∧ (s.useFree).wdgTimeout = s.wdgTimeout ∧ (s.useFree).wdgServicer = s.wdgServicer ∧
    (s.useFree).resleep = s.resleep ∧ (s.useFree).wokeBy = s.wokeBy ∧ (s.useFree).dueLines = s.dueLines ∧
    (s.useFree).releasedAt = s.releasedAt ∧ (s.useFree).xtalSince = s.xtalSince ∧
    (s.useFree).restoreReq = s.restoreReq ∧ (s.useFree).bootEnded = s.bootEnded ∧ (s.useFree).lastFail = s.lastFail ∧
    (s.useFree).graceWait = s.graceWait ∧ (s.useFree).eccLatch = s.eccLatch ∧ (s.useFree).dma = s.dma ∧
    (s.useFree).dmaDue = s.dmaDue ∧ (s.useFree).ring = s.ring ∧ (s.useFree).pair = s.pair ∧
    (s.useFree).vddio = s.vddio ∧ (s.useFree).inReset = s.inReset ∧ (s.useFree).readBack = s.readBack ∧
    (s.useFree).commits = s.commits ∧ (s.useFree).pending = s.pending ∧ (∀ k, (s.useFree).word k = s.word k) ∧
    (∀ k, (s.useFree).get k = s.get k) ∧ (∀ k, (s.useFree).isSet k = s.isSet k) ∧ (s.useFree).mode = s.mode ∧
    (∀ k, (s.useFree).cell k = s.cell k) ∧ (∀ k, (s.useFree).bank k = s.bank k) ∧
    (∀ k, (s.useFree).lcell k = s.lcell k) ∧ (∀ k, (s.useFree).lbank k = s.lbank k) ∧
    (∀ k, (s.useFree).byteAt k = s.byteAt k) ∧ (s.useFree).free = s.free + 1 := by
  and_intros <;> intros <;> rfl

end Sys2Proof.Machine.State
end

