-- ==== Sys2Proof/Laws/Registers.lean ====
section
/-!
SUPPORT. What registers, fields, cells and bytes read after a write.
-/

namespace Sys2Proof.Machine

theorem getLsbD_ones (n w i : Nat) : ((BitVec.allOnes w).setWidth n).getLsbD i = (decide (i < n) && decide (i < w)) := by
  simp [BitVec.getLsbD_setWidth, BitVec.getLsbD_allOnes]

theorem getLsbD_setBits {n : Nat} (x : BitVec n) (lo w v i : Nat) (hi : i < n) :
    (setBits x lo w v).getLsbD i = if lo ≤ i ∧ i < lo + w then v.testBit (i - lo) else x.getLsbD i := by
  simp only [setBits, BitVec.getLsbD_or, BitVec.getLsbD_and, BitVec.getLsbD_not, BitVec.getLsbD_shiftLeft, getLsbD_ones,
    BitVec.getLsbD_ofNat, hi, decide_true, Bool.true_and]
  by_cases h1 : lo ≤ i
  · have h3 : i - lo < n := by omega
    by_cases h2 : i < lo + w
    · have h4 : i - lo < w := by omega
      have h5 : ¬ i < lo := by omega
      simp [h1, h2, h3, h4, h5]
    · have h4 : ¬ i - lo < w := by omega
      simp [h1, h2, h4]
  · simp [h1, Nat.lt_of_not_le h1]

/-- A field reads what was put into it, cut to its width. -/
theorem bits_setBits_same {n : Nat} (x : BitVec n) (lo w v : Nat) (h : lo + w ≤ n) :
    bits (setBits x lo w v) lo w = v % 2 ^ w := by
  apply Nat.eq_of_testBit_eq
  intro i
  rw [Nat.testBit_mod_two_pow, bits, BitVec.testBit_toNat, BitVec.getLsbD_extractLsb']
  by_cases hi : i < w
  · rw [getLsbD_setBits _ _ _ _ _ (by omega)]
    simp [hi]
  · simp [hi]

/-- A field is as it was after a write into another field of the word. -/
theorem bits_setBits_other {n : Nat} (x : BitVec n) (lo w v lo' w' : Nat) (h : lo' + w' ≤ n)
    (hd : lo' + w' ≤ lo ∨ lo + w ≤ lo') : bits (setBits x lo w v) lo' w' = bits x lo' w' := by
  apply Nat.eq_of_testBit_eq
  intro i
  rw [bits, bits, BitVec.testBit_toNat, BitVec.testBit_toNat, BitVec.getLsbD_extractLsb', BitVec.getLsbD_extractLsb']
  by_cases hi : i < w'
  · rw [getLsbD_setBits _ _ _ _ _ (by omega)]
    have : ¬ (lo ≤ lo' + i ∧ lo' + i < lo + w) := by omega
    simp [this]
  · simp [hi]

namespace State

theorem word_setWord (s : State) (a k : Nat) (v : Word) :
    (s.setWord a v).word k = if a = k then v else s.word k := sparseGet_set _ _ _ _ _

@[simp] theorem word_setWord_self (s : State) (a : Nat) (v : Word) : (s.setWord a v).word a = v := by simp [word_setWord]

theorem word_setWord_ne (s : State) {a k : Nat} (h : a ≠ k) (v : Word) : (s.setWord a v).word k = s.word k := by
  simp [word_setWord, h]

theorem word_put_ne (s : State) {f : Fld} {k : Nat} (h : f.addr ≠ k) (v : Nat) : (s.put f v).word k = s.word k :=
  word_setWord_ne s h _

/-- A field reads what was put into it. -/
theorem get_put_same (s : State) (f : Fld) (v : Nat) (h : f.lo + f.w ≤ 32) : (s.put f v).get f = v % 2 ^ f.w := by
  simp [get, put, bits_setBits_same _ _ _ _ h]

/-- A field of another register is as it was. -/
theorem get_put_ne (s : State) {f g : Fld} (h : f.addr ≠ g.addr) (v : Nat) : (s.put f v).get g = s.get g := by
  simp [get, word_put_ne s h]

/-- A field beside the one written is as it was. -/
theorem get_put_beside (s : State) {f g : Fld} (h : g.lo + g.w ≤ 32) (hd : g.lo + g.w ≤ f.lo ∨ f.lo + f.w ≤ g.lo)
    (v : Nat) : (s.put f v).get g = s.get g := by
  by_cases ha : f.addr = g.addr
  · rw [get, get, ← ha, put, word_setWord_self, bits_setBits_other _ _ _ _ _ _ h hd]
  · exact get_put_ne s ha v

theorem word_raiseBits (s : State) (a k : Nat) (m : Word) :
    (s.raiseBits a m).word k = if a = k then s.word a ||| m else s.word k := sparseGet_set _ _ _ _ _

@[simp] theorem cell_modCell_self (s : State) (n : Chan) (g : FCell → FCell) : (s.modCell n g).cell n = g (s.cell n) := by
  simp [cell, modCell]

theorem cell_modCell_ne (s : State) {n k : Chan} (h : n ≠ k) (g : FCell → FCell) : (s.modCell n g).cell k = s.cell k := by
  have : n.val ≠ k.val := fun e => h (Fin.ext e)
  simp [cell, modCell, this]

@[simp] theorem lcell_modLcell_self (s : State) (n : Chan) (g : LCell → LCell) : (s.modLcell n g).lcell n = g (s.lcell n) := by
  simp [lcell, modLcell]

theorem lcell_modLcell_ne (s : State) {n k : Chan} (h : n ≠ k) (g : LCell → LCell) :
    (s.modLcell n g).lcell k = s.lcell k := by
  have : n.val ≠ k.val := fun e => h (Fin.ext e)
  simp [lcell, modLcell, this]

@[simp] theorem bank_modBank_self (s : State) (b : Bank) (g : FBank → FBank) : (s.modBank b g).bank b = g (s.bank b) := by
  simp [bank, modBank]

theorem bank_modBank_ne (s : State) {b c : Bank} (h : b ≠ c) (g : FBank → FBank) : (s.modBank b g).bank c = s.bank c := by
  have : b.val ≠ c.val := fun e => h (Fin.ext e)
  simp [bank, modBank, this]

@[simp] theorem lbank_modLbank_self (s : State) (b : Bank) (g : LBank → LBank) : (s.modLbank b g).lbank b = g (s.lbank b) := by
  simp [lbank, modLbank]

theorem lbank_modLbank_ne (s : State) {b c : Bank} (h : b ≠ c) (g : LBank → LBank) :
    (s.modLbank b g).lbank c = s.lbank c := by
  have : b.val ≠ c.val := fun e => h (Fin.ext e)
  simp [lbank, modLbank, this]

theorem byteAt_setByte (s : State) (a k : Nat) (v : Byte) : (s.setByte a v).byteAt k = if a = k then v else s.byteAt k :=
  sparseGet_set _ _ _ _ _

/-- A byte outside the stored bytes reads as before. -/
theorem byteAt_setBytes_outside (s : State) (l : List Byte) (a k : Nat) (h : k < a ∨ a + l.length ≤ k) :
    (s.setBytes a l).byteAt k = s.byteAt k := by
  induction l generalizing s a with
  | nil => rfl
  | cons v t ih =>
    simp only [List.length_cons] at h
    rw [setBytes, ih _ _ (by omega), byteAt_setByte, if_neg (by omega)]

/-- Every store of bytes keeps the canonical form of memory. -/
theorem setBytes_wf {s : State} (h : Memory.wf s.mem) (l : List Byte) (a : Nat) : Memory.wf (s.setBytes a l).mem := by
  induction l generalizing s a with
  | nil => exact h
  | cons v t ih => exact ih (sparseSet_wf h a v) _

/-- Memory after reset has the canonical form. -/
theorem reset_mem_wf : Memory.wf State.reset.mem := by constructor <;> simp [State.reset]

end State

end Sys2Proof.Machine
end

