-- ==== Sys2Proof/Laws/Access.lean ====
section
/-!
SUPPORT. What an accepted write of one word comes to (R215, R217, R221), and where the registers of the blocks lie.
-/

namespace Sys2Proof.Machine

theorem describe_cell (n : Chan) {o : Nat} (h : o < 0x400) : describe (0x40000 + 0x400 * n.val + o) = findReg tableCell o := by
  have h1 : (0x40000 + 0x400 * n.val + o) % 0x100000000 = 0x40000 + 0x400 * n.val + o := by omega
  have h2 : (0x40000 + 0x400 * n.val + o) / 0x10000 = 4 := by omega
  have h3 : (0x40000 + 0x400 * n.val + o) % 0x10000 < 0x8000 := by omega
  have h4 : (0x40000 + 0x400 * n.val + o) % 0x10000 % 0x400 = o := by omega
  simp only [describe, h1, h2, h3, h4, if_true]

theorem describe_bank (b : Bank) {o : Nat} (h : o < 0x1000) : describe (0x50000 + 0x1000 * b.val + o) = findReg tableBank o := by
  have h1 : (0x50000 + 0x1000 * b.val + o) % 0x100000000 = 0x50000 + 0x1000 * b.val + o := by omega
  have h2 : (0x50000 + 0x1000 * b.val + o) / 0x10000 = 5 := by omega
  have h3 : (0x50000 + 0x1000 * b.val + o) % 0x10000 < 0x4000 := by omega
  have h4 : (0x50000 + 0x1000 * b.val + o) % 0x10000 % 0x1000 = o := by omega
  simp only [describe, h1, h2, h3, h4, if_true]

theorem describe_stat (u : Unit96) {o : Nat} (h : o < 0x80) : describe (0x60000 + 0x80 * u.val + o) = findReg tableStat o := by
  have h1 : (0x60000 + 0x80 * u.val + o) % 0x100000000 = 0x60000 + 0x80 * u.val + o := by omega
  have h2 : (0x60000 + 0x80 * u.val + o) / 0x10000 = 6 := by omega
  have h3 : (0x60000 + 0x80 * u.val + o) % 0x10000 < 0x3000 := by omega
  have h4 : (0x60000 + 0x80 * u.val + o) % 0x10000 % 0x80 = o := by omega
  simp only [describe, h1, h2, h3, h4, if_true]

namespace State

/-- The word to which a write of one word goes. -/
theorem writeAddrs_one (a : Nat) : writeAddrs a 1 = [a] := by
  simp only [writeAddrs, wordAddrs, List.range_one, List.map_cons, List.map_nil, Nat.mul_zero, Nat.add_zero, List.cons.injEq, and_true]
  (repeat' split) <;> omega

/-- A write of one word that every check lets through takes effect, is counted, refreshes its seat and is answered OK. -/
theorem seatWrite_taken (s : State) (x : Seat) (a : Nat) (w : Word) (q : Fin 40) (hp : s.portUp x = true)
    (hs : s.sleeping = false) (ha : a % 4 = 0) (hm : unmappedWord a 1 = none) (hf : s.firewallOk x true a = true)
    (hd : s.modeAllows x true a = true) (hi : s.inReset = false)
    (hc : s.wordCheck s (Cfg.overlay s.pendingCfg [(seatKey x a, w)]) x a w = 0) (hr : isRwcReg a = false)
    (hn : (s.wordEffect x a w q.val (decide (32 < q.val))).inReset = false) :
    s.seatWrite x a w q =
      (((s.wordEffect x a w q.val (decide (32 < q.val))).addWrap (SEAT_FRAMES_OK x) 1).refreshSeat x).respond x [] 0 := by
  have hrange : s.rangeCheck x true a 1 = (0, 0) := by
    simp [rangeCheck, hm, barredWord, modeWord, writeAddrs_one, hf, hd]
  have hput : s.putWords s (Cfg.overlay s.pendingCfg [(seatKey x a, w)]) x q.val (decide (32 < q.val)) [(a, w)] =
      { st := s.wordEffect x a w q.val (decide (32 < q.val)), code := 0, addr := 0, recs := [] } := by
    simp [putWords, hi, hc, hr]
  have hpost : postRecs s x (decide (32 < q.val))
      { st := s.wordEffect x a w q.val (decide (32 < q.val)), code := 0, addr := 0, recs := [] } =
      { st := s.wordEffect x a w q.val (decide (32 < q.val)), code := 0, addr := 0, recs := [] } := by
    simp [postRecs]
  have hw : s.writeAccess x a [w] q =
      { st := s.wordEffect x a w q.val (decide (32 < q.val)), code := 0, addr := 0, words := [] } := by
    simp [writeAccess, hrange, writeAddrs_one, hput, hpost]
  simp only [seatWrite, hp, hs, ha, hw, notePower, show ¬ (0 : Nat) = 8 by decide, false_and, finish, refreshBy, hn, Bool.not_true, Bool.false_eq_true, if_false, ne_eq,
    not_true_eq_false, true_or, if_true, List.flatMap_nil]

/-- A command bit written with the RW bits beside it as they are, and no image field that is held, stores nothing. -/
theorem storeFields_same (s : State) (x : Seat) {a : Nat} (w : Word) (h1 : w1cMask a = 0)
    (h2 : w &&& rwMask a = s.word (seatKey x a) &&& rwMask a)
    (h0 : w &&& rwMask a &&& ~~~ s.imageHeld a = w &&& rwMask a) : s.storeFields x a w = s := by
  have h3 : (s.word (seatKey x a) &&& ~~~ (w &&& w1cMask a &&& ~~~ sparseGet (fun _ => 0) s.fresh (seatKey x a)) &&&
      ~~~ rwMask a) ||| (w &&& rwMask a) = s.word (seatKey x a) := by
    rw [h1, h2]
    ext i hi
    simp only [BitVec.getElem_or, BitVec.getElem_and, BitVec.getElem_not, BitVec.ofNat_eq_ofNat, BitVec.getElem_zero,
      Bool.and_false, Bool.false_and, Bool.not_false, Bool.and_true]
    cases (s.word (seatKey x a))[i] <;> cases (rwMask a)[i] <;> rfl
  simp only [storeFields, h0, h3, or_true, if_true]

/-- A register without RW, RWL and W1C bits stores nothing. -/
theorem storeFields_none (s : State) (x : Seat) {a : Nat} (w : Word) (h1 : rwMask a = 0) (h2 : w1cMask a = 0) :
    s.storeFields x a w = s := storeFields_same s x w h2 (by rw [h1]; simp) (by rw [h1]; simp)

end State

end Sys2Proof.Machine
end

