-- ==== Sys2Proof/WellFormed.lean ====
section
/-!
DEFINITION. Which commands are well formed: what a command carries beside its typed operands lies in the range that the
spec gives the quantity. exec gives every command its meaning; these checks say which can come about.
-/

namespace Sys2Proof

open Sys2Proof.Machine

/-- A temperature in 1/16 degree, in the range -64 to 255.9 degrees of the die sensors' 16-bit codes. -/
def tempOk (t : Int) : Bool := decide (-1024 ≤ t) && decide (t < 4096)

/-- A 16-bit two's complement code. -/
def code16Ok (v : Int) : Bool := decide (-32768 ≤ v) && decide (v < 32768)

/-- A 16-bit quantity. -/
def nat16Ok (v : Nat) : Bool := decide (v < 65536)

/-- A command is well formed. -/
def Instr.wf : Instr → Bool
  | .hostFrame _ bytes _ => decide (1 ≤ bytes.length) && decide (bytes.length ≤ 1033)
  | .registerWrite _ a _ _ => decide (a.toNat % 4 = 0)
  | .holdCurrentTrip _ ma => nat16Ok ma
  | .offStateSlot _ _ vterm => code16Ok vterm
  | .offStateFlagTimer n _ near vterm => code16Ok vterm && decide (near.Nodup) && ! near.contains n
  | .openLoadOnTimer _ ma => nat16Ok ma
  | .thermalClampStep _ temp => tempOk temp
  | .calAutoCheck _ temp => tempOk temp
  | .vfLowSet _ mv => nat16Ok mv
  | .vfLowClear _ mv => nat16Ok mv
  | .uvOffTrip _ mv => nat16Ok mv
  | .restoreStart _ mv => nat16Ok mv
  | .fieldDieRelease _ mv => nat16Ok mv
  | .candleSecond temps => temps.toList.all tempOk
  | .sectorPublish k _ => decide (k.val ≠ 0)
  | .sectorLate k => decide (k.val ≠ 0)
  | .assignReceived _ addr => decide (1 ≤ addr.toNat) && decide (addr.toNat < 2048)
  | .cmdDone _ frags => decide ((frags.flatMap (·.payload)).length ≤ 1028)
  | .nodeSectorProcess f => decide (32 ≤ f.bytes.length)
  | .pairHeartbeatReceived _ f _ _ => decide (f.length ≤ 65543)
  | .snapRecordReceived _ f => decide (f.length ≤ 65543)
  | .beaconReceived _ f => decide (f.length ≤ 65543)
  | .nvGraceEnd us => decide (us ≤ 30000)
  | .bootOk ms => decide (ms ≤ 2000)
  | .calendarAutoTrim trim => decide (trim.natAbs ≤ 5000)
  | .debugRegisterAccess (.reg a) _ _ => decide (a.toNat % 4 = 0)
  | .debugRegisterAccess (.priv g i) _ _ => decide (i < g.count)
  | .debugRegisterAccess (.scan ..) _ _ => true
  | .debugRegisterAccess .tapReset _ _ => true
  | .frameAbort .. | .fabricCycleBoundary .. | .fuseStep .. | .downwardFrameReceived .. | .upwardFrame .. |
    .upwardFrameReceived .. | .logicSideLoss .. | .fieldDieLoss .. | .logicSideReturn .. | .fuseStall .. | .cellOutWrite .. |
    .cellAdopt .. | .faultClr .. | .seatTimeout .. | .recoveryTimeoutEnd .. | .pairHoldEnd .. | .ilimEntry .. |
    .ilimExit .. | .limitTimeout .. | .tsdTrip .. | .tsdOffHold .. | .tsdRelease .. | .restartWaitEnd .. |
    .retryCountReset .. | .twarn .. | .inrushWindowEnd .. | .arbiterTbwarn .. | .arbiterCooled .. | .phasePointTurnOn .. |
    .wickPeriodStart .. | .wickEdge .. | .blankingEnd .. | .limpPinEdge .. | .iselChange .. | .comparatorChange .. |
    .debounceAccept .. | .wireBreakTimer .. | .counterClear .. | .freqGateEnd .. | .namurBandTimer .. | .readbackCheck .. |
    .railSetpointFall .. | .railDropout .. | .alarmStrapChange .. | .trimPress .. | .trimRepeat .. | .trimSelWrite .. |
    .trimStore .. | .trimStoreDone .. | .sequencePassStart .. | .conversionEnd .. | .timeWindowClose .. | .statClose .. |
    .dirtyWindowEnd .. | .injTrigger .. | .injTrigWrite .. | .injTimerTick .. | .calStart .. | .calBegin .. | .calEnd .. |
    .readbackGroup .. | .staggerRelease .. | .fieldBankReset .. | .modeCmdRun .. | .modeCmdTest .. | .resetIntent .. |
    .recReq .. | .recEnd .. | .loadStartInstall .. | .loadStartApply .. | .loadStartInstallApply .. |
    .loadStartReconcile .. | .loadData .. | .loadEnd .. | .loadCancel .. | .validationDone | .installDone .. | .txnOpen .. |
    .txnCommit .. | .txnCheck .. | .txnAbort .. | .txnCheckDone .. | .txnT0 .. | .txnRailUpEnd .. | .txnRailUpTimeout .. |
    .txnRailSwap .. | .txnConnect .. | .txnRelease .. | .txnSeq .. | .txnRailDown .. | .faultEccClear .. |
    .eccUncorrectable .. | .dmaStart .. | .dmaStop .. | .dmaTrigger .. | .dmaBeat .. | .dmaDescriptorEnd .. | .mpuFault .. |
    .lockstepDisagree | .cycleStart .. | .nodeOutApply | .portLock .. | .portDown .. |
    .portRedrive .. | .unwrapForward | .bypassOpen | .joinSend | .joinRetry | .joinAnswer .. | .rejectReceived .. |
    .rejectRetry | .leaveReceived | .nodeTableWrite .. | .holdoverUnsync | .timeSet .. | .schedArm .. | .schedCancel .. |
    .schedApply .. | .cmdStart .. | .cmdAbort .. | .cmdTimeout .. | .nodeCmdRun .. | .claimClear .. | .ownRelease .. |
    .ownTake .. | .partnerTaken .. | .outgoingSwitchOpen .. | .graceEnd .. | .clampRemove .. | .coldTake .. |
    .coldTakeTimeout .. | .pairHeartbeatSend .. | .pairHeartbeatLost | .pairLinkDown |
    .snapshotClose | .snapshotApply | .baselineReq | .handoverStart .. | .handoverReady .. | .handoverBoundary |
    .handoverEnd | .handoverTimeout | .autoMerge | .beaconSend .. | .selfTest .. | .crystalStopped |
    .crystalOffFrequency | .mainClockStopped | .pllUnlock | .monitorRcStopped | .clockRestore .. | .clockRestoreSwitch |
    .xtalSwitch | .wdgKeyA .. | .wdgKeyB .. | .wdgWindowOpen | .wdgExpired | .wdgArmDiscard | .powerOnReset .. |
    .brownOutReset | .resetCmd .. | .pinReset | .resetRelease .. | .bootDeadline | .bootRetry .. | .pwrActive .. |
    .pwrIdle .. | .pwrStandby .. | .pwrSleep .. | .wake .. | .lockKey .. | .cwStore .. | .cwStoreDone .. | .fold .. |
    .foldCmd .. | .calendarSet .. | .fwLoadStart .. | .fwLoadData .. | .fwLoadEnd .. | .fwLoadCancel .. | .fwInstallDone .. |
    .nvRead .. | .secProgramSlot .. | .secStoreKey .. | .secRevoke .. | .secRaiseFwLevel .. | .secRaiseFabLevel .. |
    .secRaiseDebugLevel .. | .debugNonce | .debugAuthenticate .. | .portLockLost .. | .pairLinkLock | .secondCopyStart .. |
    .vddioChange .. | .railDropoutEnd .. | .trimPinRelease .. | .secCmdDone .. | .nvReadDone .. | .foldDone .. | .jtagReset |
    .handoverReqReceived | .handoverGoReceived .. | .twarnClear .. | .partnerSeenChange .. => true

end Sys2Proof
end

