-- ==== Sys2Proof/Tests/Slice0.lean ====
section
/-!
SUPPORT. The model's own tests: ill-formed commands are refused, each statement's hypotheses are met by a concrete state and
operands, and single commands answer what the spec's tables and worked numbers say.
-/

namespace Sys2Proof.Tests

set_option Elab.async false

open Sys2Proof Sys2Proof.Machine Sys2Proof.Claims

/-! The states the tests start from. -/

/-- Registers of a state set to values. -/
def fill (s : State) (l : List (Fld × Nat)) : State := l.foldl (fun s e => s.put e.1 e.2) s

/-- A device that runs with its four field dies, all cells OFF, and every seat in MODE_SEATS. -/
def on (l : List (Fld × Nat)) : State := fill { State.reset with
  inReset := false, fabLoaded := true, cycle := 999, now := 40000000, lbanks := Vector.replicate 4 {}
  banks := Vector.replicate 4 { running := true, configuring := false, mode := .run, vfMv := 24000 }
  regs := [] } ((SYS_MODE_MODE, 2) :: (SYS_MODE_CFG_MODE_SEATS, 15) :: l)

/-- Fields set in the copies that the dies hold, in every bank. -/
def copied (s : State) (l : List (Fld × Nat)) : State :=
  let c : State := fill { s with regs := [] } l
  { s with banks := s.banks.map fun (b : FBank) => { b with copy := c.regs } }

/-- Fields set in the registers and in the dies' copies. -/
def both (l : List (Fld × Nat)) : State := copied (on l) l

/-- What a command leaves: its next state, where it answers one. -/
def after (i : Instr) (s : State) : State := match exec i s with
  | .next t => t
  | _ => s

/-- A command is refused with a code, counted and recorded. -/
def refused (i : Instr) (s : State) (x : Seat) (code : Nat) : Bool :=
  (after i s).get (SEAT_LAST_REF_CODE x) == code && (after i s).get (SEAT_ERRS_REFUSED x) == s.get (SEAT_ERRS_REFUSED x) + 1

/-- A write reaches a register, as a Bool. -/
def reach (s : State) (x : Seat) (a : Nat) : Bool :=
  s.portUp x && ! s.sleeping && s.firewallOk x true a && s.modeAllows x true a

theorem reach_iff (s : State) (x : Seat) (a : Nat) : reach s x a = true ↔ Reaches s x a := by
  constructor
  · intro h
    simp only [reach, Bool.and_eq_true, Bool.not_eq_true'] at h
    exact ⟨h.1.1.1, h.1.1.2, h.1.2, h.2⟩
  · intro h
    simp [reach, h.up, h.awake, h.window, h.mode]

/-- The unit drives a cell, as a Bool. -/
def drive (s : State) (n : Chan) : Bool :=
  ! (s.bank (bankOf n)).paired || (s.bank (bankOf n)).holds || (s.bank (bankOf n)).opening

theorem drive_iff (s : State) (n : Chan) : drive s n = true ↔ Drives s n := by
  simp [drive, Drives, or_assoc]

/-! Ill-formed commands: for each check of Instr.wf, a command at the edge that passes and one beyond it that does not. -/

theorem wf_hostFrame : (Instr.hostFrame 0 [1] 0).wf = true ∧ (Instr.hostFrame 0 [] 0).wf = false ∧
    (Instr.hostFrame 0 (List.replicate 1033 0) 0).wf = true ∧ (Instr.hostFrame 0 (List.replicate 1034 0) 0).wf = false := by
  decide +kernel

theorem wf_addresses : (Instr.registerWrite 0 4 0 0).wf = true ∧ (Instr.registerWrite 0 6 0 0).wf = false ∧
    (Instr.debugRegisterAccess (.reg 4) none 0).wf = true ∧ (Instr.debugRegisterAccess (.reg 5) none 0).wf = false := by decide +kernel

theorem wf_currents : (Instr.holdCurrentTrip 0 65535).wf = true ∧ (Instr.holdCurrentTrip 0 65536).wf = false ∧
    (Instr.openLoadOnTimer 0 65535).wf = true ∧ (Instr.openLoadOnTimer 0 65536).wf = false := by decide +kernel

theorem wf_terminals : (Instr.offStateSlot 0 true 32767).wf = true ∧ (Instr.offStateSlot 0 true 32768).wf = false ∧
    (Instr.offStateSlot 0 true (-32769)).wf = false ∧ (Instr.offStateFlagTimer 0 true [1, 2] 0).wf = true ∧
    (Instr.offStateFlagTimer 0 true [1, 1] 0).wf = false ∧ (Instr.offStateFlagTimer 0 true [0] 0).wf = false ∧
    (Instr.offStateFlagTimer 0 true [1] 40000).wf = false := by decide +kernel

theorem wf_temperatures : (Instr.thermalClampStep 0 4095).wf = true ∧ (Instr.thermalClampStep 0 4096).wf = false ∧
    (Instr.calAutoCheck 0 (-1024)).wf = true ∧ (Instr.calAutoCheck 0 (-1025)).wf = false ∧
    (Instr.candleSecond (Vector.replicate 5 400)).wf = true ∧ (Instr.candleSecond (Vector.replicate 5 5000)).wf = false := by
  decide +kernel

theorem wf_supplies : (Instr.vfLowSet 0 65535).wf = true ∧ (Instr.vfLowSet 0 65536).wf = false ∧
    (Instr.vfLowClear 0 65536).wf = false ∧ (Instr.uvOffTrip 0 65536).wf = false ∧ (Instr.restoreStart 0 65536).wf = false ∧
    (Instr.fieldDieRelease 0 65536).wf = false := by decide +kernel

theorem wf_ring : (Instr.sectorLate 1).wf = true ∧ (Instr.sectorLate 0).wf = false ∧
    (Instr.sectorPublish 1 ⟨none, none⟩).wf = true ∧ (Instr.sectorPublish 0 ⟨none, none⟩).wf = false ∧
    (Instr.assignReceived 0 2047).wf = true ∧ (Instr.assignReceived 0 2048).wf = false ∧ (Instr.assignReceived 0 0).wf = false ∧
    (Instr.cmdDone 0 [{ payload := List.replicate 1028 0 }]).wf = true ∧
    (Instr.cmdDone 0 [{ payload := List.replicate 1028 0 }, { payload := [0] }]).wf = false ∧
    (Instr.nodeSectorProcess ⟨1, List.replicate 32 0, 0⟩).wf = true ∧
    (Instr.nodeSectorProcess ⟨1, List.replicate 31 0, 0⟩).wf = false := by
  decide +kernel

theorem wf_frames : (Instr.pairHeartbeatReceived true (List.replicate 65543 0) 0 false).wf = true ∧
    (Instr.pairHeartbeatReceived true (List.replicate 65544 0) 0 false).wf = false ∧
    (Instr.snapRecordReceived true (List.replicate 65543 0)).wf = true ∧
    (Instr.snapRecordReceived true (List.replicate 65544 0)).wf = false ∧
    (Instr.beaconReceived true (List.replicate 65543 0)).wf = true ∧
    (Instr.beaconReceived true (List.replicate 65544 0)).wf = false := by
  simp only [Instr.wf, List.length_replicate]
  decide

theorem wf_rest : (Instr.nvGraceEnd 30000).wf = true ∧ (Instr.nvGraceEnd 30001).wf = false ∧ (Instr.bootOk 2000).wf = true ∧
    (Instr.bootOk 2001).wf = false ∧ (Instr.calendarAutoTrim (-5000)).wf = true ∧ (Instr.calendarAutoTrim (-5001)).wf = false := by
  decide +kernel

/-! The words of the command table: it gives no bits, so none spells a command. -/

theorem test_decode_none : decodeTableWord 32 0 = none ∧ State.withFetchWord State.reset 32 5 = State.reset :=
  ⟨rfl, rfl⟩

/-! Hypotheses met: for each statement with hypotheses, states and operands that meet them, a set for each of its clauses. -/

theorem met_StepKeepsTables : SparseWf resetWord (on []).regs ∧ Memory.wf [(0x1400000, 5)] ∧
    SparseWf (fun _ => (0 : Word)) [(0x30010, 1)] := by decide +kernel

theorem met_OtpNeverClears : step { on [] with pending := [.vddioChange false] } = .next { on [] with vddio := false } ∧
    ProgramsOnce (on []) ∧ ProgramsOnce { on [] with secRun := some (.program 3 [1] 7) } := by
  refine ⟨rfl, fun k h u e => ?_, fun k h u e => ?_⟩
  · cases e
  · cases e
    rfl

theorem met_SilentPortTakesNothing :
    (seatOf (.pwrActive 3 39) = some 3 ∧ State.reset.inReset = true) ∧
    (seatOf (.frameAbort 2) = some 2 ∧ (2 : Seat) ≠ 3 ∧ ({ on [] with vddio := false } : State).vddio = false) ∧
    (seatOf (.wdgKeyA (.seat 3) 0 0) = some 3 ∧ (on []).get RING_STAT_ROLE ≠ 1) := by decide +kernel

theorem met_FrameInSleepWakes : seatOf (.hostFrame 2 [] 0) = some 2 ∧ (2 : Seat) ≠ 3 ∧
    (on [(SYS_PWR_STAT_STATE, 3)]).portUp 2 = true ∧ (on [(SYS_PWR_STAT_STATE, 3)]).get SYS_PWR_STAT_STATE = 3 := by
  decide +kernel

/-- A node with an address, its bypass open. -/
def node (l : List (Fld × Nat)) : State := (on ([(RING_STAT_ROLE, 1), (RING_NODE_ADDR, 2047), (RING_CFG_SVC_PAY, 1)] ++ l)).modRing
  fun r => { r with bypassOpen := true, adoptDue := false }

/-- A node with a whole command of the head. -/
def commanded (req : List Byte) : State := (node []).modRing fun r => { r with cmdReady := some (9, req) }

/-- The same as its frame of seat 3 leaves it. -/
def answered (req : List Byte) : State :=
  after (.hostFrame 3 req 0) { commanded req with ring := { (commanded req).ring with cmdReady := none } }

theorem met_WriteFrameIsRegisterWrite : (commanded [0]).portUp 3 = true ∧ (commanded [0]).ring.cmdReady = some (9, [0]) ∧
    (answered [0]).inReset = false ∧ (answered [0]).resp[(3 : Seat)] = [] ∧ (commanded (readFrame 4)).portUp 3 = true ∧
    (answered (readFrame 4)).inReset = false ∧ (answered (readFrame 4)).resp[(3 : Seat)] ≠ [] ∧
    0 < (answered (readFrame 4)).get RING_CFG_SVC_PAY := by decide +kernel

theorem met_BadFramesDoNothing : (on [(RING_STAT_ROLE, 1)]).portUp 3 = true ∧ (on [(RING_STAT_ROLE, 1)]).sleeping = false ∧
    (255 : Byte) ≠ 0 ∧ (12 : Nat) < 13 := by decide +kernel

theorem met_WritesRefusedInOrder :
    let s := on []
    (s.portUp 0 = true ∧ s.sleeping = false) ∧
    (3 : Word).toNat % 4 ≠ 0 ∧
    ((0xFFFFFFFC : Word).toNat % 4 = 0 ∧ mapped (0xFFFFFFFC : Word).toNat = false) ∧
    (mapped 0x40010 = true ∧ (on [(SEAT_CFG_FW_EN 0, 1)]).firewallOk 0 true 0x40010 = false) ∧
    (mapped 0x40010 = true ∧ (on [(SYS_MODE_MODE, 5)]).firewallOk 0 true 0x40010 = true ∧
      (on [(SYS_MODE_MODE, 5)]).modeAllows 0 true 0x40010 = false ∧ (0x40010 : Word) ≠ 0x300) ∧
    (mapped 4 = true ∧ reach s 0 4 = true ∧ writableMask 4 = 0) ∧
    (mapped 0xC00FC = true ∧ reach s 0 0xC00FC = true ∧ 0xC0000 ≤ 0xC00FC ∧ 0xC00FC < 0xC0100) ∧
    (mapped 0x3010C = true ∧ reach s 0 0x3010C = true ∧ writableMask 0x3010C ≠ 0 ∧ s.mayWrite 0 0x3010C 0 = false) ∧
    (mapped 0x3000C = true ∧ reach s 0 0x3000C = true ∧ s.mayWrite 0 0x3000C 0x08000000 = true ∧
      (0x08000000 : Word) &&& ~~~ writableMask 0x3000C ≠ 0 ∧ ∀ n : Chan, (0x3000C : Nat) ≠ (CELL_OUT_VALUE n).addr) ∧
    (let a := (CELL_OUT_VALUE 31).addr
     mapped a = true ∧ reach s 0 a = true ∧ writableMask a ≠ 0 ∧ s.mayWrite 0 a 0x10000 = true ∧
     (0x10000 : Word) &&& ~~~ writableMask a ≠ 0) ∧
    (mapped 0x1200000 = true ∧ reach s 0 0x1200000 = true ∧ mailboxOf 0x1200000 ≠ some 0) ∧
    (mapped 0x1410000 = true ∧ reach s 0 0x1410000 = true ∧ mailboxOf 0x1410000 ≠ some 0) := by decide +kernel

theorem met_ReadFrameReturnsTheWord : (on []).portUp 0 = true ∧ (on []).sleeping = false ∧ (0xE1FFC : Nat) % 4 = 0 ∧ 0xE1FFC < 0x100000 ∧
    mapped 0xE1FFC = true ∧ (on []).firewallOk 0 false 0xE1FFC = true ∧ (on []).modeAllows 0 false 0xE1FFC = true ∧
    (0xE1FFC : Word) ≠ 0x80024 ∧ (0xE1FFC : Word) ≠ 0xA0800 ∧
    [0x11FFC00, 0x1200000, 0x140FFFC, 0x1410000].all (fun a => mapped a && (on []).firewallOk 0 false a && (on []).modeAllows 0 false a) = true ∧
    pointOf 0x1000500 = some (1, 0, 0) ∧ mailboxOf 0x1410000 = some 1 ∧ mailboxOf 0x140FFFC = some 0 ∧ mailboxOf 0x1200000 = none := by
  decide +kernel

theorem met_EventEnableStoresWhatIsWritten : reach (on [(RING_STAT_ROLE, 1)]) 3 (EVT_EN_LO_EN 3).addr = true ∧
    (0x143FFFC : Nat) % 4 = 0 ∧ mailboxOf 0x143FFFC = some 3 ∧ reach (on [(RING_STAT_ROLE, 1)]) 3 0x143FFFC = true := by
  decide +kernel

theorem met_NewOccurrenceOutlivesItsClear :
    ((EVT_SNAP_UNIT 2 2).addr ∈ pendRegs 2 ∧ reach (on []) 2 (EVT_SNAP_UNIT 2 2).addr = true ∧
      (0xFFFFFFFF : Word) &&& ~~~ writableMask (EVT_SNAP_UNIT 2 2).addr = 0) ∧
    ((0xC01E8 : Nat) ∈ sourceRegs ∧ reach (on [(RING_STAT_ROLE, 1)]) 3 0xC01E8 = true ∧
      (on [(RING_STAT_ROLE, 1)]).mayWrite 3 0xC01E8 (w1cMask 0xC01E8) = true ∧
      w1cMask 0xC01E8 &&& ~~~ w1cMask 0xC01E8 = 0) := by decide +kernel

theorem met_FlagRaisedInTheCycleStays : let a := (CELL_FLAGS_OPEN_LOAD 31).addr
    reach ((on []).setFlags 31 (1#18 <<< 17)) 0 a = true ∧ (on []).owner 31 = 0 ∧
    (0x20000 : Word) &&& ~~~ writableMask a = 0 ∧ (0x20000 : Word).getLsbD 17 = true := by decide +kernel

theorem met_ModeCommandsWaitForTheCommit : let s := on []
    s.modeSeat 0 = true ∧ reach s 0 SYS_MODE_CMD_CMD.addr = true ∧ s.mode = .run ∧
    (on [(SYS_MODE_MODE, 1)]).mode = .startup ∧ (on [(SYS_MODE_MODE, 3)]).mode = .test ∧ (on [(SYS_MODE_MODE, 4)]).mode = .recovery ∧
    reach (on [(SYS_MODE_MODE, 4)]) 0 SYS_MODE_CMD_CMD.addr = true ∧ reach (on [(SYS_MODE_MODE, 3)]) 0 (BANK_MODE_MODE 3).addr = true ∧
    reach s 0 (BANK_MODE_MODE 3).addr = true ∧
    (({ s with lbanks := Vector.replicate 4 { recovery := true } } : State).lbank 3).recovery = true ∧
    reach s 0 SYS_RESET_INTENT_KEY.addr = true := by decide +kernel

theorem met_KeysOfResetLockAndStore : let s := on []
    s.modeSeat 2 = true ∧ reach s 2 SYS_RESET_CMD_KEY.addr = true ∧ (0x3C97 : BitVec 16) ≠ 0x3C96 ∧
    reach s 2 SYS_BOOT_RETRY_KEY.addr = true ∧ s.mode ≠ .votive ∧
    (let v := on [(SYS_MODE_MODE, 5), (SYS_CW_STAT_VOTIVE_SEATS, 7)]
     v.mode = .votive ∧ v.modeSeat 2 = true ∧ reach v 2 SYS_BOOT_RETRY_KEY.addr = true) ∧ reach s 2 SYS_LOCK_KEY.addr = true ∧
    reach s 2 SYS_CW_STORE_KEY.addr = true ∧ s.get SYS_LOCK_LOCKED = 0 ∧ s.get SYS_CW_STORE_BUSY = 0 ∧
    (s.put SYS_CW_STORE_BUSY 1).get SYS_CW_STORE_BUSY = 1 ∧ (on [(SYS_LOCK_LOCKED, 1)]).get SYS_LOCK_LOCKED = 1 ∧
    reach (on [(SYS_LOCK_LOCKED, 1)]) 2 SYS_CW_STORE_KEY.addr = true ∧
    (0x7B10 : BitVec 16) ≠ 0x7B11 ∧ (0x4C4A : BitVec 16) ≠ 0x4C4B ∧ (0x57C0 : BitVec 16) ≠ 0x57C1 := by decide +kernel

/-- Cell 31 as an ACTIVE, adopted DO_HS of seat 0. -/
def ready : State := both [(CELL_CFG_FUNC 31, 3), (CELL_STATE_STATE 31, 2), (CELL_STATE_ADOPTED 31, 1)]

/-- A staged transaction that runs with a cell in HOLD. -/
def stagedRun : TxnRun := { seat := 1, recs := [], staged := true, phase := .staging, holding := [31] }

theorem met_OutWritesInTheOrderOfR33 :
    reach ready 1 (CELL_OUT_VALUE 31).addr = true ∧ ready.owner 31 ≠ 1 ∧
    reach ready 0 (CELL_OUT_VALUE 31).addr = true ∧ ready.owner 31 = 0 ∧
    ({ ready with txns := Vector.replicate 5 (some stagedRun) } : State).inStagedStep 31 = true ∧
    ready.inStagedStep 31 = false ∧ family (ready.get (CELL_CFG_FUNC 31)) = 2 ∧ ready.get (CELL_STATE_STATE 31) = 2 ∧
    ready.holdsBank 3 = true ∧ ready.handingOver 3 = false ∧ ready.get (CELL_STATE_ADOPTED 31) = 1 ∧
    (ready.put (CELL_STATE_STATE 31) 3).get (CELL_STATE_STATE 31) ≠ 2 ∧ (ready.put (CELL_STATE_STATE 31) 3).get (CELL_STATE_STATE 31) ≠ 4 ∧
    (ready.put (CELL_STATE_ADOPTED 31) 0).get (CELL_STATE_ADOPTED 31) = 0 ∧
    outOk 3 1 = true ∧ outOk 3 2 = false ∧ outOk 8 25000 = true ∧ outOk 8 25001 = false := by decide +kernel

/-- An active unit of a pair whose link is up, with a healthy partner. -/
def paired (l : List (Fld × Nat)) : State := (on ([(PAIR_CFG_EN, 1), (PAIR_CFG_BANKS, 15), (PAIR_STAT_ROLE, 1), (PAIR_STAT_READY, 1)] ++ l)).modPair
  fun p => { p with lock := true, alive := true, hb := some ⟨0, 2, 1, true, true, true, true, 0, 0, 0, 0, 0, 0, 0⟩ }

theorem met_OwnerCommandsOfCellsAndUnits : let s := on [(CELL_STATE_TOKEN 31, 0xFFFF)]
    s.owner 31 = 0 ∧ reach s 0 (CELL_ADOPT_TOKEN 31).addr = true ∧ (0xFFFF : BitVec 16).toNat = s.get (CELL_STATE_TOKEN 31) ∧
    (0xFFFE : BitVec 16).toNat ≠ s.get (CELL_STATE_TOKEN 31) ∧ reach s 0 (CELL_CTRL_FAULT_CLR 31).addr = true ∧
    (on [(CELL_STATE_STATE 31, 6)]).get (CELL_STATE_STATE 31) = 6 ∧ (on [(CELL_STATE_STATE 31, 6)]).get (CELL_LIVE_ILIM 31) = 0 ∧
    (on [(CELL_STATE_STATE 31, 6), (CELL_STATE_CAUSE 31, 14)]).get (CELL_STATE_CAUSE 31) = 14 ∧
    (on [(CELL_STATE_STATE 31, 6)]).get (CELL_LIVE_TSD 31) = 0 ∧ (on [(CELL_STATE_STATE 31, 6)]).get (CELL_LIVE_FUSE_TRIP 31) = 0 ∧
    ((on []).cell 31).live.getLsbD FL_FUSE_TRIP = false ∧ 10 ≤ ((on []).modCell 31 (fun c => { c with markers := 10 }) |>.cell 31).markers ∧
    s.get (CELL_STATE_STATE 31) ≠ 6 ∧ reach s 0 (CELL_CTR_CTRL_CLR 31).addr = true ∧
    s.get (STAT_OWN_SEAT 95) = (0 : Seat).val ∧ reach s 0 (STAT_CTRL_CLOSE 95).addr = true ∧ s.handingOver 3 = false ∧
    (let h := paired [(PAIR_HANDOVER_STATE, 2)]
     h.handingOver 3 = true ∧ h.owner 31 = 0 ∧ reach h 0 (CELL_ADOPT_TOKEN 31).addr = true ∧
     reach h 0 (CELL_CTRL_FAULT_CLR 31).addr = true ∧ reach h 0 (CELL_CTR_CTRL_CLR 31).addr = true) := by decide +kernel

/-- A conversion of the sequence that runs. -/
def conv : RunConv := ⟨false, 0, 0, 0, 20, 39999900, 0, false, false, false, false⟩

/-- A bank 3 whose converter runs a conversion, with injected entry 7 triggered by the host. -/
def measuring (pend : List (Fin 8 × Nat)) (cal : CalPhase) : State :=
  (both [(⟨(BANK_INJ_INPUT 3 7).addr, 20, 4⟩, 1), (BANK_INJ_UNIT 3 7, 5)]).modMeas 3
    (fun m => { m with cur := some conv, pending := pend, cal := cal })

theorem met_CommandsToTheConverter : let s := measuring [] .none
    (s.bank 3).running = true ∧ (s.meas[(3 : Bank)]).cur.isSome = true ∧ reach s 0 (BANK_INJ_TRIG_TRIG 3).addr = true ∧
    s.ownsUnitJ 0 3 (16 + s.get (BANK_INJ_UNIT 3 7)) = true ∧ bits (s.injWord 3 7) 20 4 = 1 ∧
    s.meas[(3 : Bank)].cal ≠ .draining ∧ s.meas[(3 : Bank)].cal ≠ .busy ∧ (7 : Fin 8) ∉ s.meas[(3 : Bank)].pending.map (·.1) ∧
    (7 : Fin 8) ∈ (measuring [(7, 39999990)] .none).meas[(3 : Bank)].pending.map (·.1) ∧ reach s 0 (BANK_CAL_CTRL_START 3).addr = true ∧
    s.ownsUnit 0 3 = true ∧ (measuring [] .none).meas[(3 : Bank)].cal = .none ∧
    (measuring [] .queued).meas[(3 : Bank)].cal ≠ .none := by decide +kernel

theorem met_FabricLoadCommands : let s := on []
    s.modeSeat 0 = true ∧ reach s 0 FABRIC_LOAD_CTRL_START.addr = true ∧ s.load = none ∧ s.txnOpen[(0 : Seat)] = false ∧
    s.txns[(0 : Fin 5)] = none ∧ ({ s with txnOpen := Vector.replicate 4 true } : State).txnOpen[(0 : Seat)] = true ∧
    (let l : Load := { seat := 0, mode := .apply, phase := .receiving }
     ({ s with load := some l } : State).load = some l ∧ l.seat = 0 ∧ l.phase = .receiving ∧
     reach { s with load := some l } 0 (FABRIC_LOAD_DATA_DATA 0).addr = true) ∧
    (let l : Load := { seat := 3, mode := .apply, phase := .validating }
     ({ s with load := some l } : State).load = some l ∧ l.seat ≠ 0 ∧ l.phase = .validating) := by decide +kernel

theorem met_TransactionCommands : let s := on []
    reach s 2 FABRIC_TXN_OPEN.addr = true ∧ s.txns[(2 : Fin 5)] = none ∧
    ({ s with txns := Vector.replicate 5 (some stagedRun) } : State).txns[(2 : Fin 5)] ≠ none ∧ s.txnOpen[(2 : Seat)] = false ∧
    ({ s with txnOpen := Vector.replicate 4 true } : State).txnOpen[(2 : Seat)] = true := by decide +kernel

theorem met_TrimSelectionAndStore : let s := on [(CELL_OWN_SEAT 31, 1)]
    reach s 0 TRIM_SEL_SEL.addr = true ∧ (∀ n : Chan, (0x40000001 : Word).getLsbD n.val = true → s.owner n = 0) ∧
    (∃ n : Chan, (0x80000000 : Word).getLsbD n.val = true ∧ s.owner n ≠ 0) ∧
    reach s 0 TRIM_STORE_KEY.addr = true ∧ s.get TRIM_STORE_BUSY = 0 ∧ (s.put TRIM_STORE_BUSY 1).get TRIM_STORE_BUSY = 1 ∧
    (0xA5C2 : BitVec 16) ≠ 0xA5C3 := by decide +kernel

theorem met_PowerRequests : let s := { on [] with wdgOpen := 100, wdgTimeout := 1100 }
    s.modeSeat 0 = true ∧ reach s 0 SYS_PWR_CMD_CMD.addr = true ∧ s.mode = .run ∧ s.get RING_STAT_ROLE = 0 ∧
    s.get PAIR_CFG_EN = 0 ∧ s.anyOutput = false ∧ 1000 ≤ s.wdgTimeout - s.wdgOpen ∧ s.workRuns = false ∧
    (s.put SYS_PWR_STAT_STATE 2).get SYS_PWR_STAT_STATE = 2 ∧
    (on [(RING_STAT_ROLE, 2)]).get RING_STAT_ROLE ≠ 0 ∧ (on [(PAIR_CFG_EN, 1)]).get PAIR_CFG_EN = 1 ∧
    (on [(SYS_MODE_MODE, 3)]).mode ≠ .run ∧ reach (on [(SYS_MODE_MODE, 3)]) 0 SYS_PWR_CMD_CMD.addr = true ∧
    ((ready.modCell 31 fun c => { c with applied := 1 }).anyOutput = true ∧ ready.mode = .run) ∧
    (on []).wdgTimeout - 99001 < 1000 ∧ (s.put (DMA_STAT_BUSY 15) 1).workRuns = true ∧
    (let u (i : Bool) := (fill s [(STAT_CFG_WIN_MODE 95, 1)]).modUnit 95 fun a => { a with isOpen := i, w := 2147483647 }
     (u false).units[(95 : Unit96)].isOpen = false ∧ (u false).units[(95 : Unit96)].closing = none ∧
     (u true).units[(95 : Unit96)].isOpen = true ∧ (u true).units[(95 : Unit96)].closing = none ∧
     s.wokeBy = none ∧ ({ s with wokeBy := some .mgmt } : State).wokeBy = some .mgmt ∧
     (u true).get SYS_PWR_STAT_STATE ≠ 2) := by decide +kernel

/-- A descriptor of seat 3 at the last place of its mailbox: four bytes from its start to the word after. -/
def withDesc : State := [(0x143FFE0, 0x1430000), (0x143FFE4, 0x1430004), (0x143FFE8, 4)].foldl
  (fun (s : State) (e : Nat × Word) => s.setMemWord e.1 e.2) (on [(RING_STAT_ROLE, 1), (DMA_DESC_ADDR 15, 0x143FFE0)])

/-- A chain that runs in seat 3's mailbox, one word of two done. -/
def chain : DmaRun := { desc := 0x143FFE0, src := 0x1430000, dst := 0x143FFD8, len := 8, done := 4 }

theorem met_DmaCommandsOfASeat : let s := withDesc
    seatOfCh 15 = some 3 ∧ reach s 3 (DMA_CTRL_START 15).addr = true ∧ s.get (DMA_CTRL_TRIG 15) = 0 ∧
    s.get (DMA_STAT_BUSY 15) = 0 ∧ s.descOk (.seat 3) (s.get (DMA_DESC_ADDR 15)) = true ∧
    (s.put (DMA_CTRL_TRIG 15) 3).get (DMA_CTRL_TRIG 15) = 3 ∧
    s.dma.run[(15 : DmaCh)] = none ∧ (s.setRun 15 (some chain)).dma.run[(15 : DmaCh)] ≠ none ∧
    s.modeSeat 3 = true ∧ reach s 3 0x3080C = true ∧
    (let s := (on []).setMemWord 0x1000008 4
     seatOfCh 0 = none ∧ s.inReset = false ∧ (0x1000000 : Word).toNat % 32 = 0 ∧ s.get (DMA_STAT_BUSY 0) = 0 ∧
     s.descOk (agentOf 0) (0x1000000 : Word).toNat = true ∧ (s.setRun 0 (some chain)).dma.run[(0 : DmaCh)] ≠ none) := by decide +kernel

/-- A head that sends, with entry 2047 in use and bound to UID 5. -/
def head (l : List (Fld × Nat)) : State := (on ([(RING_STAT_ROLE, 2), (RING_CTRL_RUN, 1), (CLKMON_STAT_SOURCE, 0), (RNT_CTRL_IN_USE 2047, 1),
  (RNT_UID_LO_UID_LO 2047, 5), (RNT_CTRL_NPTS 2047, 64), (RNT_STATUS_NSTATE 2047, 3), (RING_CMD_NODE_ADDR.ofSeat 0, 2047)] ++ l)).modRing
  fun r => { r with bypassOpen := true }

theorem met_RingCommandsOfASeat : let s := head []
    (s.modeSeat 0 = true ∧ reach s 0 0x100020 = true ∧ s.entryCheck 0x100020 5 = 0 ∧ s.get RING_CTRL_RUN = 1) ∧
    ((head [(RING_CTRL_RUN, 0)]).entryCheck 0x100020 5 = 0 ∧ (head [(RING_CTRL_RUN, 0)]).get RING_CTRL_RUN = 0) ∧
    (let o (l : List (Fld × Nat)) := head ([(RNT_CTRL_NPTS 2047, 64), (RNT_CTRL_OWNER 2047, 0)] ++ l)
     pointOf 0x11FFFF4 = some (2047, 63, 0) ∧ reach (o []) 0 0x11FFFF4 = true ∧ (o []).get (RNT_CTRL_IN_USE 2047) = 1 ∧
     (o []).get (RNT_CTRL_NPTS 2047) = 64 ∧
     (o []).get (RNT_CTRL_OWNER 2047) = 0 ∧ (o [(RNT_CTRL_OWNER 2047, 1)]).get (RNT_CTRL_OWNER 2047) ≠ 0 ∧
     reach (o [(RNT_CTRL_OWNER 2047, 1)]) 0 0x11FFFF4 = true ∧ (65535 : Word).toNat < 65536 ∧ ¬ (65536 : Word).toNat < 65536) ∧
    (reach s 0 0x8002C = true ∧ s.get RING_STAT_ROLE ≠ 1 ∧ ∀ k, k < 8 → s.get (RING_SCHED_CTRL_ARM k) = 0) ∧
    (reach s 0 (RING_SCHED_CTRL_ARM 7).addr = true ∧ s.get (RING_SCHED_CTRL_ARM 7) = 0 ∧ s.owner 31 = 0 ∧
      (head [(CELL_OWN_SEAT 31, 1)]).owner 31 ≠ 0) ∧
    (let due (t : Nat) := node [(RING_SCHED_CTRL_ARM 7, 1), (RING_SCHED_CTRL_CH 7, 31), (RING_SCHED_CTRL_SEAT 7, 3), (RING_SCHED_T_LO_T 7, t),
       (RING_SCHED_T_HI_T 7, 2)]
     let s := due 1410075408
     s.inReset = false ∧ s.get (RING_SCHED_CTRL_ARM 7) = 1 ∧ s.get (RING_SCHED_CTRL_CH 7) = (31 : Chan).val ∧
     s.get (RING_SCHED_CTRL_SEAT 7) = (3 : Seat).val ∧
     s.get (RING_SCHED_T_LO_T 7) + 4294967296 * s.get (RING_SCHED_T_HI_T 7) = s.devTime s.boundaryTime ∧
     (due 1410075409).devTime (due 1410075409).boundaryTime <
       (due 1410075409).get (RING_SCHED_T_LO_T 7) + 4294967296 * (due 1410075409).get (RING_SCHED_T_HI_T 7) ∧
     s.outCheck 3 31 0 ≠ 0 ∧ ready.outCheck 0 31 1 = 0) ∧
    (reach s 0 RING_CMD_CTRL_START.addr = true ∧ s.get RING_STAT_ROLE = 2 ∧ s.ring.cmds[(0 : Seat)] = none ∧
      s.get (RNT_STATUS_NSTATE (s.get (RING_CMD_NODE_ADDR.ofSeat 0))) = 3 ∧
      (head [(RING_CMD_REQ_LEN.ofSeat 0, 9)]).get (RING_CMD_REQ_LEN.ofSeat 0) = 9 ∧
      (head [(RING_CMD_REQ_LEN.ofSeat 0, 1033)]).get (RING_CMD_REQ_LEN.ofSeat 0) = 1033) ∧
    ((s.modRing (fun r => { r with cmds := Vector.replicate 4 (some ⟨1, 2047, [], 0, 0⟩) })).ring.cmds[(0 : Seat)] ≠ none) ∧
    (reach (on []) 0 0x80048 = true ∧ (on []).get RING_STAT_ROLE ≠ 2) := by decide +kernel

theorem met_HandoverAndClockCommands : let s := paired []
    s.modeSeat 0 = true ∧ reach s 0 PAIR_HANDOVER_KEY.addr = true ∧ s.get PAIR_HANDOVER_STATE = 0 ∧ s.get PAIR_STAT_ROLE = 1 ∧
    s.pairUp = true ∧ (s.pairedBanks.any s.lineFault) = false ∧ s.get PAIR_STAT_READY = 1 ∧
    (paired [(PAIR_STAT_ROLE, 2)]).get PAIR_STAT_ROLE ≠ 1 ∧ (paired [(PAIR_HANDOVER_STATE, 2)]).get PAIR_HANDOVER_STATE = 2 ∧
    (0x4D2A : BitVec 16) ≠ 0x4D2B ∧ reach s 0 0x10104 = true ∧
    ({ s with xtalSince := some (s.now - 400000) } : State).xtalSince = some 39600000 ∧ 39600000 + 400000 ≤ s.now ∧
    s.xtalSince = none := by decide +kernel

theorem met_CandleFirmwareAndNvCommands : let s := on [(CANDLE_CTRL_ALARM_PCT, 50), (NVM_RD_LEN_LEN, 4)]
    s.modeSeat 0 = true ∧ reach s 0 CANDLE_CTRL_FOLD.addr = true ∧ s.get CANDLE_CTRL_ALARM_PCT = 50 ∧
    reach s 0 CAL_SEC_LO_S.addr = true ∧ reach s 0 NVM_FW_LOAD_CTRL_START.addr = true ∧ s.fwLoad = none ∧
    (let l : Load := { seat := 0, mode := .install, phase := .receiving }
     ({ s with fwLoad := some l } : State).fwLoad = some l ∧ l.seat = 0 ∧ l.phase = .receiving ∧
     ({ s with fwLoad := some { l with phase := .validating } } : State).fwLoad = some { l with phase := .validating } ∧
     reach { s with fwLoad := some l } 0 (NVM_FW_LOAD_DATA_DATA 0).addr = true) ∧
    reach s 0 NVM_RD_CTRL_START.addr = true ∧ s.nvReadOk (5 : BitVec 3).toNat = true ∧ s.nvRead = none ∧
    ({ s with nvRead := some ⟨0, 0, 0, 4, 0⟩ } : State).nvRead ≠ none := by decide +kernel

/-- A key slot 3 programmed for FIRMWARE with the hash of 64 zero bytes. -/
def keyed : State := let s := on [(SYS_BOOT_OK_OK, 1)]
  { s with nv := { s.nv with use := #v[0, 0, 1, 1], hash := Vector.replicate 4 (sha256 (List.replicate 64 0)) } }

/-- The same with images of anti-rollback level 1 in the active slots. -/
def raised : State := let img : List Byte := List.replicate 0x14 0 ++ [1]
  { keyed with nv := { keyed.nv with fw := Vector.replicate 2 img, fab := Vector.replicate 2 img } }

theorem met_SecurityCommands : let s := keyed
    s.modeSeat 0 = true ∧ reach s 0 SEC_CMD_KEY.addr = true ∧ s.secRun = none ∧
    (s.put SEC_HASH_USE_USE 7).get SEC_HASH_USE_USE ≠ 0 ∧ s.keyProgrammed 0 = false ∧ s.keyProgrammed 3 = true ∧
    s.get SYS_LOCK_LOCKED = 0 ∧ (s.put SYS_LOCK_LOCKED 1).get SYS_LOCK_LOCKED = 1 ∧
    sha256 (s.stagedBytes 0xD0080 16) = s.nv.hash[(3 : Fin 4)] ∧
    sha256 ((s.setWord 0xD0080 1).stagedBytes 0xD0080 16) ≠ s.nv.hash[(3 : Fin 4)] ∧
    s.keyInUse 3 = false ∧ ({ s with nv := { s.nv with use := #v[0, 0, 0, 1] } } : State).keyInUse 3 = true ∧
    s.get SYS_BOOT_OK_OK = 1 ∧ (on []).get SYS_BOOT_OK_OK = 0 ∧ s.fabLoaded = true ∧ State.reset.fabLoaded = false ∧
    (let r := raised
     r.modeSeat 0 = true ∧ reach r 0 SEC_CMD_KEY.addr = true ∧ r.get SYS_BOOT_OK_OK = 1 ∧
     levelOf r.nv.fwBits < imgU (r.nv.fw[r.get NVM_FW_ACTIVE_SLOT]?.getD []) 0x14 1 ∧
     levelOf r.nv.fabBits < imgU (r.nv.fab[r.get FABRIC_STAT_ACTIVE_SLOT]?.getD []) 0x14 1) ∧
    imgU (s.nv.fw[s.get NVM_FW_ACTIVE_SLOT]?.getD []) 0x14 1 ≤ levelOf s.nv.fwBits ∧
    imgU (s.nv.fab[s.get FABRIC_STAT_ACTIVE_SLOT]?.getD []) 0x14 1 ≤ levelOf s.nv.fabBits ∧
    s.otpDebugLevel < (2 : Fin 3).val ∧ s.otpDebugLevel = (0 : Fin 3).val ∧
    (0 : Fin 3).val < ({ s with nv := { s.nv with dbgBits := 3 } } : State).otpDebugLevel := by decide +kernel

theorem met_BoundaryEndsTheCycle : State.reset.inReset = true ∧
    ((on []).inReset = false ∧ .hfr ∈ ({ on [] with commits := [.hfr] } : State).commits) ∧
    ((on []).inReset = false ∧ .bootRetry ∈ ({ on [] with commits := [.bootRetry] } : State).commits) ∧
    (.hfr ∉ (on []).commits ∧ .bootRetry ∉ (on []).commits) ∧
    ((on []).get SYS_PWR_STAT_STATE ≠ 3 ∧ (on [(SYS_PWR_STAT_STATE, 3)]).get SYS_PWR_STAT_STATE = 3) := by decide +kernel

theorem met_CommittedOutputReachesItsFrame : let s := { ready with shadow := [((CELL_OUT_VALUE 31).addr, 0xFFFF)] }
    s.inReset = false ∧ s.get SYS_PWR_STAT_STATE ≠ 3 ∧ s.mode ≠ .votive ∧ s.commits = [] ∧ s.trimSteps = Vector.replicate 2 0 ∧
    s.dma.pi = [] ∧ s.get PAIR_CFG_EN = 0 ∧
    ((s.modLcell 31 fun c => { c with cause := .silence }).lcell 31).cause = .silence := by decide +kernel

theorem met_FuseStepsTakeEveryCellEveryFifthCycle : let s := on []
    (({ s with cycle := 1000 } : State).cycle + 1) % 5 ≠ 0 ∧ ({ s with fuseDone := true } : State).fuseDone = true ∧
    (s.cycle + 1) % 5 = 0 ∧ s.fuseDone = false ∧ s.inReset = false ∧ s.mode ≠ .votive ∧ s.get SYS_PWR_STAT_STATE ≠ 3 ∧
    (∀ b : Bank, (s.bank b).running = true ∧ (s.bank b).lost = false ∧ (s.bank b).fbrReport = false) := by decide +kernel

theorem met_FuseModelFollowsItsFormula : let s := (on []).modCell 31 (fun c => { c with modelled := true })
    s.get (CELL_FUSE_CFG_BUNDLE 31) = 0 ∧ (s.cell 31).modelled = true ∧ drive s 31 = true ∧
    drive (s.modBank 3 (fun b => { b with paired := true, holds := true })) 31 = true := by decide +kernel

/-- A downward frame with no command, that carries a copy. -/
def frameDown : DownFrame := { heartbeat := true, por := false, votive := false, mode := .run, configured := true
                               words := Vector.replicate 8 {}, copy := some [] }

theorem met_DownwardFramesReachTheDie : let s := ready.modLbank 3 (fun l => { l with down := [frameDown] })
    (s.bank 3).running = true ∧ (s.lbank 3).down = frameDown :: [] ∧ frameDown.por = false ∧ frameDown.configured = true ∧
    (s.bank 3).configuring = false ∧ (s.bank 3).lost = false ∧ frameDown.copy = some [] ∧
    (let t := ready.modCell 31 (fun c => { c with state := .active, cause := .none, adopted := true })
     (t.cell 31).state = .active ∧ (t.cell 31).adopted = true ∧ (t.cell 31).logicCause = .none ∧ (t.cell 31).txn = .none ∧
     (t.cell 31).latched = false ∧ (t.cell 31).stalled = false ∧ family (t.fn 31) = 2 ∧ frameDown.words[(7 : Fin 8)].held = false ∧
     ∀ k, (t.cell (chanOf 3 k)).parWith = none) := by decide +kernel

/-- An upward frame with a heartbeat and all cells new, cell 7 of its bank OPEN_LOAD live. -/
def frameUp : UpFrame := { heartbeat := true, bank := { running := true }, needs := Vector.replicate 8 0
                           cells := Vector.replicate 8 { live := 1 } }

theorem met_UpwardFramesReachTheRegisters : let s := ready.modLbank 3 (fun l => { l with up := [frameUp] })
    (s.bank 3).running = true ∧ s.inReset = false ∧ (s.lbank 3).up = frameUp :: [] ∧ frameUp.heartbeat = true ∧
    frameUp.bank.fbrReport = false ∧ s.readBack[(3 : Bank)] = false ∧
    ((frameUp.cells[(7 : Fin 8)].live &&& flagMask (s.lfn 31)).getLsbD FL_OPEN_LOAD = true) := by decide +kernel

/-- Cell 31 ACTIVE, and cell 30 ACTIVE with a limp-home map entry. -/
def limping : State :=
  ((both [(CELL_CFG_FUNC 31, 3), (CELL_CFG_FUNC 30, 3), (⟨0x53A10, 12, 2⟩, 1)]).modCell 31 fun c => { c with state := .active }).modCell 30
    fun c => { c with state := .active }

theorem met_LossesOfEitherSide : let s := (limping.modBank 3 fun b => { b with missed := 3 }).modLbank 3 fun l => { l with missed := 3 }
    (limping.bank 3).missed < 3 ∧ (limping.lbank 3).missed < 3 ∧ 3 ≤ (s.bank 3).missed ∧ 3 ≤ (s.lbank 3).missed ∧
    ((s.bank 3).running = true ∧ (s.bank 3).lost = false ∧ (s.bank 3).paired = false ∧ (s.bank 3).configuring = false ∧
      (s.bank 3).mode = .run ∧ family (s.fn 31) = 2 ∧ (s.cell 31).state = .active ∧ (s.cell 31).latched = false ∧
      (s.cell 31).stalled = false ∧ s.limpPin 31 = 0 ∧ s.limpPin 30 ≠ 0) ∧
    (((s.modBank 3 fun b => { b with lost := true, present := 3 }).bank 3).lost = true ∧
      3 ≤ ((s.modBank 3 fun b => { b with lost := true, present := 3 }).bank 3).present) ∧
    (on [(BANK_LINK_UP 3, 1)]).get (BANK_LINK_UP 3) = 1 ∧ family ((on [(CELL_CFG_FUNC 31, 1)]).lfn 31) = 1 := by decide +kernel

theorem met_SeatTimeoutFollowsTheModeCommand : let s := { on [(SEAT_CFG_TIMEOUT_MS 3, 1)] with seatAge := Vector.replicate 4 990 }
    s.inReset = false ∧ s.mode ≠ .boot ∧ s.mode ≠ .votive ∧ s.get SYS_PWR_STAT_STATE ≠ 3 ∧ s.seatFresh[(3 : Seat)] = false ∧
    s.get (SEAT_STAT_TIMED_OUT 3) = 0 ∧ 1000 * s.get (SEAT_CFG_TIMEOUT_MS 3) ≤ s.seatAge[(3 : Seat)] + 10 ∧ s.commits = [] ∧
    (∀ b : Bank, (s.lbank b).recovery = false ∧ (s.lbank b).mirrored = none) ∧
    ({ s with commits := [.mode .test] } : State).commits = [.mode .test] := by decide +kernel

theorem met_HoldsEnd : let s := limping.modBank 3 (fun b => { b with holds := true })
    (s.bank 3).running = true ∧ (s.bank 3).holds = true ∧ (s.bank 3).releasing = false ∧
    ((s.modCell 31 fun c => { c with state := .hold, cause := .recoveryHold }).cell 31).cause = .recoveryHold ∧
    ((s.modCell 30 fun c => { c with state := .hold, cause := .pairHold }).cell 30).cause = .pairHold ∧ s.limpPin 30 ≠ 0 ∧
    (s.bank 3).partnerSeen = false := by decide +kernel

theorem met_LimitAndThermalEventsOfACell :
    let s := (on []).modCell 31 fun c => { c with on := true }
    (s.cell 31).on = true ∧ s.limitAt 31 ≤ 100 * 5175 ∧ ((on []).cell 31).on = false := by
  refine ⟨by decide +kernel, ?_, by decide +kernel⟩
  have h1 : (((on []).modCell 31 fun c => { c with on := true }).cell 31).inrush = false := by decide +kernel
  have h2 : ((on []).modCell 31 fun c => { c with on := true }).fget (bankOf 31) (CELL_SW_DERATE_ILIM_PCT (31 : Chan)) = 100 := by decide +kernel
  have h3 := (Config.ilimOver (31 : Chan).val).isLt
  simp only [State.limitAt, h1, h2]
  simp only [Bool.false_eq_true, ite_false]
  omega

/-- Cell 31, a DO_HS whose bank drives it, with what a test gives it. -/
def lit (f : FCell → FCell) : State := (both [(CELL_CFG_FUNC 31, 3), (CELL_THERM_CFG_RESTART 31, 1), (CELL_THERM_CFG_RETRIES 31, 3),
  (CANDLE_CH_PLAN_RETRY_BUDGET 31, 3), (CELL_DIAG_CFG_OL_OFF_EN 31, 1), (CELL_DIAG_CFG_OL_ON_MA 31, 50)]).modCell 31 f

theorem met_TripsLatchOrRestart :
    (let s := lit fun c => { c with on := true, inLimit := true, retryCnt := 2 }
     drive s 31 = true ∧ (s.cell 31).on = true ∧ (s.cell 31).inLimit = true ∧ s.fget 3 (CELL_THERM_CFG_RESTART 31) ≠ 0 ∧
     ¬ min (s.fget 3 (CELL_THERM_CFG_RETRIES 31)) (s.fget 3 (CANDLE_CH_PLAN_RETRY_BUDGET 31)) ≤ (s.cell 31).retryCnt) ∧
    (let s := lit fun c => { c with on := true, retryCnt := 3 }
     min (s.fget 3 (CELL_THERM_CFG_RETRIES 31)) (s.fget 3 (CANDLE_CH_PLAN_RETRY_BUDGET 31)) ≤ (s.cell 31).retryCnt) ∧
    (let s := lit fun c => { c with retryOff := none }
     drive s 31 = true ∧ s.fn 31 = FN_DO_HS ∧ (s.bank 3).running = true ∧ (s.bank 3).opening = false ∧ (s.cell 31).uvHeld = false ∧
     (s.cell 31).retryOff = none) ∧
    (let s := lit fun c => { c with retryOff := some .tsd }
     (s.cell 31).tsdHold = false ∧ (s.cell 31).retryOff.isSome = true ∧ (s.cell 31).live.getLsbD FL_TSD = false) := by decide +kernel

theorem met_FieldDieTripsItsOwnOutputs :
    (let s := lit fun c => { c with on := true, sinceMarker := 140 }
     140 ≤ (s.cell 31).sinceMarker ∧ drive s 31 = true ∧ (s.bank 3).running = true ∧ (s.cell 31).on = true ∧ (s.bank 3).lost = false ∧
     (s.bank 3).votive = false ∧
     (s.cell 31).latched = false) ∧
    (let s := (lit fun c => { c with state := .hold, iHold := some 200 }).modBank 3 fun b => { b with lost := true }
     drive s 31 = true ∧ (s.bank 3).lost = true ∧ isSwitchFn (s.fn 31) = true ∧ (s.cell 31).state = .hold ∧
     (s.cell 31).iHold = some 200 ∧ 200 < 201) ∧
    (let s := (lit fun c => { c with state := .limp, applied := 1 }).modBank 3 fun b => { b with votive := true }
     (s.bank 3).votive = true ∧ (s.cell 31).state = .limp ∧ (s.cell 31).applied ≠ 0 ∧ (s.cell 31).iHold = none ∧ 1000 < 1001) := by
  decide +kernel

theorem met_LampsAndGenerators :
    (let s := (both [(CELL_CFG_FUNC 31, 4)]).modCell 31 fun c => { c with phaseWait := true }
     (s.cell 31).phaseWait = true ∧ (s.cell 31).on = false ∧ s.blocked 31 = false ∧ s.fn 31 = FN_DO_LAMP) ∧
    (let s := (both [(CELL_CFG_FUNC 31, 5)]).modCell 31 fun c => { c with state := .active, applied := 0xFFFE, wickRun := true }
     s.fn 31 = FN_DO_PWM ∧ s.blocked 31 = false ∧ (s.cell 31).state = .active ∧ (s.cell 31).applied ≠ 0 ∧
     (s.cell 31).applied < 0xFFFF ∧ s.fget 3 (WICK_CFG_SOFT 31) = 0 ∧ (s.cell 31).wickRun = true ∧ (s.cell 31).duty = 0 ∧
     ((s.modCell 31 fun c => { c with duty := 0xFFFF }).cell 31).duty = 0xFFFF ∧
     ((s.modCell 31 fun c => { c with duty := 0xFFFE }).cell 31).duty ≠ 0 ∧
     ((s.modCell 31 fun c => { c with duty := 0xFFFE }).cell 31).duty ≠ 0xFFFF) := by
  decide +kernel

theorem met_DiagnosticsOfSwitches :
    (let s := lit id
     s.offTested 31 = true ∧ s.fget 3 (CELL_DIAG_CFG_OL_OFF_EN 31) = 1 ∧ (s.cell 31).slot = false ∧ (s.cell 31).xfeedSrc = none ∧
     s.xfeedCandidate 31 [0, 30] = none ∧ (1500 : Int) < 1501 ∧ (1499 : Int) < 1500) ∧
    (let s := lit fun c => { c with slot := true }
     s.offTested 31 = true ∧ (s.cell 31).slot = true) ∧
    (let s := lit fun c => { c with on := true }
     (s.cell 31).on = true ∧ (s.cell 31).inrush = false ∧ isSwitchFn (s.fn 31) = true ∧
     49 < s.fget 3 (CELL_DIAG_CFG_OL_ON_MA 31) ∧ s.fget 3 (CELL_DIAG_CFG_OL_ON_MA 31) ≤ 50) := by decide +kernel

theorem met_LimpWithoutMapEntryAppliesOff :
    (let s := both [(CELL_SAFE_CODE 31, 4)]
     s.fget 3 (CELL_SAFE_CODE 31) = 4 ∧ s.limpPin 31 = 0) ∧
    (let s := limping.modCell 30 fun c => { c with state := .limp }
     (s.bank 3).running = true ∧ (s.bank 3).opening = false ∧ bankOf 30 = 3 ∧ s.limpPin 30 = 1 ∧ s.fn 30 = FN_DO_HS ∧
     (s.cell 30).state = .limp ∧ drive s 30 = true ∧
     s.blocked 30 = false ∧ (s.cell 30).phaseWait = false) := by decide +kernel

/-- Cell 31 as a digital input that acquires. -/
def input (f : Nat) (l : List (Fld × Nat)) (g : FCell → FCell) : State :=
  (both ((CELL_CFG_FUNC 31, f) :: l)).modCell 31 fun c => g { c with state := .active }

theorem met_DigitalInputsFormTheirLevel :
    (let s := input 1 [(CELL_DI_WB_EN 31, 1)] fun c => { c with fresh := true }
     s.acquiring 31 = true ∧ s.fget 3 (CELL_DI_DEB_US 31) = 0 ∧ (s.cell 31).fresh = true ∧ s.fn 31 = FN_DI ∧
     (s.cell 31).live.getLsbD FL_WIRE_BREAK = false ∧ s.fget 3 (CELL_DI_WB_EN 31) = 1) ∧
    (let s := input 2 [(BANK_LINK_UP 3, 1), (CELL_DI_DEB_US 31, 1), (CELL_CTR_CFG_MODE 31, 3), (CELL_CTR_CFG_GATE_MS 31, 1)] fun c => { c with fresh := false }
     s.acquiring 31 = true ∧ s.fget 3 (CELL_DI_DEB_US 31) ≠ 0 ∧ (s.cell 31).fresh = false ∧ s.fn 31 = FN_DI_COUNT ∧
     s.fget 3 (CELL_CTR_CFG_MODE 31) = 3 ∧ (s.bank 3).lost = false ∧ s.get (BANK_LINK_UP 3) = 1 ∧
     0 < s.fget 3 (CELL_CTR_CFG_GATE_MS 31)) ∧
    (let s := input FN_DI_NAMUR [(CELL_NAMUR_CFG_BREAK_EN 31, 1)] fun c => { c with fresh := true }
     s.acquiring 31 = true ∧ s.fn 31 = FN_DI_NAMUR ∧ (s.cell 31).fresh = true ∧ s.fget 3 (CELL_NAMUR_CFG_BREAK_EN 31) = 1 ∧
     s.fget 3 (CELL_NAMUR_CFG_FAULT_VAL 31) = 0) := by decide +kernel

theorem met_LoopOutputsAndRails :
    (let s := (both [(CELL_CFG_FUNC 31, 8)]).modCell 31 fun c => { c with state := .active, commanded := 20000, applied := 20000, rbSum := 38000, rbCnt := 2, tComp := 5 }
     let m : BankRb := { cells := Vector.replicate 8 ⟨0, 2999, false⟩, railMv := #v[12000, 12000] }
     let t := s.modRail 3 0 fun x => { x with dropout := true }
     (s.bank 3).running = true ∧ s.parted 3 = false ∧ (s.modBank 3 fun b => { b with paired := true }).parted 3 = true ∧
     isLoopFn (s.fn 31) = true ∧ 0 < (s.cell 31).rbCnt ∧ t.drives 31 = true ∧ (t.cell 31).clampOut = none ∧
     (t.cell 31).policyAct = false ∧ (t.cell 31).tComp = 5 ∧ t.headroomOut 31 m.cells[(7 : Fin 8)] = true ∧
     t.setPoint 31 - 19000 > 100 ∧ s.railUsers 3 0 ≠ [] ∧ s.clampable 31 = true ∧
     (s.modCell 31 fun c => { c with clampOut := some 19749 }).clampedTo 31 + 250 < (s.modCell 31 fun c => { c with clampOut := some 19749 }).clampTarget 31 ∧
     s.clampTarget 31 ≤ (s.modCell 31 fun c => { c with clampOut := some 19750 }).clampedTo 31 + 250) ∧
    (((on []).modRail 3 1 fun x => { x with enabled := true }).bank 3).rails[(1 : Fin 2)].enabled = true ∧
    (let s := (both [(CELL_CFG_FUNC 31, 8), (CELL_SAFE_CODE 31, 5)]).modCell 31 fun c => { c with state := .safe, cause := .loss }
     bankOf 31 = 3 ∧ s.fn 31 = FN_AO_I ∧ (s.cell 31).state = .safe ∧ (s.cell 31).cause = .loss ∧ s.fget 3 (CELL_SAFE_CODE 31) = 5) := by
  decide +kernel

theorem met_TrimButtonsAndStore :
    (let s := { on [(TRIM_EN_EN, 1), (TRIM_SEL_SEL, 0x80000000), (CELL_CFG_FUNC 31, 9)] with trimHeld := #v[true, true] }
     s.inReset = false ∧ s.get TRIM_EN_EN = 1 ∧ s.trimCells ≠ [] ∧ s.trimHeld[(1 : Fin 2)] = true) ∧
    (on []).get TRIM_EN_EN ≠ 1 ∧
    ({ on [] with trimStore := some (3, some [(31, 5)]) } : State).trimStore = some (3, some [(31, 5)]) := by decide +kernel

/-- Bank 3 whose last unit takes conversion 0 in a mode with a window length. -/
def stat (mode len : Nat) (f : Meas → Meas) : State :=
  ({ on [(STAT_CFG_WIN_MODE 95, mode), (STAT_WIN_WIN_LEN 95, len), (BANK_LINK_UP 3, 1)] with
      units := Vector.replicate 96 { isOpen := true } }).modMeas 3
    fun m => f { m with startDue := false, cur := some { conv with unit := 23 } }

theorem met_SequencesAndStatistics :
    (let s := (both [(BANK_SEQ_CTRL_RUN 3, 1), (BANK_SEQ_CTRL_PERIOD_US 3, 10)]).modMeas 3 fun m => { m with startDue := false }
     (s.bank 3).running = true ∧ (s.bank 3).configuring = false ∧ s.fget 3 (BANK_SEQ_CTRL_RUN 3) = 1 ∧
     s.get SYS_PWR_STAT_STATE ≤ 1 ∧ s.meas[(3 : Bank)].startDue = false ∧ s.meas[(3 : Bank)].cal = .none ∧
     s.devTime (s.now + (0 : Fin 40).val) % (1000 * s.fget 3 (BANK_SEQ_CTRL_PERIOD_US 3)) < 250 ∧ s.meas[(3 : Bank)].stepped = false ∧
     s.meas[(3 : Bank)].passing = false ∧ s.meas[(3 : Bank)].cur = none ∧ s.meas[(3 : Bank)].pending = [] ∧
     (s.modMeas 3 fun m => { m with passing := true }).meas[(3 : Bank)].passing = true ∧ s.fget 3 (BANK_SEQ_CTRL_PERIOD_US 3) ≠ 0) ∧
    (let s := stat 2 0 fun m => { m with passing := true, next := 1, len := 2 }
     let c : RunConv := { conv with unit := 23 }
     s.meas[(3 : Bank)].cur = some c ∧ c.skip = false ∧ c.dirty = false ∧ c.pl = false ∧ c.input < 8 ∧
     s.get (BANK_P_OFFSET_OFFSET 3) = 0 ∧ s.get (BANK_P_GAIN_GAIN 3 c.gain) = 0 ∧ c.unit < 24 ∧ s.get (BANK_LINK_UP 3) = 1 ∧
     unitOf 3 c.unit = 95 ∧ s.units[(95 : Unit96)].isOpen = true ∧ s.nNow 95 + 1 < 2 ^ 28 ∧ s.winMode 95 = 2 ∧
     s.meas[(3 : Bank)].pending = [] ∧ s.meas[(3 : Bank)].passing = true ∧ s.meas[(3 : Bank)].next < s.meas[(3 : Bank)].len ∧
     s.meas[(3 : Bank)].cal = .none ∧ s.units[(95 : Unit96)].closing = none ∧
     (let m : ConvMeas := ⟨5000000, 5000000, 5000000, 0⟩
      State.tripped (s.inScale 3 c.input) c.gain m = false ∧ 0 ≤ State.rawCode (s.inScale 3 c.input) c.gain 1 m.level ∧
      State.rawCode (s.inScale 3 c.input) c.gain 1 m.level < 131072)) ∧
    ((stat 0 1 id).winMode 95 = 0 ∧ (stat 0 1 id).get (STAT_WIN_WIN_LEN 95) = (stat 0 1 id).nNow 95 + 1) ∧
    (let s := stat 1 1000 id
     s.winMode 95 = 1 ∧ s.get (STAT_WIN_WIN_LEN 95) ≠ 0 ∧ (s.cycle + 1) % s.get (STAT_WIN_WIN_LEN 95) = 0 ∧
     s.units[(95 : Unit96)].isOpen = true ∧ s.units[(95 : Unit96)].openedAt < s.now + 40 ∧
     s.units[(95 : Unit96)].closing = none ∧ s.get SYS_PWR_STAT_STATE ≤ 1 ∧ s.inFlight 95 (s.now + 40) = false) ∧
    ((stat 1 1000 id).modMeas 3 fun m => { m with cur := some { conv with unit := 23, start := 40000019 } }).inFlight 95 40000040 = true ∧
    ((on []).modMeas 3 fun m => { m with dirtyEnd := 40000040 }).meas[(3 : Bank)].dirtyEnd ≤ (on []).now + 40 ∧
    (on []).now + 40 < ((on []).modMeas 3 fun m => { m with dirtyEnd := 40000041 }).meas[(3 : Bank)].dirtyEnd ∧
    (isLoopFn ((both [(CELL_CFG_FUNC 31, 9)]).fn 31) = true ∧
      (both [(CELL_CFG_FUNC 31, 9)]).meas[(3 : Bank)].dirtyEnd ≤ max 40000000 0) := by decide +kernel

theorem met_InjectionAndCalibration :
    (let s := copied (measuring [] .none) [(⟨(BANK_INJ_INPUT 3 7).addr, 20, 4⟩, 3), (BANK_INJ_TIMER_PERIOD_US 3, 10)]
     (s.bank 3).running = true ∧ s.meas[(3 : Bank)].cur.isSome = true ∧ s.meas[(3 : Bank)].cal ≠ .draining ∧
     s.meas[(3 : Bank)].cal ≠ .busy ∧ 3 ≤ bits (s.injWord 3 7) 20 4 ∧ bits (s.injWord 3 7) 20 4 ≤ 7 ∧
     (7 : Fin 8) ∉ s.meas[(3 : Bank)].pending.map (·.1) ∧
     ((s.modMeas 3 fun m => { m with due := [([7, 0], s.now + 40)] }).meas[(3 : Bank)].due = [([7, 0], s.now + 40)] ∧
      s.now + (39 : Fin 40).val < s.now + 40) ∧
     ((s.modMeas 3 fun m => { m with due := [([7, 0], s.now + 39)] }).meas[(3 : Bank)].due = [([7, 0], s.now + 39)] ∧
      s.now + 39 ≤ s.now + (39 : Fin 40).val ∧ ([7, 0] : List (Fin 8)).Nodup) ∧ s.fget 3 (BANK_INJ_TIMER_PERIOD_US 3) ≠ 0) ∧
    (on []).get (BANK_CAL_CFG_AUTO_EN 3) = 0 ∧
    (let s := (fill (measuring [] .none) [(BANK_CAL_CFG_AUTO_EN 3, 1), (BANK_CAL_PLAN_INTERVAL_H 3, 1)]).modMeas 3 fun m => { m with calAt := 0 }
     let s := { s with now := 14400000000 }
     s.get (BANK_CAL_CFG_AUTO_EN 3) = 1 ∧ s.meas[(3 : Bank)].failedAt = none ∧ s.get (BANK_CAL_PLAN_INTERVAL_H 3) ≠ 0 ∧
     14400000000 * s.get (BANK_CAL_PLAN_INTERVAL_H 3) ≤ s.now - s.meas[(3 : Bank)].calAt ∧ s.meas[(3 : Bank)].cal = .none ∧
     s.meas[(3 : Bank)].cur.isSome = true) ∧
    (let s := (on []).modMeas 3 fun m => { m with cal := .draining }
     s.meas[(3 : Bank)].cal = .draining ∧ s.meas[(3 : Bank)].cur = none ∧ s.meas[(3 : Bank)].pending = []) ∧
    (let s := (on []).modMeas 3 fun m => { m with cal := .busy, held := [(7, 39999990)] }
     s.meas[(3 : Bank)].cal = .busy ∧ s.meas[(3 : Bank)].held = (7, 39999990) :: []) ∧
    (let m : CalMeas := ⟨4096, Vector.replicate 5 (-20000), -4096, 20000, 2000, 400⟩
     m.pOffset.natAbs ≤ 4096 ∧ m.cOffset.natAbs ≤ 4096 ∧ (∀ g ∈ m.pGain.toList ++ [m.cGain], g.natAbs ≤ 20000) ∧
     m.refPpm.natAbs ≤ 2000) ∧
    ¬ (4097 : Int).natAbs ≤ 4096 := by decide +kernel

theorem met_FieldSupplyBandsAndRestore :
    (let s := (lit fun c => { c with uvHeld := true, state := .active, commanded := 1 }).modBank 3 fun b => { b with restoring := true }
     (s.bank 3).running = true ∧ (s.bank 3).vfLow = false ∧ (s.bank 3).configuring = false ∧ s.fget 3 (BANK_SUP_CFG_UV_RESTORE 3) = 0 ∧
     family (s.fn 31) = 2 ∧ (s.cell 31).uvHeld = true ∧ (s.bank 3).restoring = true ∧ s.toRelease 3 = [31]) ∧
    (State.reset.bank 3).running = false ∧
    (State.reset.meas[(3 : Bank)].startDue = true ∧ State.reset.meas[(3 : Bank)].cal = .none) := by decide +kernel

/-- A partial fabric image with one NOTE frame, for the digest 01...01, signed for the key of slot 1. -/
def partialImage : List Byte := leBytes 188 0x7bc7caf100000001f926815a02b1da68499b222ddd5cc50dbb36487d9a8865d212f65ca999a4dfaff926815a02b1da68499b222ddd5cc50dbb36487d9a8865d212f65ca999a4dfaf92547a2d02fb38a6a42971727842045f6348b1ef9e3361ee6cc42df89ddb3d1f0000004c54464a4c17a48f6e000000000001007e8d8502bc0000000000000000000000000000000000000000010101010101010100000000000000050000000001010001000000bc4c4a32400040000149464a4c

/-- The public key it is signed for. -/
def partialKey : List Byte := leBytes 64 0x52292b609c44c08befd6d17c59d78f3ccdbf1fc37879a3f626a08ec60a48b863217404c3fad8a4da9568c95cec5fddbd4256b930e24fbc2f14c27d98e8c13421

/-- A firmware image of version 1.2, signed for the key of slot 0. -/
def firmware : List Byte := leBytes 188 0xb32157c9000000001cb702f18458124bbfe0e5cb11287e572a0fc11a1389c019758f05e4b31fac3a1cb702f18458124bbfe0e5cb11287e572a0fc11a1389c019758f05e4b31fac3a1cb702f18458124bbfe0e5cb11287e572a0fc11a1389c019758f05e4b31fac3a0000004c54464a4cdb0e8ff0000000000001007fb1cedca90000000000000000000000000000000000000000000000000000000000000000000000050200010000020001000000bc4c4a32400040000157464a4c

/-- The public key it is signed for. -/
def firmwareKey : List Byte := leBytes 64 0x642c38423561faa78965b9967793ba8d2b02dccd083334b2efec69178321bd77fe96be7fc28954bf73205c410e0a76b77308aa318215ce8c8e6f452013293efb

/-- The public key a debugger signs for. -/
def debugKey : List Byte := leBytes 64 0x012f02be9b30afc715de5cc9b47f721a94d56fa12b74bd91de58b22b7d98db33f874744701eba923b6d6799df76c32b04d095abc66ec47ede449184842fe0b7b

/-- A signature over the nonce 12345 and UID 0. -/
def debugR : BitVec 256 := 0xad313db22a3c64bd00249f492237b382d8fb479cdaa797879677b503ad67dcb4

/-- Its second half. -/
def debugS : BitVec 256 := 0xad313db22a3c64bd00249f492237b382d8fb479cdaa797879677b503ad67dcb4

/-- A device with the three public keys in store, the third for a debugger, and the registers the images are checked against. -/
def signed : State :=
  let s := on ([(FABRIC_DIGEST_HI_HI, 0x01010101), (FABRIC_DIGEST_LO_LO, 0x01010101), (SEC_DBG_LEVEL, 1)] ++
    (List.range 96).map fun u => (STAT_CFG_WIN_MODE u, 2))
  { s with
    nv := { s.nv with
      use := #v[7, 7, 7, 0]
      store := #v[firmwareKey, partialKey, debugKey, []]
      hash := #v[sha256 firmwareKey, sha256 partialKey, sha256 debugKey, []] }
    dbgNonce := some 12345 }

set_option maxRecDepth 100000 in
theorem met_LoadsAndTransactions_load :
    (let l : Load := { seat := 3, mode := .apply, bytes := partialImage, phase := .validating }
     let s := { signed with load := some l }
     s.load = some l ∧ l.mode ≠ .reconcile ∧ (s.checkLoadImage l.bytes).code = 0 ∧ s.loadRules l.mode l.bytes = 0 ∧
     s.seatInTxn l.seat = false) ∧
    (let l : Load := { seat := 0, mode := .install, bytes := [], phase := .validating }
     let s := { signed with load := some l }
     s.load = some l ∧ l.mode ≠ .reconcile ∧ (s.checkLoadImage l.bytes).code ≠ 0) ∧
    (let l : Load := { seat := 0, mode := .install, bytes := [], phase := .programming }
     l.phase = .programming ∧ l.mode = .install ∧ (15 : BitVec 4) ≠ 0) := by decide +kernel

/-- A device whose worker 3 holds a transaction of seat 3. -/
def running (r : TxnRun) : State := { ready with txns := ready.txns.set 3 (some r) }

theorem met_LoadsAndTransactions_txn :
    (let r : TxnRun := { seat := 3, recs := [], opened := false }
     (3 : Fin 5).val = (3 : Seat).val ∧ (running r).txns[(3 : Fin 5)] = some r ∧ r.phase = .checking ∧
     ((running r).checkRecs 3 .txn r.recs r.opened).code ≠ 0) ∧
    (let s := fill ready ((CELL_OWN_SEAT 31, 3) :: (List.range 96).map fun u => (STAT_CFG_WIN_MODE u, 2))
     let r : TxnRun := { seat := 3, recs := [((CELL_OUT_VALUE 31).addr, 1)] }
     (s.checkRecs 3 .txn r.recs r.opened).code = 0) ∧
    (let r : TxnRun := { seat := 3, recs := [((CELL_OUT_VALUE 31).addr, (1 : BitVec 16).setWidth 32)], phase := .waiting }
     let s := running r
     s.txns[(3 : Fin 5)] = some r ∧ r.load = none ∧ r.phase = .waiting ∧ r.staged = false ∧ s.shadow = [] ∧ s.shadowLate = [] ∧
     s.trimSteps = Vector.replicate 2 0 ∧ family (s.lfn 31) = 2 ∧ r.aborted = false) ∧
    (let r : TxnRun := { seat := 3, recs := [], staged := true, phase := .staging, holding := [31, 0], rising := [(0, 1)]
                         configuring := [5], connected := [6] }
     r.phase = .staging ∧ r.holding ≠ [] ∧ ((0, 1) : Bank × Fin 2) ∈ r.rising ∧ (r.holding.any fun n => bankOf n == 3) = true ∧
     (on []).now + (3 : Fin 40).val < ({ r with t0 := 40000000 } : TxnRun).t0 + 7600 ∧
     (on []).now + 40 < ({ r with t0 := 40000000 } : TxnRun).t0 + 7600 ∧
     r.t0 + 7600 ≤ (on []).now + (3 : Fin 40).val ∧ r.t0 + 7600 ≤ (on []).now + 40 ∧ (r.rising.any fun e => e.1 == 3) = false ∧
     (5 : Chan) ∈ r.configuring ∧ (5 : Chan) ∉ r.connected ∧ r.connected ≠ [] ∧
     (∀ e ∈ r.recs, e.1 ≠ (CELL_OUT_VALUE 6).addr)) ∧
    (let r : TxnRun := { seat := 3, recs := [], staged := true, phase := .staging, seqBanks := [3], falling := [(3, 1)] }
     r.aborted = false ∧ r.holding = [] ∧ r.configuring = [] ∧ r.rising = [] ∧ r.losing = [] ∧ r.seqBanks = [3] ∧ r.falling ≠ [] ∧
     ({ r with seqBanks := [] } : TxnRun).falling = [(3, 1)]) := by decide +kernel

theorem met_DmaChainsMoveTheirWords : let s := withDesc
    ((on [(SYS_PWR_STAT_STATE, 3)]).sleeping = true ∧ (on [(SYS_PWR_STAT_STATE, 3)]).dma.mpuHit = none) ∧
    s.inReset = false ∧ s.sleeping = false ∧ s.dma.mpuHit = none ∧ s.dmaDue[(15 : DmaCh)] = 0 ∧
    0 < ({ s with dmaDue := Vector.replicate 16 1 } : State).dmaDue[(15 : DmaCh)] ∧ seatOfCh 15 = some 3 ∧
    (s.put (DMA_STAT_ENABLED 15) 1).get (DMA_STAT_ENABLED 15) = 1 ∧ (s.put (DMA_STAT_BUSY 15) 1).get (DMA_STAT_BUSY 15) = 1 ∧
    s.get (DMA_STAT_BUSY 15) = 0 ∧ s.descOk (agentOf 15) (s.get (DMA_DESC_ADDR 15)) = true ∧
    (let t := s.setRun 15 (some chain)
     t.dma.run[(15 : DmaCh)] = some chain ∧ (∀ k : DmaCh, k ≠ 15 → t.dma.run[k] = none) ∧ chain.done ≠ 0 ∧ chain.done < chain.len ∧
     t.get (SEAT_CFG_FW_EN 3) = 0 ∧ chain.from % 4 = 0 ∧ mailboxBase 3 ≤ chain.from ∧ chain.from + 4 ≤ mailboxBase 3 + 0x10000 ∧
     chain.to % 4 = 0 ∧ mailboxBase 3 ≤ chain.to ∧ chain.to + 4 ≤ mailboxBase 3 + 0x10000 ∧ chain.opened = false ∧
     chain.desc % 32 = 0 ∧ mailboxBase 3 ≤ chain.desc ∧ chain.desc + 4 ≤ mailboxBase 3 + 0x10000) ∧
    (let r : DmaRun := { chain with src := 0x1000000, dst := 0x143FFFC }
     let t := s.setRun 0 (some r)
     t.dma.run[(0 : DmaCh)] = some r ∧ (∀ k : DmaCh, k ≠ 0 → t.dma.run[k] = none) ∧ seatOfCh 0 = none ∧ r.from % 4 = 0 ∧ r.to % 4 = 0 ∧
     inSram r.from = true ∧ inSram r.to = true) ∧
    (let r : DmaRun := { chain with done := 8, ctrl := 8 }
     r.done = r.len ∧ r.done < 2 ^ 20 ∧ r.ctrl.getLsbD 2 = false ∧ r.ctrl.getLsbD 3 = true ∧ r.held = [] ∧ r.opened = false ∧ r.next = 0 ∧
     descAt (agentOf 15) r.desc = true) := by decide +kernel

/-- A watchdog whose count reads c, served by MARKHOR, of times 100 and 5000. -/
def counting (c : Nat) (l : List (Fld × Nat)) : State := { on l with wdgStart := 40000000 - 4 * c, wdgOpen := 100, wdgTimeout := 5000 }

theorem met_WatchdogAndClockEvents : let s := counting 100 [(WDG_STAT_ARMED, 1), (WDG_STAT_BOOT_VALUES, 1)]
    let count (s : State) (q : Fin 40) : Nat := min ((s.now + q.val - s.wdgStart) / 4) 0xFFFFFF
    s.inReset = false ∧ s.wdgServicer = 4 ∧ ({ s with wdgServicer := 0 } : State).wdgServicer ≠ 4 ∧
    (counting 0 []).get WDG_STAT_ARMED = 0 ∧ s.get WDG_STAT_ARMED = 1 ∧ (0 : BitVec 16) ≠ 0x5AC3 ∧ (0 : BitVec 16) ≠ 0xA53C ∧
    s.wdgOpen ≤ count s 0 ∧ count s 0 < s.wdgTimeout ∧ s.get WDG_STAT_BOOT_VALUES = 1 ∧
    (counting 5000 []).wdgTimeout ≤ count (counting 5000 []) 0 ∧ count (counting 99 []) 3 < s.wdgOpen ∧
    (let t := { s with wdgServicer := 2, vddio := true }
     t.wdgServicer = (2 : Seat).val ∧ reach t 2 0x10010 = true ∧ t.get WDG_STAT_ARMED = 1 ∧ t.wdgOpen ≤ count t 0 ∧
     count t 0 < t.wdgTimeout ∧ t.resleep = false) ∧
    (let t := counting 100 [(SYS_PWR_STAT_STATE, 3)]
     t.get WDG_STAT_WINDOW_OPEN = 0 ∧ t.wdgOpen ≤ t.wdgCount 40 ∧ t.wakes .watchdog = true ∧ t.get SYS_PWR_STAT_STATE = 3) ∧
    s.wdgOpen ≤ s.wdgCount 40 ∧ (counting 5000 []).wdgTimeout ≤ (counting 5000 []).wdgCount 40 ∧ s.get WDG_STAT_WINDOW_OPEN = 0 ∧
    s.get SYS_PWR_STAT_STATE ≠ 3 ∧ (s.put CLKMON_STAT_SOURCE 0).get CLKMON_STAT_SOURCE = 0 ∧
    s.ring.bypassOpen = false ∧ ({ s with restoreReq := true } : State).restoreReq = true ∧
    State.reset.get CLKMON_STAT_SOURCE = 1 ∧
    (let b := { on [(SYS_MODE_MODE, 0), (CLKMON_STAT_SOURCE, 1)] with releasedAt := 39920000 }; b.clockStep = true ∧
    b.get CLKMON_STAT_SOURCE = 1) := by decide +kernel

theorem met_ResetsBootAndWake : let s := on []
    s.inReset = false ∧ s.mode ≠ .boot ∧ ({ State.reset with graceWait := true } : State).graceWait = true ∧
    (State.reset.inReset = true ∧ State.reset.graceWait = false ∧ State.reset.mode = .boot ∧ State.reset.fabLoaded = false ∧
      State.reset.nv.identBad = false ∧ State.reset.nv.hashBad = Vector.replicate 4 false) ∧
    (let b := on [(SYS_MODE_MODE, 0)]; b.inReset = false ∧ b.mode = .boot ∧ b.fabLoaded = true ∧
      b.boundaryTime < ({ b with releasedAt := b.now - 7999959 } : State).releasedAt + 8000000 ∧
      ({ b with releasedAt := b.now - 7999960 } : State).releasedAt + 8000000 ≤ b.boundaryTime) ∧
    (let l := on [(SYS_PWR_STAT_STATE, 3), (SYS_PWR_WAKE_CELLS, 0x80000000)]
     l.get SYS_PWR_STAT_STATE = 3 ∧ l.wakes (.cell 31) = true ∧ l.wakes .spi = true) ∧
    (s.get SYS_PWR_STAT_STATE ≠ 3 ∧ s.wakes .spi = true) ∧
    s.debugPermitted = true ∧ (on [(SYS_CW_STORE_BUSY, 1)]).get SYS_CW_STORE_BUSY = 1 ∧ (15 : BitVec 4) ≠ 0 := by decide +kernel

/-- A returned sector of two slots, processed, as its node writes it; and one that no node has processed. -/
def returned : SectorCopy := ⟨State.nodeSectorBytes ((RSector.bytes ⟨2047, 2, [0, 0]⟩)) 1 0 0 [7, 8], false⟩
def unprocessed : SectorCopy := ⟨RSector.bytes ⟨2047, 2, [0, 0]⟩, true⟩

theorem met_HeadRunsItsCycle_copies :
    (SectorIn.mk (some returned) none).chosen = some returned ∧ returned.crcOk = true ∧ returned.processed = true ∧
    natBit returned.nsw 4 = false ∧ natBit returned.nsw 6 = false ∧
    (SectorIn.mk none (some unprocessed)).chosen = some unprocessed ∧ unprocessed.processed = false ∧
    (head []).ring.sent.any (fun f => natBit f.flags 2) = false ∧ (head []).get RING_STAT_DUAL = 0 ∧ (head []).ring.dualDue = false ∧
    ((head []).modRing fun r => { r with dualDue := true }).ring.dualDue = true ∧ (head []).ring.unwrapAt = none ∧
    (head []).inReset = false ∧ (head []).isHead = true := by decide +kernel

theorem met_HeadRunsItsCycle :
    ((on []).sends = false ∧ (head []).sends = true ∧
      (let s := (head []).modRing fun r => { r with pend := [(0x10FFE0, 7)] }
       (∀ e ∈ s.ring.pend, 0x100000 ≤ e.1 ∧ e.1 < 0x110000) ∧ (0x10FFE0 : Nat) % 32 ≠ 0x14) ∧
      (let s := (head []).modRing fun r => { r with judged := [(2047, true, false)] }
       s.ring.pend = [] ∧ s.ring.judged = [(2047, true, false)])) ∧
    (let s := (head []).modRing fun r => { r with out := [2047], missed := [(2047, 2)] }
     s.sends = true ∧ (2047 : Fin 2048).val ∈ s.ring.out ∧ s.get (RNT_CTRL_NPTS (2047 : Fin 2048)) ≤ 64 ∧ s.ring.out = [2047] ∧
     2 ≤ s.missedOf 2047 ∧ s.get (RNT_STATUS_NSTATE 2047) = 3) ∧
    (let s := head []
     s.sends = true ∧ s.used = [2047] ∧
     s.get (RNT_UID_LO_UID_LO 2047) + 4294967296 * s.get (RNT_UID_HI_UID_HI 2047) = (5 : BitVec 64).toNat ∧
     s.get (RNT_STATUS_NSTATE 2047) = 3 ∧ s.get (RNT_UID_LO_UID_LO 2047) ≠ (6 : BitVec 64).toNat ∧
     s.get (RNT_CTRL_BIND_ANY 2047) ≠ 1) ∧
    (let s := head [(RNT_CTRL_BIND_ANY 2047, 1), (RNT_STATUS_NSTATE 2047, 1)]
     s.get (RNT_CTRL_BIND_ANY 2047) = 1 ∧ s.get (RNT_STATUS_NSTATE 2047) = 1) ∧
    (let c : RCmd := ⟨9, 2047, [1], 1, 5⟩
     let s := (head [(RING_CMD_TMO_CYCLES.ofSeat 3, 5)]).modRing fun r => { r with cmds := r.cmds.set 3 (some c) }
     s.inReset = false ∧ s.ring.cmds[(3 : Seat)] = some c ∧ s.get (RING_CMD_TMO_CYCLES.ofSeat 3) ≤ c.cycles ∧
     (4 : Nat) < s.get (RING_CMD_TMO_CYCLES.ofSeat 3) ∧ c.req.length ≤ c.sent ∧
     State.reassemble c.node c.tag 0 [⟨6, 1, 2047, 9, 0, [3, 4]⟩, ⟨6, 2, 2047, 9, 1, [5]⟩] = some [3, 4, 5]) ∧
    (let s := (head [(RING_CFG_COMPAT, 1), (PAIR_STAT_ROLE, 2), (PAIR_STAT_READY, 1)]).modRing fun r => { r with seen := some ((7 : BitVec 32).toNat, 0, [(2047, 2)]) }
     s.inReset = false ∧ s.get RING_CFG_COMPAT = 1 ∧ s.get PAIR_STAT_ROLE = 2 ∧ s.get PAIR_STAT_READY = 1 ∧ s.isHead = true ∧
     s.ring.seen = some ((7 : BitVec 32).toNat, 0, [(2047, 2)])) := by decide +kernel

/-- A frame at port 1 with a sector for the node, as a head sends it. -/
def arriving (flags hctl tSof : Nat) (svc : SvcMsg) : NodeFrame :=
  ⟨1, RFrame.bytes { flags := flags, cycleNo := 7, tSof := tSof, claim := 5, cycleT := 6400, loopNs := 0
                     sectors := [⟨3, 2, [1]⟩, ⟨2047, hctl, [1, 2]⟩], svc := svc } 1, 0⟩

theorem met_NodeTakesPartInTheRing_frame :
    (let s := (node []).modRing fun r => { r with lastCyc := some 6, upQ := [{ stype := 6 }] }
     let f := arriving 1 10 10000001000 {}
     let e (f : NodeFrame) : Int := (f.tSof : Int) + Machine.signed 32 (s.get (if f.port = 0 then RING_DELAY_P_NS else RING_DELAY_S_NS)) -
       s.devTimeNs f.arrNs.val
     s.nodeRuns = true ∧ s.get (RING_PORT_STAT_WRAPPING (1 - f.port)) = 0 ∧
     ({ f with bytes := f.bytes.drop 1 } : NodeFrame).hcrcOk = false ∧ f.hcrcOk = true ∧ f.ftype = 1 ∧ natBit f.flags 0 = true ∧
     s.ring.lastCyc ≠ some f.cycleNo ∧ s.ring.linkAt = none ∧
     (∃ sec, f.sectorFor (s.get RING_NODE_ADDR) = some sec ∧ crc16Ends sec = true ∧ leField sec 2 2 = 10) ∧ crc32Ends f.body.2 = true ∧
     (svcOf f.body.2).stype = 0 ∧ s.ring.upQ = { stype := 6 } :: [] ∧ (e f).natAbs ≤ 1000 ∧
     1000000 < (e (arriving 1 10 10001000001 {})).natAbs ∧
     (let m := svcOf (arriving 1 10 0 { stype := 5, addr := 9 }).body.2
      m.stype ≠ 0 ∧ s.svcMine m = false)) := by
  refine ⟨by decide +kernel, by decide +kernel, by decide +kernel, by decide +kernel, by decide +kernel, by decide +kernel,
    by decide +kernel, by decide +kernel, ⟨RSector.bytes ⟨2047, 10, [1, 2]⟩, ?_⟩, by decide +kernel, by decide +kernel, by decide +kernel,
    by decide +kernel, by decide +kernel, by decide +kernel⟩
  decide +kernel

theorem met_NodeTakesPartInTheRing :
    (let s := (node []).modRing fun r => { r with accepted := [(40000040000, [1])] }
     s.inReset = false ∧ s.ring.adoptDue = false ∧ s.ring.accepted = (40000040000, [1]) :: [] ∧
     4 * s.devTime s.boundaryTime < 40000040001 ∧ 40000040000 ≤ 4 * s.devTime s.boundaryTime) ∧
    ((node []).mayJoin = false ∧ (node [(RING_NODE_ADDR, 0)]).mayJoin = true ∧ (node [(RING_NODE_ADDR, 0)]).ring.joinSent = false ∧
      (let j := (node [(RING_NODE_ADDR, 0)]).modRing fun r => { r with joinSent := true, seenCyc := 64 }
       j.mayJoin = true ∧ j.ring.joinSent = true ∧ 64 ≤ j.joinAge ∧ (j.modRing fun r => { r with joinCyc := 1 }).joinAge < 64) ∧
      (let h := (node []).modRing fun r => { r with sofAt := 100 }
       h.boundaryTime < h.ring.sofAt + 40000000 ∧ (node []).ring.sofAt + 40000000 ≤ (node []).boundaryTime) ∧
      (0 : BitVec 64).toNat = (node []).uid ∧ (1 : BitVec 64).toNat ≠ (node []).uid ∧ (node []).isNode = true ∧
      (node []).ring.bypassOpen = true ∧ (node []).nodeRuns = true ∧ (node [(RING_STAT_UNSYNC, 0)]).get RING_STAT_UNSYNC = 0) ∧
    (let s := (on [(RING_STAT_ROLE, 1), (RING_PORT_STAT_UP 1, 1), (RING_PORT_STAT_LOCK 0, 1), (RING_PORT_STAT_LOCK 1, 1), (CLKMON_STAT_SOURCE, 0)]).modRing
       fun r => { r with unwrapAt := some 9 }
     s.ringOn = true ∧ s.get (RING_PORT_STAT_UP 1) = 1 ∧ s.get (RING_PORT_STAT_UP 0) = 0 ∧ s.ring.unwrapAt = some 9 ∧ s.mode ≠ .boot ∧
     s.get (RING_PORT_STAT_LOCK 0) = 1 ∧ s.get (RING_PORT_STAT_LOCK 1) = 1 ∧ s.get CLKMON_STAT_SOURCE = 0 ∧ s.ring.bypassOpen = false) := by
  decide +kernel

/-- Bank 3 of a pair, as a test sets it. -/
def bank3 (f : FBank → FBank) (l : List (Fld × Nat)) : State := (paired l).modBank 3 fun b => f { b with paired := true }

theorem met_InterlockTakesAndReleases :
    (let s := bank3 (fun b => { b with holds := true }) []
     s.interlocks 3 = true ∧ (s.bank 3).holds = true ∧ (s.bank 3).releasing = false ∧ (s.bank 3).releaseCmd ≠ true ∧
     (s.bank 3).lost ≠ true ∧
     (s.bank 3).uvLatched ≠ true ∧ ((s.modBank 3 fun b => { b with uvLatched := true }).bank 3).uvLatched = true) ∧
    (let s := copied ((bank3 (fun b => { b with lost := true, releasing := true, holds := true }) []).modCell 31
       fun c => { c with state := .hold, cause := .pairHold }) [(CELL_CFG_FUNC 31, 3)]
     s.interlocks 3 = true ∧ (s.bank 3).releasing = true ∧ (s.bank 3).lost = true ∧ family (s.fn 31) = 2 ∧ (s.bank 3).configuring = false ∧
     (s.cell 31).latched = false ∧ (s.cell 31).stalled = false ∧ (s.cell 31).state = .hold ∧ (s.cell 31).cause = .pairHold ∧
     (s.bank 3).graceAt + 4000 ≤ s.boundaryTime ∧ (s.bank 3).opening = false) ∧
    (let k := (bank3 (fun b => { b with lost := true, pairHoldOver := true, partnerSeen := true }) []).bank 3
     k.lost = true ∧ k.pairHoldOver = true ∧ k.partnerSeen = true) ∧
    ((bank3 (fun b => { b with releaseCmd := true }) []).bank 3).releaseCmd = true ∧
    (let s := bank3 (fun b => { b with takeEnable := true, restoreMet := true, clamp := false }) []
     (s.bank 3).holds = false ∧ (s.bank 3).clamp = false ∧ (s.bank 3).takeEnable = true ∧ (s.bank 3).uvLatched = false ∧
     (s.bank 3).restoreMet = true ∧ s.inReset = false ∧ s.pair.goAt = none ∧ s.pair.takeCycle ≠ some s.cycle) ∧
    ((bank3 id []).bank 3).takeEnable = false ∧
    (let s := bank3 (fun b => { b with releasing := true }) []
     let k := s.bank 3
     k.releasing = true ∧ k.lost = false ∧ k.opening = false ∧ k.graceAt + 4000 ≤ s.boundaryTime ∧
     s.boundaryTime < ((s.modBank 3 fun b => { b with graceAt := s.now }).bank 3).graceAt + 4000) ∧
    (let k := (bank3 (fun b => { b with opening := true }) []).bank 3; k.opening = true ∧ k.holds = false) ∧
    (let k := (bank3 (fun b => { b with clamp := true }) []).bank 3; k.holds = false ∧ k.clamp = true) ∧
    (let s := (bank3 (fun b => { b with line := .high, clamp := false }) [(PAIR_STAT_PRIO, 2)]).modPair fun p => { p with
       hb := some ⟨0, 2, 1, true, true, true, true, 0, 0x02000000, 0, 0, 0, 0, 0⟩, cold := Vector.replicate 4 true }
     let h : PairHb := ⟨0, 2, 1, true, true, true, true, 0, 0x02000000, 0, 0, 0, 0, 0⟩
     (s.bank 3).lost = false ∧ s.partner = some h ∧ (s.bank 3).holds = false ∧ (s.bank 3).line = .high ∧ (s.bank 3).clamp = false ∧
     ((s.modBank 3 fun b => { b with clamp := true }).bank 3).clamp = true ∧ h.holds 3 = false ∧
     s.pair.coldAt[(3 : Bank)] + 4000 ≤ s.boundaryTime ∧
     s.boundaryTime < (s.modPair fun p => { p with coldAt := Vector.replicate 4 s.now }).pair.coldAt[(3 : Bank)] + 4000 ∧
     s.lineFault 3 = false ∧ 2 ≤ h.ownOf 3 % 4 ∧ natBit (h.ownOf 3) 2 = false ∧ natBit (h.ownOf 3) 6 = false ∧ h.prio.toNat < s.prio ∧
     h.ownOf 0 % 4 < 2 ∧ s.pair.cold[(3 : Bank)] = true ∧ (s.bank 3).opening = false ∧ s.pairedBank 3 = true ∧
     (s.put (BANK_LINK_UP 3) 1).get (BANK_LINK_UP 3) = 1) := by decide +kernel

/-- The records of a whole snapshot 5 with a base of 0: header and, given what comes before it, end. -/
def snapHeader : List Byte := snapRec 0x10 (leBytes 4 5 ++ leBytes 4 0 ++ List.replicate 24 0)

/-- A heartbeat frame, and a Beacon frame, that are good. -/
def hbFrame : List Byte := pairFrame 1 (List.replicate 40 1)
def beaconFrame : List Byte := pairFrame 4 (List.replicate 64 1)

/-- The snapshot that the header opens. -/
def snapOpen : Snap := { seq := 5, base := 0, taken := 0, digest := [], bytes := snapHeader }

theorem met_PairLinkAndSnapshots :
    (let s := paired []
     s.inReset = false ∧ s.get PAIR_CFG_EN = 1 ∧ s.pair.lock = true ∧ s.pair.alive = true ∧ s.get PAIR_STAT_ROLE = 1 ∧ s.pairUp = true ∧
     (s.modPair fun p => { p with alive := false }).pairUp = false ∧
     hbFrame.length = 48 ∧ recU hbFrame 0 1 = 1 ∧ recU hbFrame 2 2 = 40 ∧ crc32Ends hbFrame = true ∧ crc32Ends (hbFrame.drop 1) = false ∧
     (s.modPair fun p => { p with lock := false }).pair.lock = false ∧ (s.modPair fun p => { p with alive := false }).pair.alive = false) ∧
    (let s := paired [(PAIR_STAT_ROLE, 2)]
     s.get PAIR_STAT_ROLE = 2 ∧ s.pair.lock = true ∧ recU snapHeader 0 1 = 0x10 ∧ snapHeader.length ≤ 1024 ∧ 4 ≤ snapHeader.length ∧
     snapHeader.length = 4 + (recU snapHeader 2 2 + 3) / 4 * 4 ∧ snapHeader.length + (snapRec 0x14 []).length ≤ 1024 ∧
     4 ≤ (snapRec 0x14 []).length ∧ recU hbFrame 0 1 ≠ 2 ∧ s.pair.shadow = none ∧ s.preparing = false) ∧
    (let s := (paired [(PAIR_STAT_ROLE, 2)]).modPair fun p => { p with shadow := some snapOpen, checked := some { snapOpen with recs := [(0x11, leBytes 1 31)] } }
     let whole := snapRec 0x1F (leBytes 4 5 ++ leBytes 4 snapHeader.length ++ leBytes 4 (crc32 snapHeader).toNat)
     let torn := snapRec 0x1F (leBytes 4 6 ++ leBytes 4 snapHeader.length ++ leBytes 4 (crc32 snapHeader).toNat)
     let p := (whole.drop 4).take (recU whole 2 2)
     s.pair.shadow = some snapOpen ∧ recU (snapRec 0x14 []) 0 1 = 0x14 ∧ recU whole 0 1 = 0x1F ∧ snapOpen.bad = false ∧
     recU p 0 4 = snapOpen.seq ∧ recU p 4 4 = snapOpen.bytes.length ∧ recU p 8 4 = (crc32 snapOpen.bytes).toNat ∧ snapOpen.base = 0 ∧
     recU ((torn.drop 4).take (recU torn 2 2)) 0 4 ≠ snapOpen.seq ∧ s.pair.checked = some { snapOpen with recs := [(0x11, leBytes 1 31)] } ∧
     recU (leBytes 1 31) 0 1 = (31 : Chan).val ∧ s.pairedBank 3 = true ∧ (s.bank 3).holds = false) := by decide +kernel

theorem met_HandoverMergeAndBeacons :
    (let s := paired [(PAIR_HANDOVER_STATE, 1), (PAIR_SNAP_SEQ_SEQ, 0xFFFFFFFF)]
     s.inReset = false ∧ s.get PAIR_HANDOVER_STATE = 1 ∧ (0xFFFFFFFF : BitVec 32).toNat = s.lastClosed ∧
     (0 : BitVec 32).toNat ≠ s.lastClosed ∧ s.pair.reqAt + 40000 ≤ s.boundaryTime ∧
     s.boundaryTime < (s.modPair fun p => { p with reqAt := s.now }).pair.reqAt + 40000) ∧
    (let s := paired []
     beaconFrame.length = 72 ∧ recU beaconFrame 0 1 = 4 ∧ recU beaconFrame 2 2 = 64 ∧ crc32Ends beaconFrame = true ∧
     s.get PAIR_HANDOVER_STATE ≠ 1 ∧ s.get PAIR_CFG_EN = 1 ∧ s.preparing = false ∧ s.pair.passed = false ∧
     (s.modPair fun p => { p with goAt := some 0 }).preparing = true ∧ (s.modPair fun p => { p with goAt := some 0 }).pair.goAt = some 0 ∧
     0 ≤ s.devTime s.boundaryTime ∧ s.devTime s.boundaryTime < 10000010001 ∧
     (s.modPair fun p => { p with frozen := some (s.now - 39999) }).preparing = true ∧
     (s.modPair fun p => { p with passed := true }).pair.passed = true) ∧
    (let s := (paired [(PAIR_HANDOVER_STATE, 2)]).modBank 3 fun b => { b with holds := true }
     s.pair.bAt ≤ s.devTime s.boundaryTime ∧
     s.devTime s.boundaryTime < (s.modPair fun p => { p with bAt := 10000010001 }).pair.bAt ∧
     s.get PAIR_HANDOVER_STATE = 2 ∧ s.pairedBank 3 = true ∧ (s.bank 3).running = true ∧ (s.bank 3).lost = false ∧
     (s.bank 3).holds = true ∧ (s.bank 3).releasing = false) ∧
    (let s := paired [(PAIR_STAT_SPLIT, 1), (PAIR_CFG_AUTO_MERGE, 1), (PAIR_CLAIM_CLAIM, 4), (PAIR_PARTNER_CLAIM_CLAIM, 5)]
     s.get PAIR_STAT_SPLIT = 1 ∧ s.get PAIR_CFG_AUTO_MERGE = 1 ∧ s.handoverRuns = false ∧ (∀ h ∈ s.partner, h.ready = true) ∧
     s.partner.isSome = true ∧ s.get PAIR_CLAIM_CLAIM < s.get PAIR_PARTNER_CLAIM_CLAIM ∧ s.get PAIR_STAT_ROLE = 1 ∧
     (let r := s.modPair fun p => { p with readyAt := some 36000000 }
      r.pair.readyAt = some 36000000 ∧ 36000000 + 4000000 ≤ r.boundaryTime) ∧
     (s.modPair fun p => { p with readyAt := some s.now }).pair.readyAt = some s.now ∧ s.boundaryTime < s.now + 4000000 ∧
     (∀ b : Bank, s.pairedBank b = true → s.lineFault b = false) ∧
     (s.put PAIR_CLAIM_CLAIM 5).get PAIR_PARTNER_CLAIM_CLAIM ≤ (s.put PAIR_CLAIM_CLAIM 5).get PAIR_CLAIM_CLAIM) ∧
    (paired [(PAIR_STAT_ROLE, 2)]).get PAIR_STAT_ROLE = 2 ∧ (paired []).pair.lock = true := by decide +kernel

theorem met_CandleNvSecurityAndDebug :
    ((on [(SYS_PWR_STAT_STATE, 3)]).get SYS_PWR_STAT_STATE = 3 ∧ (on [(SYS_MODE_MODE, 5)]).get SYS_MODE_MODE < 7 ∧ (on []).inReset = false ∧
      (on []).powered / 3600 ≤ (on []).candle.hours ∧
      (on [(CANDLE_MODE_S_S 7, 3600)]).candle.hours < (on [(CANDLE_MODE_S_S 7, 3600)]).powered / 3600 ∧
      (86400 ≤ ({ on [] with candle := { syncS := 86400 } } : State).candle.syncS) ∧ (on []).candle.ch[(31 : Chan)].ronCnt < 100 ∧
      ({ on [] with candle := { fold := some false } } : State).candle.fold = some false) ∧
    (let l : Load := { seat := 3, mode := .install, bytes := [], phase := .validating }
     ({ on [] with fwLoad := some l } : State).fwLoad = some l ∧ l.phase ≠ .receiving ∧ (on []).fwVerdict l.bytes ≠ 0 ∧
     l.phase = .validating ∧ (15 : BitVec 4) ≠ 0) ∧
    (({ on [] with secRun := some (.program 3 [] 7) } : State).secRun = some (.program 3 [] 7) ∧
      ({ on [] with nvRead := some ⟨3, 5, 0, 4, 0xFFFC⟩ } : State).nvRead = some ⟨3, 5, 0, 4, 0xFFFC⟩) ∧
    ((on []).debugMayTry = false ∧ (on [(SEC_DBG_LEVEL, 1), (SEC_DBG_FAILS, 2)]).debugMayTry = true ∧ (on []).dbgNonce = none) ∧
    ((on []).debugPermitted = true ∧ (on [(SEC_DBG_LEVEL, 2)]).debugPermitted = false ∧ State.reset.inReset = true ∧
      (0x100000 ≤ (0x100000 : Word).toNat ∧ (3 : Word).toNat % 4 ≠ 0) ∧
      ((0xFFFFC : Word).toNat < 0x100000 ∧ (0xFFFFC : Word).toNat % 4 = 0) ∧ (on []).portUp 0 = true ∧ (on []).sleeping = false ∧
      (on []).wdgServicer = 4 ∧ PrivGroup.count .markhor = 104 ∧ (on []).unpowered = false ∧
      { on [(SYS_RESET_CAUSE_CLASS, 1)] with inReset := true }.unpowered = true) := by decide +kernel

set_option maxRecDepth 100000 in
theorem met_CandleNvSecurityAndDebug_firmware : signed.fwVerdict firmware = 0 := by decide +kernel

set_option maxRecDepth 100000 in
theorem met_CandleNvSecurityAndDebug_debugger : signed.dbgNonce = some 12345 ∧ signed.debugMayTry = true ∧ signed.keyProgrammed 2 = true ∧
    signed.keyRevoked 2 = false ∧ signed.nv.use[(2 : Fin 4)].getLsbD 2 = true ∧ signed.keyStored 2 = true ∧
    ecdsaOk (sha256 (beBytes 32 (12345 : BitVec 256).toNat ++ signed.uidBytes)) signed.nv.store[(2 : Fin 4)] (beBytes 32 debugR.toNat)
      (beBytes 32 debugS.toNat) = true := by decide +kernel


/-! Single commands against the spec's tables and worked numbers. -/

/-- The bytes of a frame with its CRC (R211). -/
def frame (l : List Byte) : List Byte := l ++ [((crc16 l).toNat / 256 : Nat), ((crc16 l).toNat : Nat)].map (BitVec.ofNat 8)

/-- A write frame of words, and one of a single word. -/
def wrs (a : Word) (ws : List Word) : List Byte := frame ((2 : Byte) :: (wordBytes a).reverse ++
  [((4 * ws.length) / 256 : Nat), (4 * ws.length : Nat)].map (BitVec.ofNat 8) ++ ws.flatMap wordBytes)
def wr (a w : Word) : List Byte := wrs a [w]

/-- Check value of R212 over the ASCII digits 1 to 9. -/
theorem test_crc16_check_value : crc16 [0x31, 0x32, 0x33, 0x34, 0x35, 0x36, 0x37, 0x38, 0x39] = 0x29B1 := by decide +kernel

/-- Check value of R178. -/
theorem test_crc32_check_value : crc32 [0x31, 0x32, 0x33, 0x34, 0x35, 0x36, 0x37, 0x38, 0x39] = 0xCBF43926 := by decide +kernel

/-- SHA-256 of the empty string (FIPS 180-4; PRESUMED, log entry 14). -/
theorem test_sha256_of_nothing : (sha256 []).take 8 = [0xE3, 0xB0, 0xC4, 0x42, 0x98, 0xFC, 0x1C, 0x14] := by decide +kernel

/-- CH10 as an adopted AO_I cell of seat 0 in RUN, with the settings of the 750 Ohm example. -/
def loop : State := let l : List (Fld × Nat) := [(CELL_CFG_FUNC 10, 8), (CELL_AO_NE43_CLAMP 10, 1), (CELL_AO_ALM_LO_UA 10, 3500), (CELL_AO_ALM_HI_UA 10, 21800)]
  let s := both ((CELL_STATE_STATE 10, 2) :: (CELL_STATE_ADOPTED 10, 1) :: l)
  { s with cells := s.cells.set (10 : Chan) { s.cells[(10 : Chan)] with state := .active, adopted := true } }

/-- The write frame of the worked example of chapter 06, byte for byte, with its response. -/
theorem test_host_frame_of_the_example :
    let t := after (.hostFrame 0 [0x02, 0x00, 0x04, 0x28, 0x10, 0x00, 0x04, 0x20, 0x4E, 0x00, 0x00, 0x02, 0x7E] 0) loop
    t.resp[(0 : Seat)] = [0xA5, 0x00, 0xFF, 0x84] ∧ (after (.fabricCycleBoundary 0 true 128) t).get (CELL_OUT_VALUE 10) = 20000 := by
  decide +kernel

/-- The same bytes from seat 1: NOT_OWNER and the address. -/
theorem test_host_frame_of_another_seat :
    let t := after (.hostFrame 1 [0x02, 0x00, 0x04, 0x28, 0x10, 0x00, 0x04, 0x20, 0x4E, 0x00, 0x00, 0x02, 0x7E] 0) loop
    t.get (SEAT_LAST_REF_CODE 1) = 7 ∧ t.get (SEAT_LAST_REF_ADDR_ADDR 1) = 0x42810 ∧ t.resp[(1 : Seat)].getD 1 0 = 7 := by decide +kernel

/-- The safe values of the worked example of chapter 02, taken and refused. -/
theorem test_safe_values_of_the_example :
    let s := both [(CELL_CFG_FUNC 8, 5), (CELL_CFG_FUNC 12, 8), (CELL_STATE_ADOPTED 8, 1), (CELL_STATE_ADOPTED 12, 1)]
    refused (.hostFrame 0 (wr 0x4200C 0x00000005) 0) s 0 0xA = true ∧ refused (.hostFrame 0 (wr 0x4300C 0x61A90003) 0) s 0 0xA = true ∧
    (after (.hostFrame 0 (wr 0x4200C 0x66660003) 0) s).resp[(0 : Seat)].getD 1 9 = 0 ∧
    (after (.hostFrame 0 (wr 0x4300C 0x0FA00003) 0) s).resp[(0 : Seat)].getD 1 9 = 0 := by decide +kernel

/-- The wire-fuse word of the worked example: its fields. -/
theorem test_fuse_word_of_the_example : let t := after (.hostFrame 0 (wr 0x41700 0x00F42303) 0) (both [(CELL_CFG_FUNC 5, 3), (CELL_STATE_ADOPTED 5, 1)])
    let u := after (.fabricCycleBoundary 0 true 128) t
    (u.get (CELL_FUSE_CFG_WIRE 5), u.get (CELL_FUSE_CFG_BUNDLE 5), u.get (CELL_FUSE_CFG_K_N 5), u.get (CELL_FUSE_CFG_OFFSET 5)) =
      (3, 3, 2, 0xF4) := by decide +kernel

/-- A watchdog that seat 2 serves, OPEN 20,000 us and TIMEOUT 50,000 us, with its count at c us. -/
def dog (c : Nat) : State := { on [(SYS_BOOT_OK_OK, 1)] with
  wdgOpen := 20000, wdgTimeout := 50000, wdgServicer := 2, wdgStart := 40000000 - 4 * c }

/-- Both keys in one frame over MGMT, as the worked example of chapter 11 writes them. -/
def bothKeys : Instr := .hostFrame 2 (wrs 0x1000C [0x00005AC3, 0x0000A53C]) 0

/-- The window edges of the worked example: valid at 20,000 us and 49,999 us. -/
theorem test_watchdog_window : (after bothKeys (dog 20000)).wdgStart = 40000000 ∧ (after bothKeys (dog 49999)).wdgStart = 40000000 := by
  decide +kernel

/-- The window edges of the worked example: EARLY (2) at 19,999 us, EXPIRED (1) at 50,000 us. -/
theorem test_watchdog_edges :
    let early := (dog 19999).put WDG_STAT_ARMED 1
    let late := (dog 50000).put WDG_STAT_ARMED 1
    early.wdgKeyB 0xA53C 0 = early.wdgFail 2 19999 ∧ late.wdgKeyB 0xA53C 0 = late.wdgFail 1 50000 := by
  exact ⟨rfl, rfl⟩

/-- The figures of the ageing valve channel. -/
theorem test_candle_figures_of_the_example :
    planCeil 1375 = 1788 ∧ planIlim 1375 = 82 ∧ lifePct (3 / 4) = 25 ∧ remainHours (3 / 4) (65 / 100) = 2500 ∧
      planBudget 2300 (3 / 4) = 13 := by decide +kernel

/-- The configuration words of the example of chapter 12 wait in CW_STAT. -/
theorem test_cw_store_of_the_example :
    let s := on [(SYS_CW_CLK_CLK_MODE, 1), (SYS_CW_BOOT_VOTIVE_SEATS, 5), (SYS_CW_BOOT_AUTO_LOCK, 1), (SYS_CW_STAT_XDRIVE, 1), (SYS_CW_STAT_VOTIVE_SEATS, 7)]
    (after (.cwStoreDone 0) (after (.fabricCycleBoundary 0 true 128) (after (.cwStore 0 0x57C1 0) s))).word 0x40C = 0x272 := by decide +kernel

/-- The sequence pass of the worked example of chapter 04: a tick at 100 us with 64 us of entries. -/
theorem test_sequence_entry_times : (([7, 7, 7, 7, 15, 15, 7, 7, 7, 7, 3, 3, 31, 7, 31, 31].map fun smp => smp + 1 + 3).foldl (· + ·) 0) * 25 = 6400 := by
  decide +kernel

end Sys2Proof.Tests
end

section
/-!
PROOFS of the statements about the block as a whole (00_scope.md): what `State.reset` holds (O3), and what WAKE leaves as it
was, by which the clause of O54 on the lines due in SLEEP fails.
-/

namespace Sys2Proof.Machine.State

/-! ### What State.reset holds -/

theorem cell_reset (n : Chan) : State.reset.cell n = {} := by simp [cell, State.reset]

/-- A seat's words of pending lines and of SNAP bits are clear at reset (R231). -/
theorem evt_words_reset (x : Seat) :
    State.reset.word (EVT_PEND_LO_LINE x).addr = 0 ∧ State.reset.word (EVT_PEND_HI_LINE x).addr = 0 ∧
    ∀ i : Fin 3, State.reset.word (EVT_SNAP_UNIT x i).addr = 0 := by
  revert x; decide +kernel

theorem linePending_reset (x : Seat) (line : Nat) : State.reset.linePending x line = false := by
  obtain ⟨lo, hi, snap⟩ := evt_words_reset x
  unfold linePending
  split
  · simp [lo]
  · split
    · next h32 h36 =>
      have noSnap (j : Nat) (hj : j < 24) : State.reset.snapBit x (24 * (line - 32) + j) = false := by
        have := snap ⟨(24 * (line - 32) + j) / 32, by omega⟩
        simp only [snapBit, this]; simp
      simpa using noSnap
    · simp [hi]

theorem attn_reset (x : Seat) : State.reset.attn x = false := by
  simp [attn, lineOn, linePending_reset]

/-! ### What WAKE leaves as it was -/

theorem word_dmaEdge (s : State) (trig : Nat) (mine : DmaCh → Bool) (a : Nat) : (s.dmaEdge trig mine).word a = s.word a := rfl

/-- A rising event line changes no register but the seat's two words of pending lines (R231). -/
theorem word_raiseIn (s : State) (line : Nat) (x : Seat) {a : Nat} (hlo : a ≠ (EVT_PEND_LO_LINE x).addr)
    (hhi : a ≠ (EVT_PEND_HI_LINE x).addr) : (s.raiseIn line x).word a = s.word a := by
  unfold raiseIn
  split
  · rfl
  · split <;> simp only [lineEdge, word_dmaEdge, word_raiseBits, if_neg hlo.symm, if_neg hhi.symm]

/-- The address of no register that WAKE writes: neither PWR_STAT nor a seat's words of pending lines. -/
def BesideWake (a : Nat) : Prop :=
  a ≠ SYS_PWR_STAT_STATE.addr ∧ ∀ x : Seat, a ≠ (EVT_PEND_LO_LINE x).addr ∧ a ≠ (EVT_PEND_HI_LINE x).addr

theorem word_raiseDue (s : State) {a : Nat} (h : BesideWake a) : s.raiseDue.word a = s.word a := by
  have raises (l : List (Nat × Seat)) (t : State) :
      (t.forEach l fun t e => t.raiseIn e.1 e.2).word a = t.word a := by
    induction l generalizing t with
    | nil => rfl
    | cons e l ih =>
      obtain ⟨hlo, hhi⟩ := h.2 e.2
      exact (ih _).trans (word_raiseIn t e.1 e.2 hlo hhi)
  exact raises s.dueLines { s with dueLines := [] }

theorem word_wake (s : State) (src : WakeSrc) {a : Nat} (h : BesideWake a) : (s.wake src).word a = s.word a := by
  have pwr {f : Fld} (hf : f.addr = 0x304) (t : State) (v : Nat) : (t.put f v).word a = t.word a :=
    word_put_ne t (by rw [hf]; exact h.1.symm) v
  have left (t : State) (b : Bool) : (t.leaveSleep src b).word a = t.word a := by
    simp only [leaveSleep, putB, word_raiseDue _ h, pwr]
  unfold wake
  split
  · rfl
  · dsimp only
    split
    · rfl
    · split <;> simp only [addWrap, pwr, left] <;> rfl

/-- Waking leaves lines 32 to 35 as they were: each is read from the SNAP bits of its bank (R231), which no raised line sets. -/
theorem linePending_wake_snapLine (s : State) (src : WakeSrc) (x : Seat) {line : Nat} (h32 : 32 ≤ line) (h36 : line < 36) :
    (s.wake src).linePending x line = s.linePending x line := by
  have snap : ∀ j ∈ List.range 24,
      (s.wake src).snapBit x (24 * (line - 32) + j) = s.snapBit x (24 * (line - 32) + j) := by
    intro j hj
    have hj := List.mem_range.mp hj
    have evt : BesideWake (EVT_SNAP_UNIT x ((24 * (line - 32) + j) / 32)).addr :=
      ⟨by dsimp only; omega, fun y => ⟨by dsimp only; omega, by dsimp only; omega⟩⟩
    have own : BesideWake (STAT_OWN_SEAT (24 * (line - 32) + j)).addr :=
      ⟨by dsimp only; omega, fun y => ⟨by dsimp only; omega, by dsimp only; omega⟩⟩
    simp only [snapBit, get, word_wake s src evt, word_wake s src own]
  simp only [linePending, if_neg (Nat.not_lt.mpr h32), if_pos h36]
  rw [Bool.eq_iff_iff, List.any_eq_true, List.any_eq_true]
  exact exists_congr fun j => and_congr_right fun hj => by rw [snap j hj]

/-- A device in SLEEP in which line 32, the SNAP line of bank 0, waits for the exit in seat 0, and no SNAP bit is set. -/
def snapLineDue : State :=
  { State.reset with regs := [(SYS_PWR_STAT_STATE.addr, 3)], inReset := false, dueLines := [(32, 0)] }

end Sys2Proof.Machine.State

open Sys2Proof Sys2Proof.Machine Sys2Proof.Claims

/-- Settles O3: the closed facts by evaluation, those of every seat and every cell from the lemmas about `State.reset`. -/
theorem resetValuesOfRegisters : Obligations.ResetValuesOfRegisters := by
  unfold Obligations.ResetValuesOfRegisters
  have seat (x : Seat) : State.reset.get (SEAT_CFG_REFRESH_MODE x) = 0 ∧ State.reset.attn x = false :=
    ⟨by revert x; decide +kernel, State.attn_reset x⟩
  have cell (n : Chan) : (State.reset.cell n).state = .config ∧ (State.reset.cell n).cause = .bootConfig ∧
      (State.reset.cell n).adopted = false := by
    simp [State.cell_reset]
  refine ⟨?mode, rfl, rfl, rfl, rfl, rfl, ?bootValues, ?resetCause, ?bootOk, ?lock, ?power, ?role, ?idcode, seat, cell⟩
  all_goals decide +kernel

/-- Refutes O54: the clause of WAKE has every line in `dueLines` pending after the exit from SLEEP, in any state. Lines 32 to 35
are no bits that an exit can set: they read the SNAP bits of their bank (R231), so line 32, waiting in a state with no SNAP
bit, is not pending afterwards. (A run never queues these lines; the clause has no premise that says so.) -/
theorem not_resetsBootAndWake : ¬ Obligations.ResetsBootAndWake := by
  unfold Obligations.ResetsBootAndWake
  rintro ⟨-, -, -, running, -⟩
  obtain ⟨-, -, -, wakes, -⟩ := running State.snapLineDue rfl
  obtain ⟨t, ht, -, -, -, -, -, pending, -⟩ := wakes .spi (by decide +kernel) rfl
  obtain rfl : State.snapLineDue.wake .spi = t := Host.Outcome.next.inj ht
  have raised : (State.snapLineDue.wake .spi).linePending 0 32 = true := pending (32, 0) (by decide)
  rw [State.linePending_wake_snapLine _ _ _ (by decide) (by decide)] at raised
  exact absurd raised (by decide +kernel)
end

section
/-!
PROOFS of the statements about switching outputs (02_switching_outputs.md): what the diagnostic commands make of the cell they
act on (O43), and a trip in the 10 us after the partner took a bank, by which the trip clause of O33 fails.
-/

open Sys2Proof.Claims

namespace Sys2Proof.Machine

theorem getElem_setBit_self {w : Nat} (x : BitVec w) {i : Nat} (hi : i < w) (b : Bool) : (setBit x i b)[i] = b := by
  cases b <;> simp [setBit]

/-- What the end of an open-load slot that ran under the off-state tests makes of its cell (R72, R73). -/
def FCell.slotJudged (c : FCell) (v : Int) : FCell :=
  let high := if 1500 < v then c.olHigh + 1 else 0
  let low := if v < 1500 then c.olLow + 1 else 0
  { c with
    slot := false, vterm := v, olHigh := high, olLow := low
    live := if 3 ≤ high then setBit c.live FL_OPEN_LOAD true
      else if 3 ≤ low then setBit c.live FL_OPEN_LOAD false else c.live
    occ := if 3 ≤ high then setBit c.occ FL_OPEN_LOAD true else c.occ }

namespace FCell

/-- A round above 3.0 V: OPEN_LOAD is live from the third in a row on. -/
theorem slotJudged_above (c : FCell) {v : Int} (h : 1500 < v) :
    (c.slotJudged v).olHigh = c.olHigh + 1 ∧ (c.slotJudged v).olLow = 0 ∧
    (c.slotJudged v).live.getLsbD FL_OPEN_LOAD = (decide (2 ≤ c.olHigh) || c.live.getLsbD FL_OPEN_LOAD) := by
  have notBelow : ¬ v < 1500 := by omega
  by_cases third : 2 ≤ c.olHigh
  · simp [slotJudged, h, notBelow, third, getElem_setBit_self]
  · simp [slotJudged, h, notBelow, third]

/-- A round below 3.0 V: OPEN_LOAD is not live from the third in a row on. -/
theorem slotJudged_below (c : FCell) {v : Int} (h : v < 1500) :
    (c.slotJudged v).olLow = c.olLow + 1 ∧ (c.slotJudged v).olHigh = 0 ∧
    (c.slotJudged v).live.getLsbD FL_OPEN_LOAD = (c.live.getLsbD FL_OPEN_LOAD && decide (c.olLow < 2)) := by
  have notAbove : ¬ 1500 < v := by omega
  by_cases third : c.olLow < 2
  · simp [slotJudged, h, notAbove, third, Nat.not_le.mpr third]
  · simp [slotJudged, h, notAbove, third, Nat.not_lt.mp third, getElem_setBit_self]

end FCell

namespace State

theorem modCell_modCell (s : State) (n : Chan) (f g : FCell → FCell) :
    (s.modCell n f).modCell n g = s.modCell n fun c => g (f c) := by simp [modCell]

theorem frame_modCell (s : State) (n : Chan) (g : FCell → FCell) : Frame s (s.modCell n g) noReg (· = n) noBank where
  rest := rfl
  regs _ _ := rfl
  cells _ hk := cell_modCell_ne s (Ne.symm hk) g
  banks _ _ := rfl

/-! ### The off-state tests and the on-state open load, an equation a case -/

section
variable {s : State} {n : Chan}

theorem offStateSlot_starts (tested : s.offTested n = true) (en : s.fget (bankOf n) (CELL_DIAG_CFG_OL_OFF_EN n) = 1) (v : Int) :
    s.offStateSlot n true v = s.modCell n fun c => { c with slot := true } := by simp [offStateSlot, tested, en]

theorem offStateSlot_ends (tested : s.offTested n = true) (ran : (s.cell n).slot = true) (v : Int) :
    s.offStateSlot n false v = s.modCell n fun c => c.slotJudged v := by simp [offStateSlot, tested, ran, FCell.slotJudged]

theorem offStateFlagTimer_low (tested : s.offTested n = true) (noSlot : (s.cell n).slot = false) (near : List Chan) (v : Int) :
    s.offStateFlagTimer n false near v = s.modCell n fun c => { c with
      vterm := v, xfeedSrc := none, live := setBit (setBit c.live FL_SHORT_VF false) FL_XFEED false } := by
  simp [offStateFlagTimer, tested, noSlot, modCell_modCell]

theorem offStateFlagTimer_short (tested : s.offTested n = true) (noSlot : (s.cell n).slot = false) {near : List Chan}
    (noSrc : (s.cell n).xfeedSrc = none) (noFeed : s.xfeedCandidate n near = none) (v : Int) :
    s.offStateFlagTimer n true near v = s.modCell n fun c => { c with
      vterm := v, xfeedSrc := none, live := setBit (setBit c.live FL_SHORT_VF true) FL_XFEED false,
      occ := setBit c.occ FL_SHORT_VF true } := by
  simp [offStateFlagTimer, tested, noSlot, noSrc, noFeed, modCell_modCell]

theorem openLoadOnTimer_below (on : (s.cell n).on = true) (noInrush : (s.cell n).inrush = false)
    (switch : isSwitchFn (s.fn n) = true) {ma : Nat} (h : ma < s.fget (bankOf n) (CELL_DIAG_CFG_OL_ON_MA n)) :
    s.openLoadOnTimer n ma = s.modCell n fun c =>
      { c with live := setBit c.live FL_OPEN_LOAD true, occ := setBit c.occ FL_OPEN_LOAD true } := by
  simp [openLoadOnTimer, on, noInrush, switch, h]

theorem openLoadOnTimer_reached (on : (s.cell n).on = true) (noInrush : (s.cell n).inrush = false)
    (switch : isSwitchFn (s.fn n) = true) {ma : Nat} (h : s.fget (bankOf n) (CELL_DIAG_CFG_OL_ON_MA n) ≤ ma) :
    s.openLoadOnTimer n ma = s.modCell n fun c => { c with live := setBit c.live FL_OPEN_LOAD false } := by
  simp [openLoadOnTimer, on, noInrush, switch, Nat.not_lt.mpr h]

end

/-! ### A trip while the switches of a bank that the partner took still open -/

/-- The output stage follows a cell's state; it never changes it. -/
theorem state_settle (s : State) (n : Chan) (commandedTurnOn : Bool) :
    ((s.settle n commandedTurnOn).cell n).state = (s.cell n).state := by
  have stop (t : State) : ((t.stopWick n).cell n).state = (t.cell n).state := by simp [stopWick]
  have off (t : State) : ((t.turnOff n).cell n).state = (t.cell n).state := by unfold turnOff; split <;> simp
  have inrush (t : State) : ((t.openInrush n).cell n).state = (t.cell n).state := by
    unfold openInrush; repeat' split
    all_goals simp
  have on (t : State) : ((t.turnOn n).cell n).state = (t.cell n).state := by unfold turnOn; split <;> simp [inrush]
  have pwm : ((s.settlePwm n).cell n).state = (s.cell n).state := by
    unfold settlePwm; dsimp only; repeat' split
    all_goals simp [stop, off, on]
  unfold settle; dsimp only; repeat' split
  all_goals simp [stop, off, on, pwm]

/-- A cell that enters a state is in it (R28). -/
theorem state_enter (s : State) (n : Chan) (st : CellState) (ca : Cause) : ((s.enter n st ca).cell n).state = st := by
  have ramp (t : State) (p : Prop) [Decidable p] :
      ((if p then t.softFromHeld n else t).cell n).state = (t.cell n).state := by
    unfold softFromHeld; dsimp only; repeat' split
    all_goals simp
  unfold enter
  dsimp only
  rw [state_settle, ramp, cell_modCell_self]

theorem state_reselect (s : State) (n : Chan) : ((s.reselect n).cell n).state = (s.selectState n).1 := state_enter _ _ _ _

/-- A cell of a paired bank that the unit does not hold keeps its state and cause, a latched protection included: they come
from the holder's snapshots (R304). -/
theorem selectState_of_parted {s : State} {n : Chan} (parted : s.parted (bankOf n) = true)
    (linked : (s.bank (bankOf n)).lost = false) (configured : (s.bank (bankOf n)).configuring = false) :
    s.selectState n = ((s.cell n).state, (s.cell n).cause) := by
  obtain ⟨paired, released⟩ : (s.bank (bankOf n)).paired = true ∧ (s.bank (bankOf n)).holds = false := by
    simpa [State.parted] using parted
  simp [selectState, paired, released, linked, configured]

/-- So a fuse trip there counts and latches, and the cell is in the state it was in. -/
theorem state_fuseTrip_of_parted {s : State} {n : Chan} (parted : s.parted (bankOf n) = true)
    (linked : (s.bank (bankOf n)).lost = false) (configured : (s.bank (bankOf n)).configuring = false) :
    ((s.fuseTrip n).cell n).state = (s.cell n).state := by
  unfold fuseTrip latchProtection
  rw [state_reselect, selectState_of_parted]
  · simp
  · exact parted
  · exact linked
  · exact configured

/-- Paired bank 0 in the 10 us after the partner took it (R305): CH0, a DO_HS in ACTIVE, still conducts. -/
def openingAfterTake : State :=
  (State.reset.modBank 0 fun b => { b with
    running := true, configuring := false, mode := .run, paired := true, holds := false, opening := true
    copy := [((CELL_CFG_FUNC 0).addr, BitVec.ofNat 32 FN_DO_HS)] }).modCell 0 fun c => { c with
    state := .active, cause := .none, adopted := true, commanded := 1, applied := 1, on := true }

end State

end Sys2Proof.Machine

open Sys2Proof Sys2Proof.Machine

/-- Settles O43: each command's equation in its case, and for the slot's end the two verdicts on a round. -/
theorem diagnosticsOfSwitches : Obligations.DiagnosticsOfSwitches := by
  unfold Obligations.DiagnosticsOfSwitches
  intro s n
  refine ⟨fun tested en v => ⟨?starts, fun ran => ?ends⟩, fun tested noSlot near v => ⟨?low, fun noSrc noFeed => ?short⟩,
    fun on noInrush switch ma => ⟨fun h => ?below, fun h => ?reached⟩⟩
  case starts => exact congrArg Host.Outcome.next (State.offStateSlot_starts tested en v)
  case ends =>
    refine ⟨_, congrArg Host.Outcome.next (State.offStateSlot_ends tested ran v), ?_⟩
    simp only [State.cell_modCell_self]
    exact ⟨rfl, rfl, (s.cell n).slotJudged_above, (s.cell n).slotJudged_below, State.frame_modCell s n _⟩
  case low => exact congrArg Host.Outcome.next (State.offStateFlagTimer_low tested noSlot near v)
  case short => exact congrArg Host.Outcome.next (State.offStateFlagTimer_short tested noSlot noSrc noFeed v)
  case below => exact congrArg Host.Outcome.next (State.openLoadOnTimer_below on noInrush switch h)
  case reached => exact congrArg Host.Outcome.next (State.openLoadOnTimer_reached on noInrush switch h)

/-- Refutes O33: the trip clause takes every cell of which `Drives` holds, and `Drives` holds too in the 10 us after the partner
took the bank (R305). There the cell follows the holder's snapshots (R304, `State.selectState`), so the trip counts and latches
but the cell stays ACTIVE and does not go to FAULT. (Through exec no such trip comes: a fuse step leaves the model of a bank
that is not held alone, R307. The clause is about `State.fuseTrip` itself, in any state.) -/
theorem not_fuseModelFollowsItsFormula : ¬ Obligations.FuseModelFollowsItsFormula := by
  unfold Obligations.FuseModelFollowsItsFormula
  rintro ⟨-, trips⟩
  have drives : Drives State.openingAfterTake 0 := .inr (.inr (by decide +kernel))
  obtain ⟨⟨faulted, -⟩, -⟩ := trips State.openingAfterTake 0 drives
  have stays : ((State.openingAfterTake.fuseTrip 0).cell 0).state = .active :=
    State.state_fuseTrip_of_parted (by decide +kernel) (by decide +kernel) (by decide +kernel)
  exact absurd (stays.symm.trans faulted) (by decide)
end

section
/-!
PROOFS of the statements about inputs, loops and trims (03_inputs_and_loops.md): how a digital input forms and counts its LEVEL
(O45), the writes of TRIM.SEL and TRIM.STORE (O23), and a trim store that fails with no spare sector left, by which the store
clause of O47 fails.
-/

open Sys2Proof.Claims

namespace Sys2Proof.Machine

/-! ### Digital inputs -/

theorem bits_lt {n : Nat} (x : BitVec n) (lo w : Nat) : bits x lo w < 2 ^ w := BitVec.isLt _

/-- COUNT of a counter of a mode takes a change of LEVEL to l (R84, R87). -/
def edgeHit (mode : Nat) (l : Bool) : Bool :=
  match mode with
  | 0 => l
  | 1 => ! l
  | 2 => true
  | _ => l

theorem edgeHit_iff {mode : Nat} (h : mode < 4) (l : Bool) :
    edgeHit mode l = true ↔ (mode = 0 ∨ mode = 3) ∧ l = true ∨ mode = 1 ∧ l = false ∨ mode = 2 := by
  obtain rfl | rfl | rfl | rfl : mode = 0 ∨ mode = 1 ∨ mode = 2 ∨ mode = 3 := by omega
  all_goals simp [edgeHit]

namespace FCell

/-- A cell whose comparator level has been accepted (R81). -/
def levelTaken (c : FCell) : FCell := { c with acc := c.raw }

/-- A cell whose input current has stayed below the wire-break threshold, or no longer does (R83). -/
def wireJudged (below : Bool) (c : FCell) : FCell :=
  { c with live := setBit c.live FL_WIRE_BREAK below, occ := if below then setBit c.occ FL_WIRE_BREAK true else c.occ }

/-- A cell that has entered the BREAK band with BREAK_EN (R90). -/
def bandBroken (c : FCell) : FCell :=
  { c with
    faultBand := some 0, preBand := if c.faultBand.isNone then c.level else c.preBand
    live := setBit c.live FL_WIRE_BREAK true, occ := setBit c.occ FL_WIRE_BREAK true }

theorem occ_wireJudged (c : FCell) : (c.wireJudged true).occ.getLsbD FL_WIRE_BREAK = true :=
  getElem_setBit_self c.occ (by decide) true

theorem flags_bandBroken (c : FCell) :
    c.bandBroken.live.getLsbD FL_WIRE_BREAK = true ∧ c.bandBroken.occ.getLsbD FL_WIRE_BREAK = true :=
  ⟨getElem_setBit_self c.live (by decide) true, getElem_setBit_self c.occ (by decide) true⟩

theorem live_wireJudged (below : Bool) (c : FCell) : (c.wireJudged below).live.getLsbD FL_WIRE_BREAK = below :=
  getElem_setBit_self c.live (by decide) below

end FCell

namespace State

/-- A cell in which a change of LEVEL to l has counted: in EDGE_CNT, and in DI_COUNT in COUNT and in the gate as MODE says
(R82, R84, R87). -/
def edgeCounted (s : State) (n : Chan) (l : Bool) (c : FCell) : FCell :=
  let mode := s.fget (bankOf n) (CELL_CTR_CFG_MODE n)
  { c with
    edgeCnt := c.edgeCnt + 1
    count := if s.fn n = FN_DI_COUNT ∧ edgeHit mode l then c.count + 1 else c.count
    gate := if s.fn n = FN_DI_COUNT ∧ mode = 3 ∧ l then c.gate + 1 else c.gate }

/-- A cell after its LEVEL has been formed as l. -/
def leveled (s : State) (n : Chan) (l : Bool) (c : FCell) : FCell :=
  if l = c.level then c else s.edgeCounted n l { c with level := l }

section
variable {s : State} {n : Chan}

theorem modCell_congr {f g : FCell → FCell} (h : f (s.cell n) = g (s.cell n)) : s.modCell n f = s.modCell n g := by
  have same : f s.cells[n] = g s.cells[n] := h
  rw [modCell, modCell, same]

theorem modCell_id (s : State) (n : Chan) : (s.modCell n fun c => c) = s := by
  have same : s.cells.set n s.cells[n] = s.cells := Vector.set_getElem_self _
  rw [modCell, same]

theorem countEdge_eq (s : State) (n : Chan) (l : Bool) : s.countEdge n l = s.modCell n (s.edgeCounted n l) := rfl

theorem formLevel_eq (s : State) (n : Chan) :
    s.formLevel n = s.modCell n (s.leveled n (s.inputLevel n (s.cell n))) := by
  unfold formLevel
  dsimp only
  split
  next same => exact (modCell_id s n).symm.trans (modCell_congr (by simp [leveled, same]))
  next changed =>
    rw [countEdge_eq, modCell_modCell]
    refine modCell_congr ?_
    rw [leveled, if_neg changed]
    rfl

/-- A command that changes a cell by g and then forms its LEVEL changes nothing but the cell. -/
theorem formLevel_forms (s : State) (n : Chan) (g : FCell → FCell) :
    let t := (s.modCell n g).formLevel n
    t.cell n = s.leveled n (s.inputLevel n (g (s.cell n))) (g (s.cell n)) ∧ Frame s t noReg (· = n) noBank := by
  have formed : (s.modCell n g).formLevel n =
      s.modCell n fun c => s.leveled n (s.inputLevel n (g (s.cell n))) (g c) := by
    rw [formLevel_eq, modCell_modCell, cell_modCell_self]
    rfl
  rw [formed]
  exact ⟨cell_modCell_self _ _ _, frame_modCell s n _⟩

/-- What the forming of LEVEL counts. -/
theorem leveled_counts (s : State) (n : Chan) (l : Bool) (c : FCell) :
    let mode := s.fget (bankOf n) (CELL_CTR_CFG_MODE n)
    let d := s.leveled n l c
    d.level = l ∧ d.edgeCnt = c.edgeCnt + (if l = c.level then 0 else 1) ∧
    d.count = c.count + (if s.fn n = FN_DI_COUNT ∧ l ≠ c.level ∧
      ((mode = 0 ∨ mode = 3) ∧ l = true ∨ mode = 1 ∧ l = false ∨ mode = 2) then 1 else 0) := by
  have mode : s.fget (bankOf n) (CELL_CTR_CFG_MODE n) < 4 := bits_lt _ _ _
  simp only [leveled, edgeCounted, ← edgeHit_iff mode]
  by_cases same : l = c.level
  · simp [same]
  · by_cases counter : s.fn n = FN_DI_COUNT
    · cases edgeHit (s.fget (bankOf n) (CELL_CTR_CFG_MODE n)) l <;> simp [same, counter]
    · simp [same, counter]

/-- The forming of LEVEL sets LEVEL and the counts: a field that they leave alone is as it was. -/
theorem leveled_keeps {α : Type} {f : FCell → α} (kept : ∀ c l, f (s.edgeCounted n l { c with level := l }) = f c)
    (l : Bool) (c : FCell) : f (s.leveled n l c) = f c := by
  unfold leveled
  split
  · rfl
  · exact kept c l

@[simp] theorem acc_leveled (s : State) (n : Chan) (l : Bool) (c : FCell) : (s.leveled n l c).acc = c.acc :=
  leveled_keeps (f := FCell.acc) (fun _ _ => rfl) l c

@[simp] theorem live_leveled (s : State) (n : Chan) (l : Bool) (c : FCell) : (s.leveled n l c).live = c.live :=
  leveled_keeps (f := FCell.live) (fun _ _ => rfl) l c

@[simp] theorem occ_leveled (s : State) (n : Chan) (l : Bool) (c : FCell) : (s.leveled n l c).occ = c.occ :=
  leveled_keeps (f := FCell.occ) (fun _ _ => rfl) l c

@[simp] theorem faultBand_leveled (s : State) (n : Chan) (l : Bool) (c : FCell) :
    (s.leveled n l c).faultBand = c.faultBand := leveled_keeps (f := FCell.faultBand) (fun _ _ => rfl) l c

/-- LEVEL of a contact is the accepted level, inverted by INV, and 0 while WIRE_BREAK is live (R82, R83). -/
theorem inputLevel_contact (contact : s.fn n = FN_DI ∨ s.fn n = FN_DI_COUNT) (c : FCell) :
    s.inputLevel n c = (! c.live.getLsbD FL_WIRE_BREAK && (c.acc != (s.fget (bankOf n) (CELL_DI_INV n) == 1))) := by
  have notNamur : s.fn n ≠ FN_DI_NAMUR := by rcases contact with h | h <;> simp [h, FN_DI, FN_DI_COUNT, FN_DI_NAMUR]
  unfold inputLevel
  simp only [notNamur, if_false]
  cases c.live.getLsbD FL_WIRE_BREAK <;> simp

/-- LEVEL of a NAMUR input in the BREAK band with BREAK_EN is FAULT_VAL (R90). -/
theorem inputLevel_namurBreak {c : FCell} (namur : s.fn n = FN_DI_NAMUR) (broken : c.faultBand = some 0)
    (en : s.fget (bankOf n) (CELL_NAMUR_CFG_BREAK_EN n) = 1) (val : s.fget (bankOf n) (CELL_NAMUR_CFG_FAULT_VAL n) = 0) :
    s.inputLevel n c = false := by
  simp [inputLevel, namur, broken, en, val]

theorem wireBreakEnabled_contact (contact : s.fn n = FN_DI ∨ s.fn n = FN_DI_COUNT)
    (en : s.fget (bankOf n) (CELL_DI_WB_EN n) = 1) : s.wireBreakEnabled n = true := by
  rcases contact with h | h <;> simp [wireBreakEnabled, h, en]

/-! What the input commands do to an acquiring cell, an equation a case. -/

theorem acceptLevel_first (acq : s.acquiring n = true) (first : (s.cell n).fresh = false) :
    s.acceptLevel n = s.modCell n fun c => { c with
      fresh := true, acc := c.raw, level := s.inputLevel n { s.cell n with fresh := true, acc := (s.cell n).raw } } := by
  simp only [acceptLevel, acq, first, not_true_eq_false, Bool.false_eq_true, not_false_eq_true, if_false, if_true,
    modCell_modCell, cell_modCell_self]
  rfl

theorem acceptLevel_later (acq : s.acquiring n = true) (later : (s.cell n).fresh = true) :
    s.acceptLevel n = (s.modCell n fun c => c.levelTaken).formLevel n := by
  simp [acceptLevel, acq, later, FCell.levelTaken]

theorem comparatorChange_debounced (acq : s.acquiring n = true) (deb : s.fget (bankOf n) (CELL_DI_DEB_US n) ≠ 0) (l : Bool) :
    s.comparatorChange n l = s.modCell n fun c => { c with raw := l } := by simp [comparatorChange, acq, deb]

theorem comparatorChange_atOnce (acq : s.acquiring n = true) (deb : s.fget (bankOf n) (CELL_DI_DEB_US n) = 0) (l : Bool) :
    s.comparatorChange n l = (s.modCell n fun c => { c with raw := l }).debounceAccept n := by
  simp [comparatorChange, debounceAccept, acq, deb]

theorem wireBreakTimer_acquiring (acq : s.acquiring n = true) (en : s.wireBreakEnabled n = true)
    (fresh : (s.cell n).fresh = true) (below : Bool) :
    s.wireBreakTimer n below = (s.modCell n fun c => c.wireJudged below).formLevel n := by
  obtain ⟨running, alone⟩ : (s.bank (bankOf n)).running = true ∧ s.parted (bankOf n) = false := by
    simp only [acquiring, Bool.and_eq_true, Bool.not_eq_true'] at acq
    obtain ⟨⟨⟨⟨-, running⟩, -⟩, -⟩, alone⟩ := acq
    exact ⟨running, alone⟩
  simp [wireBreakTimer, acq, en, fresh, running, alone, FCell.wireJudged]

theorem freqGateEnd_linked (acq : s.acquiring n = true) (counter : s.fn n = FN_DI_COUNT)
    (mode : s.fget (bankOf n) (CELL_CTR_CFG_MODE n) = 3) (linked : (s.bank (bankOf n)).lost = false)
    (up : s.get (BANK_LINK_UP (bankOf n)) = 1) (timed : 0 < s.fget (bankOf n) (CELL_CTR_CFG_GATE_MS n)) :
    s.freqGateEnd n = s.modCell n fun c =>
      { c with gate := 0, freq := c.gate * 100000 / s.fget (bankOf n) (CELL_CTR_CFG_GATE_MS n), freqOk := true } := by
  simp [freqGateEnd, acq, counter, mode, linked, isSet, up, Nat.ne_of_gt timed]

theorem namurBandTimer_break (acq : s.acquiring n = true) (namur : s.fn n = FN_DI_NAMUR) (fresh : (s.cell n).fresh = true)
    (en : s.fget (bankOf n) (CELL_NAMUR_CFG_BREAK_EN n) = 1) :
    s.namurBandTimer n (some false) = (s.modCell n fun c => c.bandBroken).formLevel n := by
  simp [namurBandTimer, acq, namur, fresh, en, FCell.bandBroken]

end

end State

/-! ### Writes of TRIM.SEL and TRIM.STORE -/

theorem getLsbD_setBit {w : Nat} (v : BitVec w) {i j : Nat} (hj : j < w) (b : Bool) :
    (setBit v i b).getLsbD j = if j = i then b else v.getLsbD j := by
  by_cases same : j = i
  · subst same
    cases b <;> simp [setBit, hj]
  · cases b <;> simp [setBit, same, hj] <;> omega

namespace State

theorem word_respond (s : State) (x : Seat) (data : List Byte) (code a : Nat) : (s.respond x data code).word a = s.word a := rfl

theorem get_respond (s : State) (x : Seat) (data : List Byte) (code : Nat) (f : Fld) :
    (s.respond x data code).get f = s.get f := rfl

/-- A seat whose write reaches a register is out of reset. -/
theorem inReset_of_reaches {s : State} {x : Seat} {a : Nat} (reaches : Reaches s x a) : s.inReset = false := by
  have up := reaches.up
  simp only [portUp, Bool.and_eq_true, Bool.not_eq_true'] at up
  exact up.1

/-- A write of one word to a register that reaches its register checks and fails one of them is refused with its code (R215). -/
theorem seatWrite_refused {s : State} {x : Seat} {a : Nat} (reaches : Reaches s x a) (aligned : a % 4 = 0)
    (isMapped : unmappedWord a 1 = none) {w : Word} {code : Nat}
    (fails : s.wordCheck s (Cfg.overlay s.pendingCfg [(seatKey x a, w)]) x a w = code) (isCode : code ≠ 0)
    (noPower : a ≠ 0x300) (q : Fin 40) : s.seatWrite x a w q = s.refuse x true code a 0 := by
  have running : s.inReset = false := inReset_of_reaches reaches
  obtain ⟨up, awake, window, mode⟩ := reaches
  have range : s.rangeCheck x true a 1 = (0, 0) := by
    simp [rangeCheck, isMapped, barredWord, modeWord, writeAddrs_one, window, mode]
  have access : s.writeAccess x a [w] q = { st := s, code := code, addr := a, words := [] } := by
    simp [writeAccess, range, writeAddrs_one, putWords, running, fails, isCode, postRecs]
  simp [seatWrite, up, awake, aligned, access, notePower, noPower, finish, isCode]

/-- The record of a refusal that is neither a CRC error nor a staged change (R215, R217). -/
theorem refuse_eq (s : State) (x : Seat) {code : Nat} (crc : code ≠ 1) (staged : code ≠ 11) (a : Nat) :
    s.refuse x true code a 0 = ((((s.addSat (SEAT_ERRS_REFUSED x) 1).put (SEAT_LAST_REF_CODE x) code).put
      (SEAT_LAST_REF_WRITE x) 1).put (SEAT_LAST_REF_ADDR_ADDR x) a).respond x [] code := by
  simp [refuse, crc, staged, putB]

/-- Such a refusal is counted and recorded, and no more. -/
theorem refused_refuse (s : State) (x : Seat) {code a : Nat} (crc : code ≠ 1) (staged : code ≠ 11) (small : code < 128)
    (addr : a < 2 ^ 32) : Refused s (s.refuse x true code a 0) x code a := by
  rw [refuse_eq s x crc staged]
  constructor
  case code =>
    rw [get_respond, get_put_ne _ (by simp), get_put_beside _ (by simp) (by simp), get_put_same _ _ _ (by simp)]
    exact Nat.mod_eq_of_lt small
  case write =>
    rw [get_respond, get_put_ne _ (by simp), get_put_same _ _ _ (by simp)]
    rfl
  case addr =>
    rw [get_respond, get_put_same _ _ _ (by simp)]
    exact Nat.mod_eq_of_lt addr
  case count =>
    rw [get_respond, get_put_ne _ (by simp), get_put_ne _ (by simp), get_put_ne _ (by simp), addSat,
      get_put_same _ _ _ (by simp)]
    exact Nat.mod_eq_of_lt (Nat.lt_of_le_of_lt (Nat.min_le_right _ _) (Nat.sub_lt (Nat.two_pow_pos _) Nat.one_pos))
  case rest => rfl
  case regs =>
    intro k errs ref addr
    rw [word_respond, word_put_ne _ addr.symm, word_put_ne _ (f := SEAT_LAST_REF_WRITE x) ref.symm, word_put_ne _ ref.symm,
      addSat, word_put_ne _ errs.symm]
  case resp =>
    intro y hy
    have other : x.val ≠ y.val := fun e => hy (Fin.ext e.symm)
    exact Vector.getElem_set_ne x.isLt y.isLt other

/-- So a command that is such a write completes with the refusal. -/
theorem seatWrite_refuses {s : State} {x : Seat} {a : Nat} (reaches : Reaches s x a) (aligned : a % 4 = 0)
    (isMapped : unmappedWord a 1 = none) {w : Word} {code : Nat}
    (fails : s.wordCheck s (Cfg.overlay s.pendingCfg [(seatKey x a, w)]) x a w = code)
    (plain : (code ≠ 0 ∧ code ≠ 1 ∧ code ≠ 11 ∧ code < 128) ∧ a ≠ 0x300 ∧ a < 2 ^ 32) {q : Fin 40} :
    ∃ t, (.next (s.seatWrite x a w q) : Host.Outcome State Fault Refusal) = .next t ∧ Refused s t x code a := by
  obtain ⟨⟨isCode, crc, staged, small⟩, noPower, addr⟩ := plain
  exact ⟨_, congrArg Host.Outcome.next (seatWrite_refused reaches aligned isMapped fails isCode noPower q),
    s.refused_refuse x crc staged small addr⟩

/-- A write of one word that reaches its register and passes its checks leaves its effect, as an accepted frame does. -/
theorem seatWrite_accepted {s : State} {x : Seat} {a : Nat} (reaches : Reaches s x a) (aligned : a % 4 = 0)
    (isMapped : unmappedWord a 1 = none) {w : Word} {q : Fin 40}
    (passes : s.wordCheck s (Cfg.overlay s.pendingCfg [(seatKey x a, w)]) x a w = 0) (atOnce : isRwcReg a = false)
    (stays : (s.wordEffect x a w q.val (decide (32 < q.val))).inReset = false) :
    s.seatWrite x a w q = accepted x (s.wordEffect x a w q.val (decide (32 < q.val))) :=
  s.seatWrite_taken x a w q reaches.up reaches.awake aligned isMapped reaches.window reaches.mode
    (inReset_of_reaches reaches) passes atOnce stays

theorem word_accepted_ne (x : Seat) (m : State) {a : Nat} (h : a ≠ (SEAT_FRAMES_OK x).addr) :
    (accepted x m).word a = m.word a := word_put_ne m h.symm _

/-- What an accepted write of TRIM.SEL does for one cell (R114). -/
def selBit (x : Seat) (w : Word) (s : State) (n : Chan) : State :=
  if s.owner n = x then s.setWord 0x604 (setBit (s.word 0x604) n.val (w.getLsbD n.val)) else s

theorem word_selBit_ne (x : Seat) (w : Word) (s : State) (n : Chan) {a : Nat} (h : a ≠ 0x604) :
    (selBit x w s n).word a = s.word a := by
  unfold selBit
  split
  · exact word_setWord_ne s h.symm _
  · rfl

theorem owner_selBit (x : Seat) (w : Word) (s : State) (n k : Chan) : (selBit x w s n).owner k = s.owner k := by
  simp only [owner, get, word_selBit_ne x w s n (show (CELL_OWN_SEAT k).addr ≠ 0x604 by dsimp only; omega)]

theorem getLsbD_selBit (x : Seat) (w : Word) (s : State) (n k : Chan) :
    ((selBit x w s n).word 0x604).getLsbD k.val =
      if n = k ∧ s.owner k = x then w.getLsbD k.val else (s.word 0x604).getLsbD k.val := by
  by_cases owned : s.owner n = x
  · rw [selBit, if_pos owned, word_setWord_self, getLsbD_setBit _ k.isLt]
    by_cases same : k = n
    · simp [same, owned]
    · simp [Ne.symm same, Fin.val_ne_of_ne same]
  · rw [selBit, if_neg owned]
    by_cases same : n = k
    · subst same; simp [owned]
    · simp [same]

theorem selBit_regs (x : Seat) (w : Word) (s : State) (n : Chan) : ∃ r, selBit x w s n = { s with regs := r } := by
  unfold selBit
  split
  · exact ⟨_, rfl⟩
  · exact ⟨s.regs, rfl⟩

/-- What an accepted write of TRIM.SEL leaves (R114): the bit of each cell of the seat as written, the others as they were, and
no other register changed. -/
theorem selBits_word (x : Seat) (w : Word) (l : List Chan) (s : State) :
    let t := l.foldl (selBit x w) s
    (∀ n : Chan, (t.word 0x604).getLsbD n.val =
      if n ∈ l ∧ s.owner n = x then w.getLsbD n.val else (s.word 0x604).getLsbD n.val) ∧
    (∀ a, a ≠ 0x604 → t.word a = s.word a) ∧ t = { s with regs := t.regs } := by
  induction l generalizing s with
  | nil => simp
  | cons k l ih =>
    obtain ⟨sel, other, rest⟩ := ih (selBit x w s k)
    refine ⟨fun n => ?_, fun a ha => (other a ha).trans (word_selBit_ne x w s k ha), ?_⟩
    · rw [List.foldl_cons, sel n, owner_selBit, getLsbD_selBit]
      by_cases owned : s.owner n = x
      · by_cases later : n ∈ l
        · simp [owned, later]
        · simp [owned, later, eq_comm]
      · simp [owned]
    · obtain ⟨r, one⟩ := selBit_regs x w s k
      rw [List.foldl_cons]
      exact rest.trans (by rw [one])

theorem wordEffect_trimSel (s : State) (x : Seat) (w : Word) (q : Nat) (late : Bool) :
    s.wordEffect x 0x604 w q late = allChans.foldl (selBit x w) s := by
  simp [wordEffect, storeFields, ownEffect, cellOfAddr, bankOfAddr, unitOfAddr, sysEffect] <;> rfl

theorem selOk_iff (s : State) (x : Seat) (w : Word) :
    s.selOk x w = true ↔ ∀ n : Chan, w.getLsbD n.val = true → s.owner n = x := by
  have cell (n : Chan) : (! w.getLsbD n.val || s.owner n == x) = true ↔ (w.getLsbD n.val = true → s.owner n = x) := by
    cases w.getLsbD n.val <;> simp
  rw [selOk, allChans, List.all_eq_true]
  exact ⟨fun all n => (cell n).mp (all n (List.mem_finRange n)), fun all n _ => (cell n).mpr (all n)⟩

/-- The register checks of a write of TRIM.SEL or TRIM.STORE: the rights, the bits that no field has, the register's own rules. -/
theorem wordCheck_trim {a : Nat} (trim : a = 0x604 ∨ a = 0x60C) (s : State) (view : Cfg) (x : Seat) (w : Word) :
    s.wordCheck s view x a w =
      if s.mayWrite x a w = false then 7 else if w &&& ~~~ writableMask a ≠ 0 then 10 else s.sysCheck a w := by
  have masks : writableMask a ≠ 0#32 ∧ rwlMask a = 0 ∧ isRwcReg a = false ∧ isOutReg a = false := by
    rcases trim with rfl | rfl <;> decide
  obtain ⟨writable, rwl, rwc, out⟩ := masks
  have value (u : Word) : regOk view (seatKey x a) u = true := by
    rcases trim with rfl | rfl <;> simp [regOk, seatKey, cellOfAddr, wickOfAddr, bankOfAddr, unitOfAddr, globalRegOk]
  have own : s.ownCheck x a w = s.sysCheck a w := by
    rcases trim with rfl | rfl <;> simp [ownCheck, bankBarred, rwc, cellOrWick, cellOfAddr, wickOfAddr, bankOfAddr]
  have noEntry : ¬ (0xC0000 ≤ a ∧ a < 0xC0100) := by omega
  rw [wordCheck, if_neg (by omega), if_neg (by omega), if_neg (by omega), if_neg (by omega)]
  simp [regCheck, writable, rwl, rwc, out, value, own, noEntry]

theorem mayWrite_trimSel (s : State) (x : Seat) (w : Word) : s.mayWrite x 0x604 w = s.selOk x w := by
  simp [mayWrite, cellOfAddr, wickOfAddr, bankOfAddr, unitOfAddr]

theorem mayWrite_trimStore (s : State) (x : Seat) (w : Word) : s.mayWrite x 0x60C w = true := by
  simp [mayWrite, cellOfAddr, wickOfAddr, bankOfAddr, unitOfAddr]

/-- The register checks of a write of TRIM.SEL come to the rule of R114. -/
theorem wordCheck_trimSel (s : State) (view : Cfg) (x : Seat) (w : Word) :
    s.wordCheck s view x 0x604 w = if s.selOk x w then 0 else 7 := by
  have every : writableMask 0x604 = BitVec.allOnes 32 := by decide
  rw [wordCheck_trim (.inl rfl), mayWrite_trimSel, every]
  cases s.selOk x w <;> simp [sysCheck]

/-- The register checks of a write of TRIM.STORE come to the key and BUSY (R116). -/
theorem wordCheck_trimStore (s : State) (view : Cfg) (x : Seat) (key : BitVec 16) :
    s.wordCheck s view x 0x60C (key.setWidth 32) =
      if key ≠ 0xA5C3 then 10 else if s.isSet TRIM_STORE_BUSY then 12 else 0 := by
  have low : writableMask 0x60C = (BitVec.allOnes 16).setWidth 32 := by decide
  have fits : key.setWidth 32 &&& ~~~ (BitVec.allOnes 16).setWidth 32 = 0 := by
    refine BitVec.eq_of_getLsbD_eq fun i hi => ?_
    rw [BitVec.getLsbD_and, BitVec.getLsbD_not, getLsbD_ones, BitVec.getLsbD_setWidth]
    by_cases field : i < 16
    · simp [field, hi]
    · simp [BitVec.getLsbD_of_ge key i (Nat.le_of_not_lt field)]
  have word : bits (key.setWidth 32) 0 16 = 0xA5C3 ↔ key = 0xA5C3 := by
    simp [bits, ← BitVec.toNat_inj, Nat.mod_eq_of_lt key.isLt]
  rw [wordCheck_trim (.inr rfl), mayWrite_trimStore, low, fits]
  simp [sysCheck, word]

theorem wordEffect_trimStore (s : State) (x : Seat) (w : Word) (q : Nat) (late : Bool) :
    s.wordEffect x 0x60C w q late = s.trimStoreStart x := by
  have nothing : s.storeFields x 0x60C w = s := storeFields_none s x w (by decide) (by decide)
  simp [wordEffect, nothing, ownEffect, cellOfAddr, bankOfAddr, unitOfAddr, sysEffect]

end State

/-! ### A trim store that fails -/

/-- A trim store of seat 0 that waits for its end in a device whose eight spare sectors are taken (R370). -/
def State.storeWithoutSpare : State :=
  ({ State.reset with
      inReset := false, trimStore := some (0, some [(0, 0)]), nv := { State.reset.nv with spares := 0 } }).put TRIM_STORE_BUSY 1

end Sys2Proof.Machine

open Sys2Proof Sys2Proof.Machine

/-- Settles O45: each command's equation in its case, and what the forming of LEVEL counts. -/
theorem digitalInputsFormTheirLevel : Obligations.DigitalInputsFormTheirLevel := by
  unfold Obligations.DigitalInputsFormTheirLevel
  intro s n acq
  refine ⟨fun l => ⟨fun deb => ?noted, fun deb => ?atOnce⟩, fun first => ?first, fun later contact whole => ?later,
    fun later contact en below => ?wire, fun counter mode linked up timed => ?freq, fun namur later en val => ?band⟩
  case noted => exact congrArg Host.Outcome.next (State.comparatorChange_debounced acq deb l)
  case atOnce => exact congrArg Host.Outcome.next (State.comparatorChange_atOnce acq deb l)
  case first =>
    refine ⟨_, congrArg Host.Outcome.next (State.acceptLevel_first acq first), ?_⟩
    simp only [State.cell_modCell_self]
    exact ⟨trivial, trivial, trivial, trivial, State.frame_modCell s n _⟩
  case later =>
    refine ⟨_, congrArg Host.Outcome.next (State.acceptLevel_later acq later), ?_⟩
    obtain ⟨cell, frame⟩ := State.formLevel_forms s n .levelTaken
    have level : s.inputLevel n (s.cell n).levelTaken = ((s.cell n).raw != (s.fget (bankOf n) (CELL_DI_INV n) == 1)) := by
      rw [State.inputLevel_contact contact, FCell.levelTaken, whole]
      rfl
    dsimp only
    rw [cell, level, State.acc_leveled]
    exact ⟨State.leveled_counts s n _ _, rfl, frame⟩
  case wire =>
    refine ⟨_, congrArg Host.Outcome.next
      (State.wireBreakTimer_acquiring acq (State.wireBreakEnabled_contact contact en) later below), ?_⟩
    obtain ⟨cell, frame⟩ := State.formLevel_forms s n (.wireJudged below)
    dsimp only
    rw [cell, State.inputLevel_contact contact, FCell.live_wireJudged, State.live_leveled, State.occ_leveled]
    exact ⟨(s.cell n).live_wireJudged below, fun h => h ▸ (s.cell n).occ_wireJudged, State.leveled_counts s n _ _, frame⟩
  case freq => exact congrArg Host.Outcome.next (State.freqGateEnd_linked acq counter mode linked up timed)
  case band =>
    refine ⟨_, congrArg Host.Outcome.next (State.namurBandTimer_break acq namur later en), ?_⟩
    obtain ⟨cell, frame⟩ := State.formLevel_forms s n .bandBroken
    obtain ⟨live, occ⟩ := (s.cell n).flags_bandBroken
    have level : s.inputLevel n (s.cell n).bandBroken = false := State.inputLevel_namurBreak namur rfl en val
    dsimp only
    rw [cell, level, State.faultBand_leveled, State.live_leveled, State.occ_leveled]
    exact ⟨rfl, live, occ, State.leveled_counts s n _ _, frame⟩

/-- Settles O23: the register checks come to the rules of R114 and R116. -/
theorem trimSelectionAndStore : Obligations.TrimSelectionAndStore := by
  unfold Obligations.TrimSelectionAndStore
  intro s x w q
  refine ⟨fun reaches => ⟨fun own => ?taken, fun foreign => ?foreign⟩,
    fun reaches => ⟨fun idle => ?starts, fun busy => ?busy, fun key wrong => ?wrong⟩⟩
  case taken =>
    have accepts : s.wordCheck s (Cfg.overlay s.pendingCfg [(seatKey x 0x604, w)]) x 0x604 w = 0 := by
      rw [State.wordCheck_trimSel, if_pos ((s.selOk_iff x w).mpr own)]
    obtain ⟨sel, other, rest⟩ := State.selBits_word x w allChans s
    have running : s.inReset = false := State.inReset_of_reaches reaches
    have stays : (s.wordEffect x 0x604 w q.val (decide (32 < q.val))).inReset = false := by
      rw [State.wordEffect_trimSel, rest]
      exact running
    refine ⟨_, congrArg Host.Outcome.next
      (State.seatWrite_accepted reaches (by decide) (by decide) accepts (by decide) stays), ?_⟩
    rw [State.wordEffect_trimSel]
    refine ⟨fun n => ?_, ?_, fun a ha hf => ?_⟩
    · rw [State.word_accepted_ne _ _ (by dsimp only; omega), sel n]
      simp [allChans]
    · simp only [accepted]
      rw [rest]
      rfl
    · rw [State.word_accepted_ne _ _ hf, other a ha]
  case foreign =>
    have refuses : s.wordCheck s (Cfg.overlay s.pendingCfg [(seatKey x 0x604, w)]) x 0x604 w = 7 := by
      rw [State.wordCheck_trimSel, if_neg]
      intro ok
      obtain ⟨n, set, other⟩ := foreign
      exact other ((s.selOk_iff x w).mp ok n set)
    exact State.seatWrite_refuses reaches (by decide) (by decide) refuses (by decide)
  case starts =>
    have accepts : s.wordCheck s (Cfg.overlay s.pendingCfg [(seatKey x 0x60C, (0xA5C3 : BitVec 16).setWidth 32)]) x 0x60C
        ((0xA5C3 : BitVec 16).setWidth 32) = 0 := by
      rw [State.wordCheck_trimStore]
      simp [State.isSet, idle]
    have effect := s.wordEffect_trimStore x ((0xA5C3 : BitVec 16).setWidth 32) q.val (decide (32 < q.val))
    have running : s.inReset = false := State.inReset_of_reaches reaches
    have taken := State.seatWrite_accepted reaches (by decide) (by decide) accepts (by decide) (by rw [effect]; exact running)
    rw [effect] at taken
    exact congrArg Host.Outcome.next taken
  case busy =>
    refine State.seatWrite_refuses reaches (by decide) (by decide) ?_ (by decide)
    rw [State.wordCheck_trimStore]
    simp [State.isSet, busy]
  case wrong =>
    refine State.seatWrite_refuses reaches (by decide) (by decide) ?_ (by decide)
    rw [State.wordCheck_trimStore, if_pos wrong]

/-- Refutes O47: the clause on a failed store has NVM.STAT.ERR read the code of the failure. A store that fails with
PROGRAM_VERIFY (1) retires its sector, and where no spare is left NO_SPARE is raised (R370): NVM.STAT.ERR then reads 4 and
only TRIM.STAT.ERR_CODE reads 1. -/
theorem not_trimButtonsAndStore : ¬ Obligations.TrimButtonsAndStore := by
  unfold Obligations.TrimButtonsAndStore
  rintro ⟨-, stores⟩
  obtain ⟨t, ht, -, -, -, -, fails, -⟩ := stores State.storeWithoutSpare 0 [(0, 0)] rfl 1
  obtain rfl : State.storeWithoutSpare.trimStoreDone 1 = t := Host.Outcome.next.inj ht
  obtain ⟨-, -, code, -⟩ := fails (by decide)
  have noSpare : (State.storeWithoutSpare.trimStoreDone 1).get NVM_STAT_ERR = 4 := by decide +kernel
  exact absurd (noSpare.symm.trans code) (by decide)
end

section
/-!
PROOFS of the statements about the fabric image and transactions (06_fabric_image.md): what a write of LOAD_CTRL, LOAD_DATA or
FABRIC.TXN is checked for and does, from which the commands of loads and transactions follow (O21, O22), and a state in which
an atomic transaction is not DONE at its T0 (O51).
-/

namespace Sys2Proof.Machine

namespace State

open Sys2Proof.Claims

/-! ### A write of a register of FABRIC that takes commands or data -/

/-- The registers of FABRIC to which a seat gives commands or image data: LOAD_CTRL, TXN and LOAD_DATA. -/
def FabricCommandReg (a : Nat) : Prop := a = 0xE0040 ∨ a = 0xE0080 ∨ a = 0xE0100

/-- A configuration has no rule for the values of such a register. -/
theorem regOk_fabric {a : Nat} (reg : FabricCommandReg a) (view : Cfg) (x : Seat) (u : Word) :
    regOk view (seatKey x a) u = true := by
  have key : 0xE0000 ≤ seatKey x a ∧ seatKey x a % 0x100000000 ≠ 0x80114 := by
    rcases reg with rfl | rfl | rfl
    · have own : seatKey x 0xE0040 = 0xE0040 := if_neg (by decide)
      omega
    · have banked : seatKey x 0xE0080 = 0xE0080 + 0x100000000 * x.val := if_pos (by decide)
      omega
    · have own : seatKey x 0xE0100 = 0xE0100 := if_neg (by decide)
      omega
  obtain ⟨block, other⟩ := key
  have none : cellOfAddr (seatKey x a) = none ∧ bankOfAddr (seatKey x a) = none ∧ unitOfAddr (seatKey x a) = none ∧
      wickOfAddr (seatKey x a) = none := by
    refine ⟨if_neg ?_, if_neg ?_, if_neg ?_, if_neg ?_⟩ <;> omega
  obtain ⟨cell, bank, unit, wick⟩ := none
  simp only [regOk, cell, bank, unit, wick, globalRegOk, if_neg other]
  repeat rw [if_neg (by omega)]

/-- The register checks of such a write: the rights, the bits that no field has, the register's own rules. -/
theorem wordCheck_fabric {a : Nat} (reg : FabricCommandReg a) (s : State) (view : Cfg) (x : Seat) (w : Word) :
    s.wordCheck s view x a w =
      if s.mayWrite x a w = false then 7 else if w &&& ~~~ writableMask a ≠ 0 then 10 else s.fabricCheck x a w := by
  have masks : writableMask a ≠ 0#32 ∧ rwlMask a = 0 ∧ isRwcReg a = false ∧ isOutReg a = false := by
    rcases reg with rfl | rfl | rfl <;> decide
  obtain ⟨writable, rwl, rwc, out⟩ := masks
  have own : s.ownCheck x a w = s.fabricCheck x a w := by
    rcases reg with rfl | rfl | rfl <;>
      simp [ownCheck, bankBarred, rwc, cellOrWick, cellOfAddr, wickOfAddr, bankOfAddr]
  have block : 0xE0000 ≤ a ∧ a < 0xF0000 := by rcases reg with rfl | rfl | rfl <;> decide
  have noEntry : ¬ (0xC0000 ≤ a ∧ a < 0xC0100) := by omega
  rw [wordCheck, if_neg (by omega), if_neg (by omega), if_neg (by omega), if_neg (by omega)]
  simp [regCheck, writable, rwl, rwc, out, regOk_fabric reg, own, noEntry]

/-- What such a write does where it stores no field. -/
theorem wordEffect_fabric {a : Nat} (reg : FabricCommandReg a) {s : State} {x : Seat} {w : Word} (noField : s.storeFields x a w = s)
    (q : Nat) (late : Bool) : s.wordEffect x a w q late = s.fabricEffect x a w := by
  rcases reg with rfl | rfl | rfl <;>
    simp [wordEffect, noField, ownEffect, cellOfAddr, bankOfAddr, unitOfAddr]

/-- A seat with its MODE_SEATS bit may write them all, and any seat its own TXN (R194, R197, R421). -/
theorem mayWrite_fabric {a : Nat} (reg : FabricCommandReg a) {s : State} {x : Seat} (right : s.modeSeat x = true ∨ a = 0xE0080)
    (w : Word) : s.mayWrite x a w = true := by
  rcases reg with rfl | rfl | rfl <;>
    simp_all [mayWrite, cellOfAddr, wickOfAddr, unitOfAddr, bankOfAddr]

section
variable {s : State} {x : Seat} {a : Nat} {w : Word} {q : Fin 40}

/-- A seat gives a word to such a register: it reaches the register with the right to write it, and the word sets no bit that no
field has. -/
structure FabricWrite (s : State) (x : Seat) (a : Nat) (w : Word) : Prop where
  reg : FabricCommandReg a
  reaches : Reaches s x a
  right : s.modeSeat x = true ∨ a = 0xE0080
  fits : w &&& ~~~ writableMask a = 0

/-- Then its checks come to the register's own rules. -/
theorem FabricWrite.wordCheck (h : FabricWrite s x a w) (view : Cfg) : s.wordCheck s view x a w = s.fabricCheck x a w := by
  rw [wordCheck_fabric h.reg, mayWrite_fabric h.reg h.right, if_neg (by decide), if_neg fun beyond => beyond h.fits]

theorem FabricWrite.mapped (h : FabricWrite s x a w) : a % 4 = 0 ∧ unmappedWord a 1 = none ∧ isRwcReg a = false := by
  rcases h.reg with rfl | rfl | rfl <;> decide

/-- A word that stores no field and passes them leaves its effect. -/
theorem FabricWrite.takesEffect (h : FabricWrite s x a w) (noField : s.storeFields x a w = s) (passes : s.fabricCheck x a w = 0)
    {m : State} (effect : s.fabricEffect x a w = m) (stays : m.inReset = s.inReset) :
    (.next (s.seatWrite x a w q) : Host.Outcome State Fault Refusal) = .next (accepted x m) := by
  obtain ⟨aligned, isMapped, atOnce⟩ := h.mapped
  have whole := (wordEffect_fabric h.reg noField q.val (decide (32 < q.val))).trans effect
  rw [seatWrite_accepted h.reaches aligned isMapped ((h.wordCheck _).trans passes) atOnce, whole]
  rw [whole, stays]
  exact inReset_of_reaches h.reaches

/-- A word that fails them is refused. -/
theorem FabricWrite.refuses (h : FabricWrite s x a w) {code : Nat} (fails : s.fabricCheck x a w = code)
    (plain : code ≠ 0 ∧ code ≠ 1 ∧ code ≠ 11 ∧ code < 128) :
    ∃ t, (.next (s.seatWrite x a w q) : Host.Outcome State Fault Refusal) = .next t ∧ Refused s t x code a := by
  obtain ⟨aligned, isMapped, -⟩ := h.mapped
  refine seatWrite_refuses h.reaches aligned isMapped ((h.wordCheck _).trans fails) ⟨plain, ?_⟩
  rcases h.reg with rfl | rfl | rfl <;> decide

end

/-! ### Loads -/

/-- The word of LOAD_CTRL that starts a load in a mode (R193). -/
def startWord : LoadMode → Word
  | .install => 0x11
  | .apply => 0x21
  | .installApply => 0x31
  | .reconcile => 0x41

theorem storeFields_loadCtrl (s : State) (x : Seat) (w : Word) : s.storeFields x 0xE0040 w = s :=
  storeFields_none s x w (by decide) (by decide)

theorem storeFields_loadData (s : State) (x : Seat) (w : Word) : s.storeFields x 0xE0100 w = s :=
  storeFields_none s x w (by decide) (by decide)

/-- LOAD_CTRL holds no field that a command would have to keep. -/
theorem seatCommand_loadCtrl (s : State) (x : Seat) (w : Word) (q : Fin 40) :
    s.seatCommand x 0xE0040 w q = s.seatWrite x 0xE0040 w q := by
  have none : rwMask 0xE0040 = 0 := by decide
  simp [seatCommand, none]

theorem fabricCheck_start (s : State) (x : Seat) (mode : LoadMode) :
    s.fabricCheck x 0xE0040 (startWord mode) = if s.loadRefused x mode then 12 else 0 := by
  cases mode <;> simp [fabricCheck, loadCheck, loadRefused, startWord, bits, or_assoc]

theorem fabricEffect_start (s : State) (x : Seat) (mode : LoadMode) :
    s.fabricEffect x 0xE0040 (startWord mode) = s.loadStart x mode := by
  cases mode <;> rfl

theorem fabricCheck_end (s : State) (x : Seat) : s.fabricCheck x 0xE0040 2 = dataCheck s.load x := by
  cases h : s.load <;> simp [fabricCheck, loadCheck, dataCheck, h]

theorem fabricCheck_cancel {s : State} {l : Load} (running : s.load = some l) (x : Seat) :
    s.fabricCheck x 0xE0040 4 = if l.seat = x then 0 else 7 := by
  simp [fabricCheck, loadCheck, running]

theorem fabricCheck_data (s : State) (x : Seat) (w : Word) : s.fabricCheck x 0xE0100 w = dataCheck s.load x := by
  simp [fabricCheck]

theorem fabricEffect_data (s : State) (x : Seat) (w : Word) : s.fabricEffect x 0xE0100 w = s.loadData x w := by
  simp [fabricEffect]

theorem dataCheck_mine {l : Load} {x : Seat} (mine : l.seat = x) (receiving : l.phase = .receiving) :
    dataCheck (some l) x = 0 := by
  simp [dataCheck, mine, receiving]

theorem dataCheck_other {l : Load} {x : Seat} (other : l.seat ≠ x) : dataCheck (some l) x = 7 := by
  simp [dataCheck, other]

theorem txnBusy_idle {s : State} {x : Seat} (quiet : s.txns[seatTxn x] = none) : s.txnBusy x = false :=
  congrArg Option.isSome quiet

theorem seatInTxn_idle {s : State} {x : Seat} (closed : s.txnOpen[x] = false) (quiet : s.txns[seatTxn x] = none) :
    s.seatInTxn x = false := by
  rw [seatInTxn, closed, txnBusy_idle quiet]
  rfl

/-- A START by a seat with its MODE_SEATS bit, while no load runs, is refused for a transaction of the seat alone (R194, R204). -/
theorem loadRefused_idle {s : State} {x : Seat} {mode : LoadMode} (right : s.modeSeat x = true) (idle : s.load = none)
    (free : mode = .install ∨ mode = .installApply ∨ s.seatInTxn x = false) : s.loadRefused x mode = false := by
  rcases free with rfl | rfl | free
  · simp [loadRefused, right, idle]
  · simp [loadRefused, right, idle]
  · simp [loadRefused, right, idle, free]

/-- LOAD_START begins the load where no rule of R194 or R204 refuses it: receiving, or validating at once for RECONCILE. -/
theorem loadStart_eq {s : State} {x : Seat} {mode : LoadMode} (free : s.loadRefused x mode = false) :
    s.loadStart x mode =
      if mode = .reconcile then loadStarted s x mode .validating 2 else loadStarted s x mode .receiving 1 := by
  simp only [loadStart, free, Bool.false_eq_true, if_false]
  rfl

theorem inReset_raiseIn (s : State) (line : Nat) (x : Seat) : (s.raiseIn line x).inReset = s.inReset := by
  unfold raiseIn
  split
  · rfl
  · split <;> rfl

section
variable {s : State} {x : Seat} {q : Fin 40} {mode : LoadMode}

/-- A word of LOAD_CTRL by a seat with its MODE_SEATS bit. -/
theorem fabricWrite_loadCtrl (right : s.modeSeat x = true) (reaches : Reaches s x 0xE0040) {w : Word} (fits : w &&& ~~~ 0x77 = 0) :
    FabricWrite s x 0xE0040 w where
  reg := .inl rfl
  reaches := reaches
  right := .inl right
  fits := by rwa [show writableMask 0xE0040 = 0x77 by decide]

theorem startWord_fits (mode : LoadMode) : startWord mode &&& ~~~ 0x77 = 0 := by
  cases mode <;> decide

theorem loadStart_accepted (right : s.modeSeat x = true) (reaches : Reaches s x 0xE0040) (free : s.loadRefused x mode = false) :
    (.next (s.seatWrite x 0xE0040 (startWord mode) q) : Host.Outcome State Fault Refusal) = .next (accepted x
      (if mode = .reconcile then loadStarted s x mode .validating 2 else loadStarted s x mode .receiving 1)) := by
  have passes : s.fabricCheck x 0xE0040 (startWord mode) = 0 := by rw [fabricCheck_start, free]; rfl
  refine (fabricWrite_loadCtrl right reaches (startWord_fits mode)).takesEffect (storeFields_loadCtrl s x _) passes
    ((fabricEffect_start s x mode).trans (loadStart_eq free)) ?_
  split <;> rfl

theorem loadStart_refuses (right : s.modeSeat x = true) (reaches : Reaches s x 0xE0040) (barred : s.loadRefused x mode = true) :
    ∃ t, (.next (s.seatWrite x 0xE0040 (startWord mode) q) : Host.Outcome State Fault Refusal) = .next t ∧
      Refused s t x 12 0xE0040 := by
  have fails : s.fabricCheck x 0xE0040 (startWord mode) = 12 := by rw [fabricCheck_start, barred]; rfl
  exact (fabricWrite_loadCtrl right reaches (startWord_fits mode)).refuses fails (by decide)

end

/-! ### Transactions -/

theorem get_accepted_ne (x : Seat) (m : State) {f : Fld} (h : f.addr ≠ (SEAT_FRAMES_OK x).addr) :
    (accepted x m).get f = m.get f := by
  simp only [get, word_accepted_ne x m h]

/-- The word with which a command of FABRIC.TXN is given: its bit, and STAGED_OK as the seat has it. -/
def txnWord (s : State) (x : Seat) (w : Word) : Word := (s.word (seatKey x 0xE0080) &&& rwMask 0xE0080) ||| w

/-- A bit of such a word other than STAGED_OK is that of the command. -/
theorem getLsbD_txnWord (s : State) (x : Seat) (w : Word) {i : Nat} (other : 3 ≠ i) :
    (s.txnWord x w).getLsbD i = w.getLsbD i := by
  have stagedOk : rwMask 0xE0080 = BitVec.twoPow 32 3 := by decide
  simp [txnWord, stagedOk, BitVec.getLsbD_twoPow, other]

/-- The bits of FABRIC.TXN that give a command of a seat's transaction (R197, R198): OPEN, COMMIT, ABORT, CHECK. -/
def TxnCommand (w : Word) : Prop := w = 1 ∨ w = 2 ∨ w = 4 ∨ w = 16

/-- A command stores no field: STAGED_OK keeps its value. -/
theorem storeFields_txn (s : State) (x : Seat) {w : Word} (command : TxnCommand w) :
    s.storeFields x 0xE0080 (s.txnWord x w) = s := by
  have bit : w &&& rwMask 0xE0080 = 0 := by rcases command with rfl | rfl | rfl | rfl <;> decide
  have held : s.imageHeld 0xE0080 = 0#32 := if_neg (by omega)
  refine storeFields_same s x _ (by decide) ?_ ?_
  · rw [txnWord, BitVec.and_or_distrib_right, BitVec.and_assoc, BitVec.and_self, bit]
    exact BitVec.or_zero
  · rw [held, BitVec.not_zero, BitVec.and_allOnes]

/-- The rules of FABRIC.TXN for a command (R198): ABORT needs an open transaction, COMMIT and CHECK that none is under way. -/
theorem fabricCheck_txn (s : State) (x : Seat) (w : Word) :
    s.fabricCheck x 0xE0080 (s.txnWord x w) =
      if w.getLsbD 2 ∧ ! s.txnOpen[x] then 8 else if (w.getLsbD 1 ∨ w.getLsbD 4) ∧ s.txnBusy x then 12 else 0 := by
  simp only [fabricCheck, getLsbD_txnWord s x w (show 3 ≠ 1 by decide), getLsbD_txnWord s x w (show 3 ≠ 2 by decide),
    getLsbD_txnWord s x w (show 3 ≠ 4 by decide)]
  rfl

/-- The effect of a word of FABRIC.TXN: its commands in the order OPEN, COMMIT, ABORT, CHECK. -/
theorem fabricEffect_txn (s : State) (x : Seat) (w : Word) :
    s.fabricEffect x 0xE0080 (s.txnWord x w) =
      let s1 := if w.getLsbD 0 then s.txnOpenCmd x else s
      let s2 := if w.getLsbD 1 then s1.txnCommitCmd x else s1
      let s3 := if w.getLsbD 2 then s2.txnAbortCmd x else s2
      if w.getLsbD 4 then s3.txnCheckCmd x else s3 := by
  simp only [fabricEffect, getLsbD_txnWord s x w (show 3 ≠ 0 by decide), getLsbD_txnWord s x w (show 3 ≠ 1 by decide),
    getLsbD_txnWord s x w (show 3 ≠ 2 by decide), getLsbD_txnWord s x w (show 3 ≠ 4 by decide)]
  rfl

section
variable {s : State} {x : Seat} {w : Word} {q : Fin 40}

theorem fabricWrite_txn (reaches : Reaches s x 0xE0080) (command : TxnCommand w) : FabricWrite s x 0xE0080 (s.txnWord x w) where
  reg := .inr (.inl rfl)
  reaches := reaches
  right := .inr rfl
  fits := by
    have stagedOk : rwMask 0xE0080 &&& ~~~ writableMask 0xE0080 = 0#32 := by decide
    have bit : w &&& ~~~ writableMask 0xE0080 = 0 := by rcases command with rfl | rfl | rfl | rfl <;> decide
    rw [txnWord, BitVec.and_or_distrib_right, BitVec.and_assoc, stagedOk, bit, BitVec.and_zero]
    exact BitVec.or_zero

/-- A command that passes the rules of R198 leaves its effect. -/
theorem txnCommand_accepted (reaches : Reaches s x 0xE0080) (command : TxnCommand w)
    (passes : s.fabricCheck x 0xE0080 (s.txnWord x w) = 0) {m : State} (effect : s.fabricEffect x 0xE0080 (s.txnWord x w) = m)
    (stays : m.inReset = s.inReset) :
    (.next (s.seatCommand x 0xE0080 w q) : Host.Outcome State Fault Refusal) = .next (accepted x m) :=
  (fabricWrite_txn reaches command).takesEffect (storeFields_txn s x command) passes effect stays

theorem txnCommand_refuses (reaches : Reaches s x 0xE0080) (command : TxnCommand w) {code : Nat}
    (fails : s.fabricCheck x 0xE0080 (s.txnWord x w) = code) (plain : code ≠ 0 ∧ code ≠ 1 ∧ code ≠ 11 ∧ code < 128) :
    ∃ t, (.next (s.seatCommand x 0xE0080 w q) : Host.Outcome State Fault Refusal) = .next t ∧ Refused s t x code 0xE0080 :=
  (fabricWrite_txn reaches command).refuses fails plain

end

/-- Registers set to 0 one after another: each of them reads 0, no other changes. -/
theorem forEach_setWord_zero {ι : Type} (addr : ι → Nat) (l : List ι) (s : State) :
    let t := s.forEach l (fun s i => s.setWord (addr i) 0)
    (∀ i ∈ l, t.word (addr i) = 0) ∧ (∀ a, (∀ i ∈ l, a ≠ addr i) → t.word a = s.word a) ∧ t = { s with regs := t.regs } := by
  induction l generalizing s with
  | nil => simp [forEach]
  | cons k l ih =>
    obtain ⟨zero, other, rest⟩ := ih (s.setWord (addr k) 0)
    refine ⟨fun i hi => ?_, fun a ha => ?_, rest.trans rfl⟩
    · by_cases later : ∃ j ∈ l, addr i = addr j
      · obtain ⟨j, hj, same⟩ := later
        rw [same]
        exact zero j hj
      · have last : ∀ j ∈ l, addr i ≠ addr j := fun j hj same => later ⟨j, hj, same⟩
        obtain rfl : i = k := (List.mem_cons.mp hi).resolve_right fun hl => last i hl rfl
        exact (other _ last).trans (word_setWord_self s _ _)
    · exact (other a fun i hi => ha i (List.mem_cons_of_mem _ hi)).trans
        (word_setWord_ne s (ha k List.mem_cons_self).symm _)

/-- What OPEN makes of a state in which the seat's buffer is empty (R197). -/
def txnOpened (s : State) (x : Seat) : State :=
  ({ s with txnOpen := s.txnOpen.set x true }.put (FABRIC_TXN_COUNT_N.ofSeat x) 0).put (FABRIC_TXN_STAT_STATE.ofSeat x) 1

theorem setTxnOpen_put (s : State) (x : Seat) (f g : Fld) (v w : Nat) :
    { (s.put f v).put g w with txnOpen := ((s.put f v).put g w).txnOpen.set x true } =
      ({ s with txnOpen := s.txnOpen.set x true }.put f v).put g w := rfl

theorem txnOpenCmd_eq (s : State) (x : Seat) : s.txnOpenCmd x =
    (s.forEach (List.range 1024) fun s i => s.setWord (bankedKey x (0xE1000 + 4 * i)) 0).txnOpened x :=
  setTxnOpen_put _ x (FABRIC_TXN_COUNT_N.ofSeat x) (FABRIC_TXN_STAT_STATE.ofSeat x) 0 1

theorem word_txnOpened_ne (s : State) (x : Seat) {a : Nat} (stat : a ≠ bankedKey x 0xE0084) (count : a ≠ bankedKey x 0xE0088) :
    (s.txnOpened x).word a = s.word a := by
  rw [txnOpened, word_put_ne _ (f := FABRIC_TXN_STAT_STATE.ofSeat x) stat.symm,
    word_put_ne _ (f := FABRIC_TXN_COUNT_N.ofSeat x) count.symm]
  rfl

theorem get_txnOpened (s : State) (x : Seat) :
    (s.txnOpened x).get (FABRIC_TXN_STAT_STATE.ofSeat x) = 1 ∧ (s.txnOpened x).get (FABRIC_TXN_COUNT_N.ofSeat x) = 0 := by
  constructor
  · rw [txnOpened, get_put_same _ _ _ (by simp [Fld.ofSeat])]
    rfl
  · rw [txnOpened, get_put_ne _ (by simp [Fld.ofSeat, bankedKey]), get_put_same _ _ _ (by simp [Fld.ofSeat])]
    rfl

/-- OPEN leaves the seat with an empty buffer and COUNT, STATE reads OPEN, and nothing else changes (R197). -/
theorem txnOpenCmd_opens (s : State) (x : Seat) :
    let t := s.txnOpenCmd x
    t.txnOpen = s.txnOpen.set x true ∧ t.get (FABRIC_TXN_STAT_STATE.ofSeat x) = 1 ∧ t.get (FABRIC_TXN_COUNT_N.ofSeat x) = 0 ∧
    (∀ i, i < 1024 → t.word (bankedKey x (0xE1000 + 4 * i)) = 0) ∧ t = { s with regs := t.regs, txnOpen := t.txnOpen } ∧
    ∀ a, a ≠ bankedKey x 0xE0084 → a ≠ bankedKey x 0xE0088 → (∀ i, i < 1024 → a ≠ bankedKey x (0xE1000 + 4 * i)) →
      t.word a = s.word a := by
  obtain ⟨zero, other, rest⟩ := forEach_setWord_zero (fun i => bankedKey x (0xE1000 + 4 * i)) (List.range 1024) s
  rw [txnOpenCmd_eq]
  generalize s.forEach (List.range 1024) (fun s i => s.setWord (bankedKey x (0xE1000 + 4 * i)) 0) = b at zero other rest ⊢
  obtain ⟨state, count⟩ := b.get_txnOpened x
  refine ⟨by rw [rest]; rfl, state, count, fun i hi => ?_, by rw [rest]; rfl, fun a hs hc hb => ?_⟩
  · rw [word_txnOpened_ne b x (by simp only [bankedKey]; omega) (by simp only [bankedKey]; omega)]
    exact zero i (List.mem_range.mpr hi)
  · rw [word_txnOpened_ne b x hs hc]
    exact other a fun i hi => hb i (List.mem_range.mp hi)

/-! ### A transaction that is not DONE at its T0 -/

/-- An atomic transaction of seat 0 that writes the OUT of cell 0, waits for T0 and has a rail that still falls. -/
def waitingRun : TxnRun :=
  { seat := 0, recs := [((CELL_OUT_VALUE 0).addr, (1 : BitVec 16).setWidth 32)], phase := .waiting, falling := [(0, 0)] }

/-- A device whose cell 0 is a DO_HS and in which this transaction waits. -/
def waitsWithFallingRail : State :=
  { State.reset with inReset := false, txns := #v[some waitingRun, none, none, none, none] }.put (CELL_CFG_FUNC 0) FN_DO_HS

/-- T0 keeps the rails that fall (R202 order 8), so the transaction goes on. -/
theorem waitsWithFallingRail_runsOn : (waitsWithFallingRail.txnT0Whole 0).txns[(0 : Fin 5)] ≠ none := by decide +kernel

end State
end Sys2Proof.Machine

open Sys2Proof Sys2Proof.Machine Sys2Proof.Claims

/-- Settles O21: the register checks come to the rules of R193, R194 and R204, and the effect of each word to its command. -/
theorem fabricLoadCommands : Obligations.FabricLoadCommands := by
  unfold Obligations.FabricLoadCommands
  intro s x q w right reaches
  have ctrl {v : Word} (fits : v &&& ~~~ 0x77 = 0) := State.fabricWrite_loadCtrl right reaches fits
  have data (reaches : Reaches s x 0xE0100) : State.FabricWrite s x 0xE0100 w :=
    ⟨.inr (.inr rfl), reaches, .inl right, by rw [show writableMask 0xE0100 = BitVec.allOnes 32 by decide]; simp⟩
  have endWrite : exec (.loadEnd x q) s = .next (s.seatWrite x 0xE0040 2 q) :=
    congrArg Host.Outcome.next (s.seatCommand_loadCtrl x 2 q)
  have cancelWrite : exec (.loadCancel x q) s = .next (s.seatWrite x 0xE0040 4 q) :=
    congrArg Host.Outcome.next (s.seatCommand_loadCtrl x 4 q)
  refine ⟨fun idle => ⟨?install, ?installApply, fun closed quiet => ⟨?apply, ?reconcile⟩, fun opened => ?inTxn⟩, fun busy => ?busy,
    fun l running mine => ⟨fun receiving => ⟨fun reaches => ?data, ?close⟩, fun phase => ?cancel⟩,
    fun l running other => ⟨fun reaches => ?otherData, ?otherEnd, ?otherCancel⟩⟩
  case install =>
    exact State.loadStart_accepted (mode := .install) right reaches (State.loadRefused_idle right idle (.inl rfl))
  case installApply =>
    exact State.loadStart_accepted (mode := .installApply) right reaches (State.loadRefused_idle right idle (.inr (.inl rfl)))
  case apply =>
    have free : s.seatInTxn x = false := State.seatInTxn_idle closed quiet
    exact State.loadStart_accepted (mode := .apply) right reaches (State.loadRefused_idle right idle (.inr (.inr free)))
  case reconcile =>
    have free : s.seatInTxn x = false := State.seatInTxn_idle closed quiet
    exact State.loadStart_accepted (mode := .reconcile) right reaches (State.loadRefused_idle right idle (.inr (.inr free)))
  case inTxn =>
    exact State.loadStart_refuses (mode := .apply) right reaches (by simp [State.loadRefused, State.seatInTxn, opened])
  case busy =>
    exact State.loadStart_refuses (mode := .install) right reaches
      (by simp [State.loadRefused, Option.isSome_iff_ne_none.mpr busy])
  case data =>
    refine (data reaches).takesEffect (s.storeFields_loadData x w) ?_ (s.fabricEffect_data x w |>.trans ?_) rfl
    · rw [State.fabricCheck_data, running]
      exact State.dataCheck_mine mine receiving
    · simp [State.loadData, running, mine, receiving]
  case close =>
    rw [endWrite]
    refine (ctrl (by decide)).takesEffect (s.storeFields_loadCtrl x 2) ?_ ?_ rfl
    · rw [State.fabricCheck_end, running]
      exact State.dataCheck_mine mine receiving
    · simp [State.fabricEffect, State.loadEndCmd, running, mine, receiving]
  case cancel =>
    rw [cancelWrite]
    refine (ctrl (by decide)).takesEffect (s.storeFields_loadCtrl x 4) ?_ ?_ (State.inReset_raiseIn _ _ _)
    · rw [State.fabricCheck_cancel running, if_pos mine]
    · rcases phase with phase | phase <;>
        simp [State.fabricEffect, State.loadCancel, running, mine, phase, State.loadEnd, loadCancelled]
  case otherData =>
    refine (data reaches).refuses ?_ (by decide)
    rw [State.fabricCheck_data, running]
    exact State.dataCheck_other other
  case otherEnd =>
    rw [CompletesWith, endWrite]
    refine (ctrl (by decide)).refuses ?_ (by decide)
    rw [State.fabricCheck_end, running]
    exact State.dataCheck_other other
  case otherCancel =>
    rw [CompletesWith, cancelWrite]
    refine (ctrl (by decide)).refuses ?_ (by decide)
    rw [State.fabricCheck_cancel running, if_neg other]

/-- Settles O22: each command of FABRIC.TXN comes to the rules of R198 and to its effect. -/
theorem transactionCommands : Obligations.TransactionCommands := by
  unfold Obligations.TransactionCommands
  intro s x q reaches slot run
  refine ⟨?opens, fun quiet => ⟨?commit, ?check⟩, fun busy => ⟨?commitBusy, ?checkBusy⟩, fun opened => ?abort,
    fun closed => ?abortClosed⟩
  case opens =>
    obtain ⟨openSet, state, count, buffer, rest, other⟩ := s.txnOpenCmd_opens x
    have effect : s.fabricEffect x 0xE0080 (s.txnWord x 1) = s.txnOpenCmd x := by simp [State.fabricEffect_txn]
    have passes : s.fabricCheck x 0xE0080 (s.txnWord x 1) = 0 := by simp [State.fabricCheck_txn]
    refine ⟨_, State.txnCommand_accepted reaches (.inl rfl) passes effect (by rw [rest]), ?_⟩
    generalize s.txnOpenCmd x = t at openSet state count buffer rest other ⊢
    have banked {o : Nat} (h : 0xE0000 ≤ o) : bankedKey x o ≠ (SEAT_FRAMES_OK x).addr := by simp only [bankedKey]; omega
    refine ⟨openSet, ?_, ?_, fun i hi => ?_, ?_, fun a frames hs hc hb => ?_⟩
    · exact (State.get_accepted_ne x t (banked (by decide))).trans state
    · exact (State.get_accepted_ne x t (banked (by decide))).trans count
    · rw [State.word_accepted_ne x t (banked (by omega))]
      exact buffer i hi
    · rw [accepted, rest]
      rfl
    · rw [State.word_accepted_ne x t frames]
      exact other a hs hc hb
  case commit =>
    have idle : s.txnBusy x = false := State.txnBusy_idle quiet
    refine State.txnCommand_accepted reaches (.inr (.inl rfl)) ?_ ?_ ?_
    · simp [State.fabricCheck_txn, idle]
    · simp [State.fabricEffect_txn, State.txnCommitCmd, idle]
      rfl
    · rfl
  case check =>
    have idle : s.txnBusy x = false := State.txnBusy_idle quiet
    refine State.txnCommand_accepted reaches (.inr (.inr (.inr rfl))) ?_ ?_ ?_
    · simp [State.fabricCheck_txn, idle]
    · simp [State.fabricEffect_txn, State.txnCheckCmd, idle]
      rfl
    · rfl
  case commitBusy =>
    have runs : s.txnBusy x = true := Option.isSome_iff_ne_none.mpr busy
    exact State.txnCommand_refuses reaches (.inr (.inl rfl)) (by simp [State.fabricCheck_txn, runs]) (by decide)
  case checkBusy =>
    have runs : s.txnBusy x = true := Option.isSome_iff_ne_none.mpr busy
    exact State.txnCommand_refuses reaches (.inr (.inr (.inr rfl))) (by simp [State.fabricCheck_txn, runs]) (by decide)
  case abort =>
    refine State.txnCommand_accepted reaches (.inr (.inr (.inl rfl))) ?_ ?_ (State.inReset_raiseIn _ _ _)
    · simp [State.fabricCheck_txn, opened]
    · simp [State.fabricEffect_txn, State.txnAbortCmd, opened]
      rfl
  case abortClosed =>
    exact State.txnCommand_refuses reaches (.inr (.inr (.inl rfl))) (by simp [State.fabricCheck_txn, closed]) (by decide)

/-- Refutes O51: the clause on TXN_T0 has every atomic transaction that waits DONE at T0, in any state. A transaction is DONE only
when no rail of it falls any more (R202), and the clause has no premise that a waiting one has none: one that waits with rail A
of bank 0 in its list of falling rails runs on after T0. (A run never makes a transaction wait with such a rail: a COMMIT
starts it with the list empty.) -/
theorem not_loadsAndTransactionsRunTheirSteps : ¬ Obligations.LoadsAndTransactionsRunTheirSteps := by
  unfold Obligations.LoadsAndTransactionsRunTheirSteps
  rintro ⟨-, -, steps⟩
  obtain ⟨atT0, -⟩ := steps State.waitsWithFallingRail 0 State.waitingRun rfl rfl
  obtain ⟨t, ht, ⟨ends, -⟩, -⟩ := atT0 rfl rfl rfl rfl rfl 0 1 rfl (by decide +kernel) rfl
  obtain rfl : State.waitsWithFallingRail.txnT0Whole 0 = t := Host.Outcome.next.inj ht
  refine State.waitsWithFallingRail_runsOn ?_
  rw [ends]
  rfl
end
